-- ==== Sys2Proof/Word.lean ====
section
/-! DEFINITION. The two data widths of the machine: the byte of every access and the 16-bit address (R9, R71). -/

namespace Sys2Proof

/-- One byte: the width of every register half, memory cell and architected access (R71). -/
abbrev Byte := BitVec 8

/-- A 16-bit quantity: an address, a port number or a Z80 register pair (R9, R70). -/
abbrev Word := BitVec 16

end Sys2Proof
end

