-- ==== Sys2Proof/Forms.lean ====
section
/-! DEFINITION. The operand forms of the two instruction sets: the M6502 addressing modes (R112) and the Z80 field
tables (R130). -/

namespace Sys2Proof

/-- Which CPU core a machine has (R1, R3). -/
inductive Family where
  | m6502
  | z80
deriving DecidableEq, Repr

/-- The M6502 operand forms that name a byte of memory (R112, R114 to R119). -/
inductive MMode where
  | zp  (b1 : Byte)
  | zpx (b1 : Byte)
  | zpy (b1 : Byte)
  | abs (b1 b2 : Byte)
  | abx (b1 b2 : Byte)
  | aby (b1 b2 : Byte)
  | izx (b1 : Byte)
  | izy (b1 : Byte)
deriving DecidableEq, Repr

/-- The M6502 operand of a read-class instruction: the immediate byte (R113) or a byte of memory. -/
inductive MForm where
  | imm (b1 : Byte)
  | mem (m : MMode)
deriving DecidableEq, Repr

/-- The seven Z80 byte registers an encoding can name; code 6 is the memory operand and is no register (R130, R271). -/
inductive R8 where
  | b | c | d | e | h | l | a
deriving DecidableEq, Repr

/-- The Z80 pairs of the table `rp` (R130). -/
inductive RP where
  | bc | de | hl | sp
deriving DecidableEq, Repr

/-- The Z80 pairs of the table `rp2`, the ones PUSH and POP name (R130). -/
inductive QQ where
  | bc | de | hl | af
deriving DecidableEq, Repr

/-- The index register a DD or FD first byte selects (R135). -/
inductive XY where
  | ix | iy
deriving DecidableEq, Repr

/-- The second operand of `ADD IX,pp` and `ADD IY,pp`: BC, DE, the index register itself, SP (R343). -/
inductive PP where
  | bc | de | self | sp
deriving DecidableEq, Repr

/-- The eight Z80 conditions (R130, R380). -/
inductive CC where
  | nz | z | nc | c | po | pe | p | m
deriving DecidableEq, Repr

/-- The Z80 memory operand: at HL, or at an index register plus a signed displacement (R130, R131). -/
inductive ZMem where
  | hl
  | idx (x : XY) (d : Byte)
deriving DecidableEq, Repr

/-- The operand `s` of the eight accumulator operations (R320). -/
inductive ZSrc where
  | reg (r : R8)
  | imm (n : Byte)
  | mem (m : ZMem)
deriving DecidableEq, Repr

/-- The operand `m` of rotates, shifts, BIT, SET and RES: a register or a byte of memory (R352 to R365). -/
inductive ZTgt where
  | reg (r : R8)
  | mem (m : ZMem)
deriving DecidableEq, Repr

/-- The three interrupt modes (R38, R399). -/
inductive ImMode where
  | im0 | im1 | im2
deriving DecidableEq, Repr

/-- The direction of a Z80 block instruction: upwards (LDI, CPI, INI, OUTI) or downwards (LDD, CPD, IND, OUTD). -/
inductive Dir where
  | up | down
deriving DecidableEq, Repr

/-! ### Operations of the M6502, by class (R124, R245) -/

/-- A register an M6502 store names. -/
inductive MReg where
  | a | x | y
deriving DecidableEq, Repr

/-- The read-class operations of the M6502 (R124). -/
inductive MReadOp where
  | lda | ldx | ldy | adc | sbc | and | ora | eor | cmp | cpx | cpy | bit
deriving DecidableEq, Repr

/-- The modify-class operations of the M6502 (R124); the shifts have an accumulator form as well. -/
inductive MModOp where
  | asl | lsr | rol | ror | inc | dec
deriving DecidableEq, Repr

/-- The M6502 instructions that touch registers and flags alone: transfers, register increments and decrements, flag
instructions, NOP. -/
inductive MImpl where
  | tax | tay | txa | tya | tsx | txs
  | inx | iny | dex | dey
  | clc | sec | cld | sed | cli | sei | clv | nop
deriving DecidableEq, Repr

/-- The eight branch conditions of the M6502 (R246 to R253). -/
inductive MCond where
  | cc | cs | eq | ne | mi | pl | vc | vs
deriving DecidableEq, Repr

/-! ### Operations of the Z80, by class -/

/-- The eight accumulator operations `alu[k]` (R130). -/
inductive ZAlu where
  | add | adc | sub | sbc | and | xor | or | cp
deriving DecidableEq, Repr

/-- The seven defined rotates and shifts `rot[k]` (R130). -/
inductive ZRot where
  | rlc | rrc | rl | rr | sla | sra | srl
deriving DecidableEq, Repr

/-- The four accumulator rotates (R348 to R351). -/
inductive ZAccRot where
  | rlca | rrca | rla | rra
deriving DecidableEq, Repr

/-- The general-purpose accumulator and flag operations (R335 to R339). -/
inductive ZGen where
  | daa | cpl | neg | ccf | scf
deriving DecidableEq, Repr

/-- INC or DEC (R329 to R334, R344 to R347). -/
inductive IncDec where
  | inc | dec
deriving DecidableEq, Repr

/-- The three 16-bit additions and subtractions on HL (R340 to R342). -/
inductive ZArith16 where
  | add | adc | sbc
deriving DecidableEq, Repr

/-- A register pair of a 16-bit load or of a push: a pair of `rp` or an index register. -/
inductive Pair where
  | rp (p : RP)
  | xy (x : XY)
deriving DecidableEq, Repr

/-- What PUSH and POP name: a pair of `rp2` or an index register. -/
inductive StackPair where
  | qq (q : QQ)
  | xy (x : XY)
deriving DecidableEq, Repr

/-- HL or the index register that a DD or FD first byte puts in its place (R130). -/
inductive HLXY where
  | hl
  | xy (x : XY)
deriving DecidableEq, Repr

/-- The special registers that LD moves to and from the accumulator (R284 to R287). -/
inductive IR where
  | i | r
deriving DecidableEq, Repr

/-! ### What is no instruction -/

/-- The kinds of illegal opcode (R126, R137). -/
inductive Illegal where
  /-- One of the M6502 bytes with no row (R126). -/
  | m6502
  /-- `CB 30` to `CB 37` (R137 a). -/
  | z80Cb
  /-- `ED` and a byte with no row (R137 b). -/
  | z80Ed
  /-- `DD` or `FD` and a byte with no row (R137 c). -/
  | z80Prefix
  /-- `DD CB d op` or `FD CB d op` with no row (R137 d). -/
  | z80IndexCb
deriving DecidableEq, Repr

end Sys2Proof
end

