-- ==== Sys2Proof/Syntax.lean ====
section
/-! DEFINITION. The instructions of both families: one constructor per row of the opcode table, its operands the operand
bytes of the row in address order (R111, R112, R128). A name begins with the family (`m` for the M6502, `z` for the Z80)
and goes on with the row's mnemonic; `at` stands for the parentheses of a memory operand and `alt` for the prime of the
alternate set. `zLdEd_…` are the longer encodings of two loads (R291, R294). -/

namespace Sys2Proof

/-- One instruction of either family, decoded. -/
inductive Instr where
  /-- `BRK` (R254). -/
  | mBrk
  /-- `ORA (b1,X)` (R214). -/
  | mOraIzx (b1 : Byte)
  /-- `ORA b1` (R214). -/
  | mOraZp (b1 : Byte)
  /-- `ASL b1` (R226). -/
  | mAslZp (b1 : Byte)
  /-- `PHP` (R195). -/
  | mPhp
  /-- `ORA #b1` (R214). -/
  | mOraImm (b1 : Byte)
  /-- `ASL A` (R226). -/
  | mAslAcc
  /-- `ORA nn` (R214). -/
  | mOraAbs (b1 b2 : Byte)
  /-- `ASL nn` (R226). -/
  | mAslAbs (b1 b2 : Byte)
  /-- `BPL rel(b1)` (R251). -/
  | mBpl (b1 : Byte)
  /-- `ORA (b1),Y` (R214). -/
  | mOraIzy (b1 : Byte)
  /-- `ORA b1,X` (R214). -/
  | mOraZpx (b1 : Byte)
  /-- `ASL b1,X` (R226). -/
  | mAslZpx (b1 : Byte)
  /-- `CLC` (R255). -/
  | mClc
  /-- `ORA nn,Y` (R214). -/
  | mOraAby (b1 b2 : Byte)
  /-- `ORA nn,X` (R214). -/
  | mOraAbx (b1 b2 : Byte)
  /-- `ASL nn,X` (R226). -/
  | mAslAbx (b1 b2 : Byte)
  /-- `JSR nn` (R242). -/
  | mJsr (b1 b2 : Byte)
  /-- `AND (b1,X)` (R213). -/
  | mAndIzx (b1 : Byte)
  /-- `the halt sentinel, byte 0x22 at IDLE_ADDR` (R263). -/
  | mHaltSentinel
  /-- `BIT b1` (R219). -/
  | mBitZp (b1 : Byte)
  /-- `AND b1` (R213). -/
  | mAndZp (b1 : Byte)
  /-- `ROL b1` (R228). -/
  | mRolZp (b1 : Byte)
  /-- `PLP` (R197). -/
  | mPlp
  /-- `AND #b1` (R213). -/
  | mAndImm (b1 : Byte)
  /-- `ROL A` (R228). -/
  | mRolAcc
  /-- `BIT nn` (R219). -/
  | mBitAbs (b1 b2 : Byte)
  /-- `AND nn` (R213). -/
  | mAndAbs (b1 b2 : Byte)
  /-- `ROL nn` (R228). -/
  | mRolAbs (b1 b2 : Byte)
  /-- `BMI rel(b1)` (R250). -/
  | mBmi (b1 : Byte)
  /-- `AND (b1),Y` (R213). -/
  | mAndIzy (b1 : Byte)
  /-- `AND b1,X` (R213). -/
  | mAndZpx (b1 : Byte)
  /-- `ROL b1,X` (R228). -/
  | mRolZpx (b1 : Byte)
  /-- `SEC` (R256). -/
  | mSec
  /-- `AND nn,Y` (R213). -/
  | mAndAby (b1 b2 : Byte)
  /-- `AND nn,X` (R213). -/
  | mAndAbx (b1 b2 : Byte)
  /-- `ROL nn,X` (R228). -/
  | mRolAbx (b1 b2 : Byte)
  /-- `RTI` (R244). -/
  | mRti
  /-- `EOR (b1,X)` (R215). -/
  | mEorIzx (b1 : Byte)
  /-- `EOR b1` (R215). -/
  | mEorZp (b1 : Byte)
  /-- `LSR b1` (R227). -/
  | mLsrZp (b1 : Byte)
  /-- `PHA` (R194). -/
  | mPha
  /-- `EOR #b1` (R215). -/
  | mEorImm (b1 : Byte)
  /-- `LSR A` (R227). -/
  | mLsrAcc
  /-- `JMP nn` (R241). -/
  | mJmpAbs (b1 b2 : Byte)
  /-- `EOR nn` (R215). -/
  | mEorAbs (b1 b2 : Byte)
  /-- `LSR nn` (R227). -/
  | mLsrAbs (b1 b2 : Byte)
  /-- `BVC rel(b1)` (R252). -/
  | mBvc (b1 : Byte)
  /-- `EOR (b1),Y` (R215). -/
  | mEorIzy (b1 : Byte)
  /-- `EOR b1,X` (R215). -/
  | mEorZpx (b1 : Byte)
  /-- `LSR b1,X` (R227). -/
  | mLsrZpx (b1 : Byte)
  /-- `CLI` (R259). -/
  | mCli
  /-- `EOR nn,Y` (R215). -/
  | mEorAby (b1 b2 : Byte)
  /-- `EOR nn,X` (R215). -/
  | mEorAbx (b1 b2 : Byte)
  /-- `LSR nn,X` (R227). -/
  | mLsrAbx (b1 b2 : Byte)
  /-- `RTS` (R243). -/
  | mRts
  /-- `ADC (b1,X)` (R211). -/
  | mAdcIzx (b1 : Byte)
  /-- `ADC b1` (R211). -/
  | mAdcZp (b1 : Byte)
  /-- `ROR b1` (R229). -/
  | mRorZp (b1 : Byte)
  /-- `PLA` (R196). -/
  | mPla
  /-- `ADC #b1` (R211). -/
  | mAdcImm (b1 : Byte)
  /-- `ROR A` (R229). -/
  | mRorAcc
  /-- `JMP (nn)` (R241). -/
  | mJmpInd (b1 b2 : Byte)
  /-- `ADC nn` (R211). -/
  | mAdcAbs (b1 b2 : Byte)
  /-- `ROR nn` (R229). -/
  | mRorAbs (b1 b2 : Byte)
  /-- `BVS rel(b1)` (R253). -/
  | mBvs (b1 : Byte)
  /-- `ADC (b1),Y` (R211). -/
  | mAdcIzy (b1 : Byte)
  /-- `ADC b1,X` (R211). -/
  | mAdcZpx (b1 : Byte)
  /-- `ROR b1,X` (R229). -/
  | mRorZpx (b1 : Byte)
  /-- `SEI` (R260). -/
  | mSei
  /-- `ADC nn,Y` (R211). -/
  | mAdcAby (b1 b2 : Byte)
  /-- `ADC nn,X` (R211). -/
  | mAdcAbx (b1 b2 : Byte)
  /-- `ROR nn,X` (R229). -/
  | mRorAbx (b1 b2 : Byte)
  /-- `STA (b1,X)` (R185). -/
  | mStaIzx (b1 : Byte)
  /-- `STY b1` (R187). -/
  | mStyZp (b1 : Byte)
  /-- `STA b1` (R185). -/
  | mStaZp (b1 : Byte)
  /-- `STX b1` (R186). -/
  | mStxZp (b1 : Byte)
  /-- `DEY` (R225). -/
  | mDey
  /-- `TXA` (R190). -/
  | mTxa
  /-- `STY nn` (R187). -/
  | mStyAbs (b1 b2 : Byte)
  /-- `STA nn` (R185). -/
  | mStaAbs (b1 b2 : Byte)
  /-- `STX nn` (R186). -/
  | mStxAbs (b1 b2 : Byte)
  /-- `BCC rel(b1)` (R246). -/
  | mBcc (b1 : Byte)
  /-- `STA (b1),Y` (R185). -/
  | mStaIzy (b1 : Byte)
  /-- `STY b1,X` (R187). -/
  | mStyZpx (b1 : Byte)
  /-- `STA b1,X` (R185). -/
  | mStaZpx (b1 : Byte)
  /-- `STX b1,Y` (R186). -/
  | mStxZpy (b1 : Byte)
  /-- `TYA` (R191). -/
  | mTya
  /-- `STA nn,Y` (R185). -/
  | mStaAby (b1 b2 : Byte)
  /-- `TXS` (R193). -/
  | mTxs
  /-- `STA nn,X` (R185). -/
  | mStaAbx (b1 b2 : Byte)
  /-- `LDY #b1` (R184). -/
  | mLdyImm (b1 : Byte)
  /-- `LDA (b1,X)` (R182). -/
  | mLdaIzx (b1 : Byte)
  /-- `LDX #b1` (R183). -/
  | mLdxImm (b1 : Byte)
  /-- `LDY b1` (R184). -/
  | mLdyZp (b1 : Byte)
  /-- `LDA b1` (R182). -/
  | mLdaZp (b1 : Byte)
  /-- `LDX b1` (R183). -/
  | mLdxZp (b1 : Byte)
  /-- `TAY` (R189). -/
  | mTay
  /-- `LDA #b1` (R182). -/
  | mLdaImm (b1 : Byte)
  /-- `TAX` (R188). -/
  | mTax
  /-- `LDY nn` (R184). -/
  | mLdyAbs (b1 b2 : Byte)
  /-- `LDA nn` (R182). -/
  | mLdaAbs (b1 b2 : Byte)
  /-- `LDX nn` (R183). -/
  | mLdxAbs (b1 b2 : Byte)
  /-- `BCS rel(b1)` (R247). -/
  | mBcs (b1 : Byte)
  /-- `LDA (b1),Y` (R182). -/
  | mLdaIzy (b1 : Byte)
  /-- `LDY b1,X` (R184). -/
  | mLdyZpx (b1 : Byte)
  /-- `LDA b1,X` (R182). -/
  | mLdaZpx (b1 : Byte)
  /-- `LDX b1,Y` (R183). -/
  | mLdxZpy (b1 : Byte)
  /-- `CLV` (R261). -/
  | mClv
  /-- `LDA nn,Y` (R182). -/
  | mLdaAby (b1 b2 : Byte)
  /-- `TSX` (R192). -/
  | mTsx
  /-- `LDY nn,X` (R184). -/
  | mLdyAbx (b1 b2 : Byte)
  /-- `LDA nn,X` (R182). -/
  | mLdaAbx (b1 b2 : Byte)
  /-- `LDX nn,Y` (R183). -/
  | mLdxAby (b1 b2 : Byte)
  /-- `CPY #b1` (R218). -/
  | mCpyImm (b1 : Byte)
  /-- `CMP (b1,X)` (R216). -/
  | mCmpIzx (b1 : Byte)
  /-- `CPY b1` (R218). -/
  | mCpyZp (b1 : Byte)
  /-- `CMP b1` (R216). -/
  | mCmpZp (b1 : Byte)
  /-- `DEC b1` (R221). -/
  | mDecZp (b1 : Byte)
  /-- `INY` (R223). -/
  | mIny
  /-- `CMP #b1` (R216). -/
  | mCmpImm (b1 : Byte)
  /-- `DEX` (R224). -/
  | mDex
  /-- `CPY nn` (R218). -/
  | mCpyAbs (b1 b2 : Byte)
  /-- `CMP nn` (R216). -/
  | mCmpAbs (b1 b2 : Byte)
  /-- `DEC nn` (R221). -/
  | mDecAbs (b1 b2 : Byte)
  /-- `BNE rel(b1)` (R249). -/
  | mBne (b1 : Byte)
  /-- `CMP (b1),Y` (R216). -/
  | mCmpIzy (b1 : Byte)
  /-- `CMP b1,X` (R216). -/
  | mCmpZpx (b1 : Byte)
  /-- `DEC b1,X` (R221). -/
  | mDecZpx (b1 : Byte)
  /-- `CLD` (R257). -/
  | mCld
  /-- `CMP nn,Y` (R216). -/
  | mCmpAby (b1 b2 : Byte)
  /-- `CMP nn,X` (R216). -/
  | mCmpAbx (b1 b2 : Byte)
  /-- `DEC nn,X` (R221). -/
  | mDecAbx (b1 b2 : Byte)
  /-- `CPX #b1` (R217). -/
  | mCpxImm (b1 : Byte)
  /-- `SBC (b1,X)` (R212). -/
  | mSbcIzx (b1 : Byte)
  /-- `CPX b1` (R217). -/
  | mCpxZp (b1 : Byte)
  /-- `SBC b1` (R212). -/
  | mSbcZp (b1 : Byte)
  /-- `INC b1` (R220). -/
  | mIncZp (b1 : Byte)
  /-- `INX` (R222). -/
  | mInx
  /-- `SBC #b1` (R212). -/
  | mSbcImm (b1 : Byte)
  /-- `NOP` (R262). -/
  | mNop
  /-- `CPX nn` (R217). -/
  | mCpxAbs (b1 b2 : Byte)
  /-- `SBC nn` (R212). -/
  | mSbcAbs (b1 b2 : Byte)
  /-- `INC nn` (R220). -/
  | mIncAbs (b1 b2 : Byte)
  /-- `BEQ rel(b1)` (R248). -/
  | mBeq (b1 : Byte)
  /-- `SBC (b1),Y` (R212). -/
  | mSbcIzy (b1 : Byte)
  /-- `SBC b1,X` (R212). -/
  | mSbcZpx (b1 : Byte)
  /-- `INC b1,X` (R220). -/
  | mIncZpx (b1 : Byte)
  /-- `SED` (R258). -/
  | mSed
  /-- `SBC nn,Y` (R212). -/
  | mSbcAby (b1 b2 : Byte)
  /-- `SBC nn,X` (R212). -/
  | mSbcAbx (b1 b2 : Byte)
  /-- `INC nn,X` (R220). -/
  | mIncAbx (b1 b2 : Byte)
  /-- `NOP` (R395). -/
  | zNop
  /-- `LD BC,nn` (R288). -/
  | zLd_BC_nn (lo hi : Byte)
  /-- `LD (BC),A` (R282). -/
  | zLd_atBC_A
  /-- `INC BC` (R344). -/
  | zInc_BC
  /-- `INC B` (R329). -/
  | zInc_B
  /-- `DEC B` (R332). -/
  | zDec_B
  /-- `LD B,n` (R273). -/
  | zLd_B_n (n : Byte)
  /-- `RLCA` (R348). -/
  | zRlca
  /-- `EX AF,AF'` (R303). -/
  | zEx_AF_AFalt
  /-- `ADD HL,BC` (R340). -/
  | zAdd_HL_BC
  /-- `LD A,(BC)` (R280). -/
  | zLd_A_atBC
  /-- `DEC BC` (R346). -/
  | zDec_BC
  /-- `INC C` (R329). -/
  | zInc_C
  /-- `DEC C` (R332). -/
  | zDec_C
  /-- `LD C,n` (R273). -/
  | zLd_C_n (n : Byte)
  /-- `RRCA` (R350). -/
  | zRrca
  /-- `DJNZ e` (R387). -/
  | zDjnz_e (e : Byte)
  /-- `LD DE,nn` (R288). -/
  | zLd_DE_nn (lo hi : Byte)
  /-- `LD (DE),A` (R282). -/
  | zLd_atDE_A
  /-- `INC DE` (R344). -/
  | zInc_DE
  /-- `INC D` (R329). -/
  | zInc_D
  /-- `DEC D` (R332). -/
  | zDec_D
  /-- `LD D,n` (R273). -/
  | zLd_D_n (n : Byte)
  /-- `RLA` (R349). -/
  | zRla
  /-- `JR e` (R383). -/
  | zJr_e (e : Byte)
  /-- `ADD HL,DE` (R340). -/
  | zAdd_HL_DE
  /-- `LD A,(DE)` (R280). -/
  | zLd_A_atDE
  /-- `DEC DE` (R346). -/
  | zDec_DE
  /-- `INC E` (R329). -/
  | zInc_E
  /-- `DEC E` (R332). -/
  | zDec_E
  /-- `LD E,n` (R273). -/
  | zLd_E_n (n : Byte)
  /-- `RRA` (R351). -/
  | zRra
  /-- `JR NZ,e` (R384). -/
  | zJr_NZ_e (e : Byte)
  /-- `LD HL,nn` (R288). -/
  | zLd_HL_nn (lo hi : Byte)
  /-- `LD (nn),HL` (R293). -/
  | zLd_atnn_HL (lo hi : Byte)
  /-- `INC HL` (R344). -/
  | zInc_HL
  /-- `INC H` (R329). -/
  | zInc_H
  /-- `DEC H` (R332). -/
  | zDec_H
  /-- `LD H,n` (R273). -/
  | zLd_H_n (n : Byte)
  /-- `DAA` (R335). -/
  | zDaa
  /-- `JR Z,e` (R384). -/
  | zJr_Z_e (e : Byte)
  /-- `ADD HL,HL` (R340). -/
  | zAdd_HL_HL
  /-- `LD HL,(nn)` (R290). -/
  | zLd_HL_atnn (lo hi : Byte)
  /-- `DEC HL` (R346). -/
  | zDec_HL
  /-- `INC L` (R329). -/
  | zInc_L
  /-- `DEC L` (R332). -/
  | zDec_L
  /-- `LD L,n` (R273). -/
  | zLd_L_n (n : Byte)
  /-- `CPL` (R336). -/
  | zCpl
  /-- `JR NC,e` (R384). -/
  | zJr_NC_e (e : Byte)
  /-- `LD SP,nn` (R288). -/
  | zLd_SP_nn (lo hi : Byte)
  /-- `LD (nn),A` (R283). -/
  | zLd_atnn_A (lo hi : Byte)
  /-- `INC SP` (R344). -/
  | zInc_SP
  /-- `INC (HL)` (R330). -/
  | zInc_atHL
  /-- `DEC (HL)` (R333). -/
  | zDec_atHL
  /-- `LD (HL),n` (R278). -/
  | zLd_atHL_n (n : Byte)
  /-- `SCF` (R339). -/
  | zScf
  /-- `JR C,e` (R384). -/
  | zJr_C_e (e : Byte)
  /-- `ADD HL,SP` (R340). -/
  | zAdd_HL_SP
  /-- `LD A,(nn)` (R281). -/
  | zLd_A_atnn (lo hi : Byte)
  /-- `DEC SP` (R346). -/
  | zDec_SP
  /-- `INC A` (R329). -/
  | zInc_A
  /-- `DEC A` (R332). -/
  | zDec_A
  /-- `LD A,n` (R273). -/
  | zLd_A_n (n : Byte)
  /-- `CCF` (R338). -/
  | zCcf
  /-- `LD B,B` (R272). -/
  | zLd_B_B
  /-- `LD B,C` (R272). -/
  | zLd_B_C
  /-- `LD B,D` (R272). -/
  | zLd_B_D
  /-- `LD B,E` (R272). -/
  | zLd_B_E
  /-- `LD B,H` (R272). -/
  | zLd_B_H
  /-- `LD B,L` (R272). -/
  | zLd_B_L
  /-- `LD B,(HL)` (R274). -/
  | zLd_B_atHL
  /-- `LD B,A` (R272). -/
  | zLd_B_A
  /-- `LD C,B` (R272). -/
  | zLd_C_B
  /-- `LD C,C` (R272). -/
  | zLd_C_C
  /-- `LD C,D` (R272). -/
  | zLd_C_D
  /-- `LD C,E` (R272). -/
  | zLd_C_E
  /-- `LD C,H` (R272). -/
  | zLd_C_H
  /-- `LD C,L` (R272). -/
  | zLd_C_L
  /-- `LD C,(HL)` (R274). -/
  | zLd_C_atHL
  /-- `LD C,A` (R272). -/
  | zLd_C_A
  /-- `LD D,B` (R272). -/
  | zLd_D_B
  /-- `LD D,C` (R272). -/
  | zLd_D_C
  /-- `LD D,D` (R272). -/
  | zLd_D_D
  /-- `LD D,E` (R272). -/
  | zLd_D_E
  /-- `LD D,H` (R272). -/
  | zLd_D_H
  /-- `LD D,L` (R272). -/
  | zLd_D_L
  /-- `LD D,(HL)` (R274). -/
  | zLd_D_atHL
  /-- `LD D,A` (R272). -/
  | zLd_D_A
  /-- `LD E,B` (R272). -/
  | zLd_E_B
  /-- `LD E,C` (R272). -/
  | zLd_E_C
  /-- `LD E,D` (R272). -/
  | zLd_E_D
  /-- `LD E,E` (R272). -/
  | zLd_E_E
  /-- `LD E,H` (R272). -/
  | zLd_E_H
  /-- `LD E,L` (R272). -/
  | zLd_E_L
  /-- `LD E,(HL)` (R274). -/
  | zLd_E_atHL
  /-- `LD E,A` (R272). -/
  | zLd_E_A
  /-- `LD H,B` (R272). -/
  | zLd_H_B
  /-- `LD H,C` (R272). -/
  | zLd_H_C
  /-- `LD H,D` (R272). -/
  | zLd_H_D
  /-- `LD H,E` (R272). -/
  | zLd_H_E
  /-- `LD H,H` (R272). -/
  | zLd_H_H
  /-- `LD H,L` (R272). -/
  | zLd_H_L
  /-- `LD H,(HL)` (R274). -/
  | zLd_H_atHL
  /-- `LD H,A` (R272). -/
  | zLd_H_A
  /-- `LD L,B` (R272). -/
  | zLd_L_B
  /-- `LD L,C` (R272). -/
  | zLd_L_C
  /-- `LD L,D` (R272). -/
  | zLd_L_D
  /-- `LD L,E` (R272). -/
  | zLd_L_E
  /-- `LD L,H` (R272). -/
  | zLd_L_H
  /-- `LD L,L` (R272). -/
  | zLd_L_L
  /-- `LD L,(HL)` (R274). -/
  | zLd_L_atHL
  /-- `LD L,A` (R272). -/
  | zLd_L_A
  /-- `LD (HL),B` (R276). -/
  | zLd_atHL_B
  /-- `LD (HL),C` (R276). -/
  | zLd_atHL_C
  /-- `LD (HL),D` (R276). -/
  | zLd_atHL_D
  /-- `LD (HL),E` (R276). -/
  | zLd_atHL_E
  /-- `LD (HL),H` (R276). -/
  | zLd_atHL_H
  /-- `LD (HL),L` (R276). -/
  | zLd_atHL_L
  /-- `HALT` (R396). -/
  | zHalt
  /-- `LD (HL),A` (R276). -/
  | zLd_atHL_A
  /-- `LD A,B` (R272). -/
  | zLd_A_B
  /-- `LD A,C` (R272). -/
  | zLd_A_C
  /-- `LD A,D` (R272). -/
  | zLd_A_D
  /-- `LD A,E` (R272). -/
  | zLd_A_E
  /-- `LD A,H` (R272). -/
  | zLd_A_H
  /-- `LD A,L` (R272). -/
  | zLd_A_L
  /-- `LD A,(HL)` (R274). -/
  | zLd_A_atHL
  /-- `LD A,A` (R272). -/
  | zLd_A_A
  /-- `ADD A,B` (R321). -/
  | zAdd_A_B
  /-- `ADD A,C` (R321). -/
  | zAdd_A_C
  /-- `ADD A,D` (R321). -/
  | zAdd_A_D
  /-- `ADD A,E` (R321). -/
  | zAdd_A_E
  /-- `ADD A,H` (R321). -/
  | zAdd_A_H
  /-- `ADD A,L` (R321). -/
  | zAdd_A_L
  /-- `ADD A,(HL)` (R321). -/
  | zAdd_A_atHL
  /-- `ADD A,A` (R321). -/
  | zAdd_A_A
  /-- `ADC A,B` (R322). -/
  | zAdc_A_B
  /-- `ADC A,C` (R322). -/
  | zAdc_A_C
  /-- `ADC A,D` (R322). -/
  | zAdc_A_D
  /-- `ADC A,E` (R322). -/
  | zAdc_A_E
  /-- `ADC A,H` (R322). -/
  | zAdc_A_H
  /-- `ADC A,L` (R322). -/
  | zAdc_A_L
  /-- `ADC A,(HL)` (R322). -/
  | zAdc_A_atHL
  /-- `ADC A,A` (R322). -/
  | zAdc_A_A
  /-- `SUB B` (R323). -/
  | zSub_B
  /-- `SUB C` (R323). -/
  | zSub_C
  /-- `SUB D` (R323). -/
  | zSub_D
  /-- `SUB E` (R323). -/
  | zSub_E
  /-- `SUB H` (R323). -/
  | zSub_H
  /-- `SUB L` (R323). -/
  | zSub_L
  /-- `SUB (HL)` (R323). -/
  | zSub_atHL
  /-- `SUB A` (R323). -/
  | zSub_A
  /-- `SBC A,B` (R324). -/
  | zSbc_A_B
  /-- `SBC A,C` (R324). -/
  | zSbc_A_C
  /-- `SBC A,D` (R324). -/
  | zSbc_A_D
  /-- `SBC A,E` (R324). -/
  | zSbc_A_E
  /-- `SBC A,H` (R324). -/
  | zSbc_A_H
  /-- `SBC A,L` (R324). -/
  | zSbc_A_L
  /-- `SBC A,(HL)` (R324). -/
  | zSbc_A_atHL
  /-- `SBC A,A` (R324). -/
  | zSbc_A_A
  /-- `AND B` (R325). -/
  | zAnd_B
  /-- `AND C` (R325). -/
  | zAnd_C
  /-- `AND D` (R325). -/
  | zAnd_D
  /-- `AND E` (R325). -/
  | zAnd_E
  /-- `AND H` (R325). -/
  | zAnd_H
  /-- `AND L` (R325). -/
  | zAnd_L
  /-- `AND (HL)` (R325). -/
  | zAnd_atHL
  /-- `AND A` (R325). -/
  | zAnd_A
  /-- `XOR B` (R327). -/
  | zXor_B
  /-- `XOR C` (R327). -/
  | zXor_C
  /-- `XOR D` (R327). -/
  | zXor_D
  /-- `XOR E` (R327). -/
  | zXor_E
  /-- `XOR H` (R327). -/
  | zXor_H
  /-- `XOR L` (R327). -/
  | zXor_L
  /-- `XOR (HL)` (R327). -/
  | zXor_atHL
  /-- `XOR A` (R327). -/
  | zXor_A
  /-- `OR B` (R326). -/
  | zOr_B
  /-- `OR C` (R326). -/
  | zOr_C
  /-- `OR D` (R326). -/
  | zOr_D
  /-- `OR E` (R326). -/
  | zOr_E
  /-- `OR H` (R326). -/
  | zOr_H
  /-- `OR L` (R326). -/
  | zOr_L
  /-- `OR (HL)` (R326). -/
  | zOr_atHL
  /-- `OR A` (R326). -/
  | zOr_A
  /-- `CP B` (R328). -/
  | zCp_B
  /-- `CP C` (R328). -/
  | zCp_C
  /-- `CP D` (R328). -/
  | zCp_D
  /-- `CP E` (R328). -/
  | zCp_E
  /-- `CP H` (R328). -/
  | zCp_H
  /-- `CP L` (R328). -/
  | zCp_L
  /-- `CP (HL)` (R328). -/
  | zCp_atHL
  /-- `CP A` (R328). -/
  | zCp_A
  /-- `RET NZ` (R391). -/
  | zRet_NZ
  /-- `POP BC` (R300). -/
  | zPop_BC
  /-- `JP NZ,nn` (R382). -/
  | zJp_NZ_nn (lo hi : Byte)
  /-- `JP nn` (R381). -/
  | zJp_nn (lo hi : Byte)
  /-- `CALL NZ,nn` (R389). -/
  | zCall_NZ_nn (lo hi : Byte)
  /-- `PUSH BC` (R298). -/
  | zPush_BC
  /-- `ADD A,n` (R321). -/
  | zAdd_A_n (n : Byte)
  /-- `RST 00H` (R394). -/
  | zRst_00H
  /-- `RET Z` (R391). -/
  | zRet_Z
  /-- `RET` (R390). -/
  | zRet
  /-- `JP Z,nn` (R382). -/
  | zJp_Z_nn (lo hi : Byte)
  /-- `CALL Z,nn` (R389). -/
  | zCall_Z_nn (lo hi : Byte)
  /-- `CALL nn` (R388). -/
  | zCall_nn (lo hi : Byte)
  /-- `ADC A,n` (R322). -/
  | zAdc_A_n (n : Byte)
  /-- `RST 08H` (R394). -/
  | zRst_08H
  /-- `RET NC` (R391). -/
  | zRet_NC
  /-- `POP DE` (R300). -/
  | zPop_DE
  /-- `JP NC,nn` (R382). -/
  | zJp_NC_nn (lo hi : Byte)
  /-- `OUT (n),A` (R406). -/
  | zOut_atn_A (n : Byte)
  /-- `CALL NC,nn` (R389). -/
  | zCall_NC_nn (lo hi : Byte)
  /-- `PUSH DE` (R298). -/
  | zPush_DE
  /-- `SUB n` (R323). -/
  | zSub_n (n : Byte)
  /-- `RST 10H` (R394). -/
  | zRst_10H
  /-- `RET C` (R391). -/
  | zRet_C
  /-- `EXX` (R304). -/
  | zExx
  /-- `JP C,nn` (R382). -/
  | zJp_C_nn (lo hi : Byte)
  /-- `IN A,(n)` (R400). -/
  | zIn_A_atn (n : Byte)
  /-- `CALL C,nn` (R389). -/
  | zCall_C_nn (lo hi : Byte)
  /-- `SBC A,n` (R324). -/
  | zSbc_A_n (n : Byte)
  /-- `RST 18H` (R394). -/
  | zRst_18H
  /-- `RET PO` (R391). -/
  | zRet_PO
  /-- `POP HL` (R300). -/
  | zPop_HL
  /-- `JP PO,nn` (R382). -/
  | zJp_PO_nn (lo hi : Byte)
  /-- `EX (SP),HL` (R305). -/
  | zEx_atSP_HL
  /-- `CALL PO,nn` (R389). -/
  | zCall_PO_nn (lo hi : Byte)
  /-- `PUSH HL` (R298). -/
  | zPush_HL
  /-- `AND n` (R325). -/
  | zAnd_n (n : Byte)
  /-- `RST 20H` (R394). -/
  | zRst_20H
  /-- `RET PE` (R391). -/
  | zRet_PE
  /-- `JP (HL)` (R385). -/
  | zJp_atHL
  /-- `JP PE,nn` (R382). -/
  | zJp_PE_nn (lo hi : Byte)
  /-- `EX DE,HL` (R302). -/
  | zEx_DE_HL
  /-- `CALL PE,nn` (R389). -/
  | zCall_PE_nn (lo hi : Byte)
  /-- `XOR n` (R327). -/
  | zXor_n (n : Byte)
  /-- `RST 28H` (R394). -/
  | zRst_28H
  /-- `RET P` (R391). -/
  | zRet_P
  /-- `POP AF` (R300). -/
  | zPop_AF
  /-- `JP P,nn` (R382). -/
  | zJp_P_nn (lo hi : Byte)
  /-- `DI` (R397). -/
  | zDi
  /-- `CALL P,nn` (R389). -/
  | zCall_P_nn (lo hi : Byte)
  /-- `PUSH AF` (R298). -/
  | zPush_AF
  /-- `OR n` (R326). -/
  | zOr_n (n : Byte)
  /-- `RST 30H` (R394). -/
  | zRst_30H
  /-- `RET M` (R391). -/
  | zRet_M
  /-- `LD SP,HL` (R296). -/
  | zLd_SP_HL
  /-- `JP M,nn` (R382). -/
  | zJp_M_nn (lo hi : Byte)
  /-- `EI` (R398). -/
  | zEi
  /-- `CALL M,nn` (R389). -/
  | zCall_M_nn (lo hi : Byte)
  /-- `CP n` (R328). -/
  | zCp_n (n : Byte)
  /-- `RST 38H` (R394). -/
  | zRst_38H
  /-- `RLC B` (R352). -/
  | zRlc_B
  /-- `RLC C` (R352). -/
  | zRlc_C
  /-- `RLC D` (R352). -/
  | zRlc_D
  /-- `RLC E` (R352). -/
  | zRlc_E
  /-- `RLC H` (R352). -/
  | zRlc_H
  /-- `RLC L` (R352). -/
  | zRlc_L
  /-- `RLC (HL)` (R352). -/
  | zRlc_atHL
  /-- `RLC A` (R352). -/
  | zRlc_A
  /-- `RRC B` (R354). -/
  | zRrc_B
  /-- `RRC C` (R354). -/
  | zRrc_C
  /-- `RRC D` (R354). -/
  | zRrc_D
  /-- `RRC E` (R354). -/
  | zRrc_E
  /-- `RRC H` (R354). -/
  | zRrc_H
  /-- `RRC L` (R354). -/
  | zRrc_L
  /-- `RRC (HL)` (R354). -/
  | zRrc_atHL
  /-- `RRC A` (R354). -/
  | zRrc_A
  /-- `RL B` (R353). -/
  | zRl_B
  /-- `RL C` (R353). -/
  | zRl_C
  /-- `RL D` (R353). -/
  | zRl_D
  /-- `RL E` (R353). -/
  | zRl_E
  /-- `RL H` (R353). -/
  | zRl_H
  /-- `RL L` (R353). -/
  | zRl_L
  /-- `RL (HL)` (R353). -/
  | zRl_atHL
  /-- `RL A` (R353). -/
  | zRl_A
  /-- `RR B` (R355). -/
  | zRr_B
  /-- `RR C` (R355). -/
  | zRr_C
  /-- `RR D` (R355). -/
  | zRr_D
  /-- `RR E` (R355). -/
  | zRr_E
  /-- `RR H` (R355). -/
  | zRr_H
  /-- `RR L` (R355). -/
  | zRr_L
  /-- `RR (HL)` (R355). -/
  | zRr_atHL
  /-- `RR A` (R355). -/
  | zRr_A
  /-- `SLA B` (R356). -/
  | zSla_B
  /-- `SLA C` (R356). -/
  | zSla_C
  /-- `SLA D` (R356). -/
  | zSla_D
  /-- `SLA E` (R356). -/
  | zSla_E
  /-- `SLA H` (R356). -/
  | zSla_H
  /-- `SLA L` (R356). -/
  | zSla_L
  /-- `SLA (HL)` (R356). -/
  | zSla_atHL
  /-- `SLA A` (R356). -/
  | zSla_A
  /-- `SRA B` (R357). -/
  | zSra_B
  /-- `SRA C` (R357). -/
  | zSra_C
  /-- `SRA D` (R357). -/
  | zSra_D
  /-- `SRA E` (R357). -/
  | zSra_E
  /-- `SRA H` (R357). -/
  | zSra_H
  /-- `SRA L` (R357). -/
  | zSra_L
  /-- `SRA (HL)` (R357). -/
  | zSra_atHL
  /-- `SRA A` (R357). -/
  | zSra_A
  /-- `SRL B` (R358). -/
  | zSrl_B
  /-- `SRL C` (R358). -/
  | zSrl_C
  /-- `SRL D` (R358). -/
  | zSrl_D
  /-- `SRL E` (R358). -/
  | zSrl_E
  /-- `SRL H` (R358). -/
  | zSrl_H
  /-- `SRL L` (R358). -/
  | zSrl_L
  /-- `SRL (HL)` (R358). -/
  | zSrl_atHL
  /-- `SRL A` (R358). -/
  | zSrl_A
  /-- `BIT 0,B` (R361). -/
  | zBit_0_B
  /-- `BIT 0,C` (R361). -/
  | zBit_0_C
  /-- `BIT 0,D` (R361). -/
  | zBit_0_D
  /-- `BIT 0,E` (R361). -/
  | zBit_0_E
  /-- `BIT 0,H` (R361). -/
  | zBit_0_H
  /-- `BIT 0,L` (R361). -/
  | zBit_0_L
  /-- `BIT 0,(HL)` (R362). -/
  | zBit_0_atHL
  /-- `BIT 0,A` (R361). -/
  | zBit_0_A
  /-- `BIT 1,B` (R361). -/
  | zBit_1_B
  /-- `BIT 1,C` (R361). -/
  | zBit_1_C
  /-- `BIT 1,D` (R361). -/
  | zBit_1_D
  /-- `BIT 1,E` (R361). -/
  | zBit_1_E
  /-- `BIT 1,H` (R361). -/
  | zBit_1_H
  /-- `BIT 1,L` (R361). -/
  | zBit_1_L
  /-- `BIT 1,(HL)` (R362). -/
  | zBit_1_atHL
  /-- `BIT 1,A` (R361). -/
  | zBit_1_A
  /-- `BIT 2,B` (R361). -/
  | zBit_2_B
  /-- `BIT 2,C` (R361). -/
  | zBit_2_C
  /-- `BIT 2,D` (R361). -/
  | zBit_2_D
  /-- `BIT 2,E` (R361). -/
  | zBit_2_E
  /-- `BIT 2,H` (R361). -/
  | zBit_2_H
  /-- `BIT 2,L` (R361). -/
  | zBit_2_L
  /-- `BIT 2,(HL)` (R362). -/
  | zBit_2_atHL
  /-- `BIT 2,A` (R361). -/
  | zBit_2_A
  /-- `BIT 3,B` (R361). -/
  | zBit_3_B
  /-- `BIT 3,C` (R361). -/
  | zBit_3_C
  /-- `BIT 3,D` (R361). -/
  | zBit_3_D
  /-- `BIT 3,E` (R361). -/
  | zBit_3_E
  /-- `BIT 3,H` (R361). -/
  | zBit_3_H
  /-- `BIT 3,L` (R361). -/
  | zBit_3_L
  /-- `BIT 3,(HL)` (R362). -/
  | zBit_3_atHL
  /-- `BIT 3,A` (R361). -/
  | zBit_3_A
  /-- `BIT 4,B` (R361). -/
  | zBit_4_B
  /-- `BIT 4,C` (R361). -/
  | zBit_4_C
  /-- `BIT 4,D` (R361). -/
  | zBit_4_D
  /-- `BIT 4,E` (R361). -/
  | zBit_4_E
  /-- `BIT 4,H` (R361). -/
  | zBit_4_H
  /-- `BIT 4,L` (R361). -/
  | zBit_4_L
  /-- `BIT 4,(HL)` (R362). -/
  | zBit_4_atHL
  /-- `BIT 4,A` (R361). -/
  | zBit_4_A
  /-- `BIT 5,B` (R361). -/
  | zBit_5_B
  /-- `BIT 5,C` (R361). -/
  | zBit_5_C
  /-- `BIT 5,D` (R361). -/
  | zBit_5_D
  /-- `BIT 5,E` (R361). -/
  | zBit_5_E
  /-- `BIT 5,H` (R361). -/
  | zBit_5_H
  /-- `BIT 5,L` (R361). -/
  | zBit_5_L
  /-- `BIT 5,(HL)` (R362). -/
  | zBit_5_atHL
  /-- `BIT 5,A` (R361). -/
  | zBit_5_A
  /-- `BIT 6,B` (R361). -/
  | zBit_6_B
  /-- `BIT 6,C` (R361). -/
  | zBit_6_C
  /-- `BIT 6,D` (R361). -/
  | zBit_6_D
  /-- `BIT 6,E` (R361). -/
  | zBit_6_E
  /-- `BIT 6,H` (R361). -/
  | zBit_6_H
  /-- `BIT 6,L` (R361). -/
  | zBit_6_L
  /-- `BIT 6,(HL)` (R362). -/
  | zBit_6_atHL
  /-- `BIT 6,A` (R361). -/
  | zBit_6_A
  /-- `BIT 7,B` (R361). -/
  | zBit_7_B
  /-- `BIT 7,C` (R361). -/
  | zBit_7_C
  /-- `BIT 7,D` (R361). -/
  | zBit_7_D
  /-- `BIT 7,E` (R361). -/
  | zBit_7_E
  /-- `BIT 7,H` (R361). -/
  | zBit_7_H
  /-- `BIT 7,L` (R361). -/
  | zBit_7_L
  /-- `BIT 7,(HL)` (R362). -/
  | zBit_7_atHL
  /-- `BIT 7,A` (R361). -/
  | zBit_7_A
  /-- `RES 0,B` (R365). -/
  | zRes_0_B
  /-- `RES 0,C` (R365). -/
  | zRes_0_C
  /-- `RES 0,D` (R365). -/
  | zRes_0_D
  /-- `RES 0,E` (R365). -/
  | zRes_0_E
  /-- `RES 0,H` (R365). -/
  | zRes_0_H
  /-- `RES 0,L` (R365). -/
  | zRes_0_L
  /-- `RES 0,(HL)` (R365). -/
  | zRes_0_atHL
  /-- `RES 0,A` (R365). -/
  | zRes_0_A
  /-- `RES 1,B` (R365). -/
  | zRes_1_B
  /-- `RES 1,C` (R365). -/
  | zRes_1_C
  /-- `RES 1,D` (R365). -/
  | zRes_1_D
  /-- `RES 1,E` (R365). -/
  | zRes_1_E
  /-- `RES 1,H` (R365). -/
  | zRes_1_H
  /-- `RES 1,L` (R365). -/
  | zRes_1_L
  /-- `RES 1,(HL)` (R365). -/
  | zRes_1_atHL
  /-- `RES 1,A` (R365). -/
  | zRes_1_A
  /-- `RES 2,B` (R365). -/
  | zRes_2_B
  /-- `RES 2,C` (R365). -/
  | zRes_2_C
  /-- `RES 2,D` (R365). -/
  | zRes_2_D
  /-- `RES 2,E` (R365). -/
  | zRes_2_E
  /-- `RES 2,H` (R365). -/
  | zRes_2_H
  /-- `RES 2,L` (R365). -/
  | zRes_2_L
  /-- `RES 2,(HL)` (R365). -/
  | zRes_2_atHL
  /-- `RES 2,A` (R365). -/
  | zRes_2_A
  /-- `RES 3,B` (R365). -/
  | zRes_3_B
  /-- `RES 3,C` (R365). -/
  | zRes_3_C
  /-- `RES 3,D` (R365). -/
  | zRes_3_D
  /-- `RES 3,E` (R365). -/
  | zRes_3_E
  /-- `RES 3,H` (R365). -/
  | zRes_3_H
  /-- `RES 3,L` (R365). -/
  | zRes_3_L
  /-- `RES 3,(HL)` (R365). -/
  | zRes_3_atHL
  /-- `RES 3,A` (R365). -/
  | zRes_3_A
  /-- `RES 4,B` (R365). -/
  | zRes_4_B
  /-- `RES 4,C` (R365). -/
  | zRes_4_C
  /-- `RES 4,D` (R365). -/
  | zRes_4_D
  /-- `RES 4,E` (R365). -/
  | zRes_4_E
  /-- `RES 4,H` (R365). -/
  | zRes_4_H
  /-- `RES 4,L` (R365). -/
  | zRes_4_L
  /-- `RES 4,(HL)` (R365). -/
  | zRes_4_atHL
  /-- `RES 4,A` (R365). -/
  | zRes_4_A
  /-- `RES 5,B` (R365). -/
  | zRes_5_B
  /-- `RES 5,C` (R365). -/
  | zRes_5_C
  /-- `RES 5,D` (R365). -/
  | zRes_5_D
  /-- `RES 5,E` (R365). -/
  | zRes_5_E
  /-- `RES 5,H` (R365). -/
  | zRes_5_H
  /-- `RES 5,L` (R365). -/
  | zRes_5_L
  /-- `RES 5,(HL)` (R365). -/
  | zRes_5_atHL
  /-- `RES 5,A` (R365). -/
  | zRes_5_A
  /-- `RES 6,B` (R365). -/
  | zRes_6_B
  /-- `RES 6,C` (R365). -/
  | zRes_6_C
  /-- `RES 6,D` (R365). -/
  | zRes_6_D
  /-- `RES 6,E` (R365). -/
  | zRes_6_E
  /-- `RES 6,H` (R365). -/
  | zRes_6_H
  /-- `RES 6,L` (R365). -/
  | zRes_6_L
  /-- `RES 6,(HL)` (R365). -/
  | zRes_6_atHL
  /-- `RES 6,A` (R365). -/
  | zRes_6_A
  /-- `RES 7,B` (R365). -/
  | zRes_7_B
  /-- `RES 7,C` (R365). -/
  | zRes_7_C
  /-- `RES 7,D` (R365). -/
  | zRes_7_D
  /-- `RES 7,E` (R365). -/
  | zRes_7_E
  /-- `RES 7,H` (R365). -/
  | zRes_7_H
  /-- `RES 7,L` (R365). -/
  | zRes_7_L
  /-- `RES 7,(HL)` (R365). -/
  | zRes_7_atHL
  /-- `RES 7,A` (R365). -/
  | zRes_7_A
  /-- `SET 0,B` (R364). -/
  | zSet_0_B
  /-- `SET 0,C` (R364). -/
  | zSet_0_C
  /-- `SET 0,D` (R364). -/
  | zSet_0_D
  /-- `SET 0,E` (R364). -/
  | zSet_0_E
  /-- `SET 0,H` (R364). -/
  | zSet_0_H
  /-- `SET 0,L` (R364). -/
  | zSet_0_L
  /-- `SET 0,(HL)` (R364). -/
  | zSet_0_atHL
  /-- `SET 0,A` (R364). -/
  | zSet_0_A
  /-- `SET 1,B` (R364). -/
  | zSet_1_B
  /-- `SET 1,C` (R364). -/
  | zSet_1_C
  /-- `SET 1,D` (R364). -/
  | zSet_1_D
  /-- `SET 1,E` (R364). -/
  | zSet_1_E
  /-- `SET 1,H` (R364). -/
  | zSet_1_H
  /-- `SET 1,L` (R364). -/
  | zSet_1_L
  /-- `SET 1,(HL)` (R364). -/
  | zSet_1_atHL
  /-- `SET 1,A` (R364). -/
  | zSet_1_A
  /-- `SET 2,B` (R364). -/
  | zSet_2_B
  /-- `SET 2,C` (R364). -/
  | zSet_2_C
  /-- `SET 2,D` (R364). -/
  | zSet_2_D
  /-- `SET 2,E` (R364). -/
  | zSet_2_E
  /-- `SET 2,H` (R364). -/
  | zSet_2_H
  /-- `SET 2,L` (R364). -/
  | zSet_2_L
  /-- `SET 2,(HL)` (R364). -/
  | zSet_2_atHL
  /-- `SET 2,A` (R364). -/
  | zSet_2_A
  /-- `SET 3,B` (R364). -/
  | zSet_3_B
  /-- `SET 3,C` (R364). -/
  | zSet_3_C
  /-- `SET 3,D` (R364). -/
  | zSet_3_D
  /-- `SET 3,E` (R364). -/
  | zSet_3_E
  /-- `SET 3,H` (R364). -/
  | zSet_3_H
  /-- `SET 3,L` (R364). -/
  | zSet_3_L
  /-- `SET 3,(HL)` (R364). -/
  | zSet_3_atHL
  /-- `SET 3,A` (R364). -/
  | zSet_3_A
  /-- `SET 4,B` (R364). -/
  | zSet_4_B
  /-- `SET 4,C` (R364). -/
  | zSet_4_C
  /-- `SET 4,D` (R364). -/
  | zSet_4_D
  /-- `SET 4,E` (R364). -/
  | zSet_4_E
  /-- `SET 4,H` (R364). -/
  | zSet_4_H
  /-- `SET 4,L` (R364). -/
  | zSet_4_L
  /-- `SET 4,(HL)` (R364). -/
  | zSet_4_atHL
  /-- `SET 4,A` (R364). -/
  | zSet_4_A
  /-- `SET 5,B` (R364). -/
  | zSet_5_B
  /-- `SET 5,C` (R364). -/
  | zSet_5_C
  /-- `SET 5,D` (R364). -/
  | zSet_5_D
  /-- `SET 5,E` (R364). -/
  | zSet_5_E
  /-- `SET 5,H` (R364). -/
  | zSet_5_H
  /-- `SET 5,L` (R364). -/
  | zSet_5_L
  /-- `SET 5,(HL)` (R364). -/
  | zSet_5_atHL
  /-- `SET 5,A` (R364). -/
  | zSet_5_A
  /-- `SET 6,B` (R364). -/
  | zSet_6_B
  /-- `SET 6,C` (R364). -/
  | zSet_6_C
  /-- `SET 6,D` (R364). -/
  | zSet_6_D
  /-- `SET 6,E` (R364). -/
  | zSet_6_E
  /-- `SET 6,H` (R364). -/
  | zSet_6_H
  /-- `SET 6,L` (R364). -/
  | zSet_6_L
  /-- `SET 6,(HL)` (R364). -/
  | zSet_6_atHL
  /-- `SET 6,A` (R364). -/
  | zSet_6_A
  /-- `SET 7,B` (R364). -/
  | zSet_7_B
  /-- `SET 7,C` (R364). -/
  | zSet_7_C
  /-- `SET 7,D` (R364). -/
  | zSet_7_D
  /-- `SET 7,E` (R364). -/
  | zSet_7_E
  /-- `SET 7,H` (R364). -/
  | zSet_7_H
  /-- `SET 7,L` (R364). -/
  | zSet_7_L
  /-- `SET 7,(HL)` (R364). -/
  | zSet_7_atHL
  /-- `SET 7,A` (R364). -/
  | zSet_7_A
  /-- `IN B,(C)` (R401). -/
  | zIn_B_atC
  /-- `OUT (C),B` (R407). -/
  | zOut_atC_B
  /-- `IN C,(C)` (R401). -/
  | zIn_C_atC
  /-- `OUT (C),C` (R407). -/
  | zOut_atC_C
  /-- `IN D,(C)` (R401). -/
  | zIn_D_atC
  /-- `OUT (C),D` (R407). -/
  | zOut_atC_D
  /-- `IN E,(C)` (R401). -/
  | zIn_E_atC
  /-- `OUT (C),E` (R407). -/
  | zOut_atC_E
  /-- `IN H,(C)` (R401). -/
  | zIn_H_atC
  /-- `OUT (C),H` (R407). -/
  | zOut_atC_H
  /-- `IN L,(C)` (R401). -/
  | zIn_L_atC
  /-- `OUT (C),L` (R407). -/
  | zOut_atC_L
  /-- `IN A,(C)` (R401). -/
  | zIn_A_atC
  /-- `OUT (C),A` (R407). -/
  | zOut_atC_A
  /-- `SBC HL,BC` (R342). -/
  | zSbc_HL_BC
  /-- `ADC HL,BC` (R341). -/
  | zAdc_HL_BC
  /-- `LD (nn),BC` (R294). -/
  | zLd_atnn_BC (lo hi : Byte)
  /-- `LD BC,(nn)` (R291). -/
  | zLd_BC_atnn (lo hi : Byte)
  /-- `SBC HL,DE` (R342). -/
  | zSbc_HL_DE
  /-- `ADC HL,DE` (R341). -/
  | zAdc_HL_DE
  /-- `LD (nn),DE` (R294). -/
  | zLd_atnn_DE (lo hi : Byte)
  /-- `LD DE,(nn)` (R291). -/
  | zLd_DE_atnn (lo hi : Byte)
  /-- `SBC HL,HL` (R342). -/
  | zSbc_HL_HL
  /-- `ADC HL,HL` (R341). -/
  | zAdc_HL_HL
  /-- `LD (nn),HL` (R294). -/
  | zLdEd_atnn_HL (lo hi : Byte)
  /-- `LD HL,(nn)` (R291). -/
  | zLdEd_HL_atnn (lo hi : Byte)
  /-- `SBC HL,SP` (R342). -/
  | zSbc_HL_SP
  /-- `ADC HL,SP` (R341). -/
  | zAdc_HL_SP
  /-- `LD (nn),SP` (R294). -/
  | zLd_atnn_SP (lo hi : Byte)
  /-- `LD SP,(nn)` (R291). -/
  | zLd_SP_atnn (lo hi : Byte)
  /-- `NEG` (R337). -/
  | zNeg
  /-- `RETN` (R393). -/
  | zRetn
  /-- `RETI` (R392). -/
  | zReti
  /-- `IM 0` (R399). -/
  | zIm_0
  /-- `IM 1` (R399). -/
  | zIm_1
  /-- `IM 2` (R399). -/
  | zIm_2
  /-- `LD I,A` (R286). -/
  | zLd_I_A
  /-- `LD R,A` (R287). -/
  | zLd_R_A
  /-- `LD A,I` (R284). -/
  | zLd_A_I
  /-- `LD A,R` (R285). -/
  | zLd_A_R
  /-- `RRD` (R360). -/
  | zRrd
  /-- `RLD` (R359). -/
  | zRld
  /-- `LDI` (R307). -/
  | zLdi
  /-- `CPI` (R311). -/
  | zCpi
  /-- `INI` (R402). -/
  | zIni
  /-- `OUTI` (R408). -/
  | zOuti
  /-- `LDD` (R309). -/
  | zLdd
  /-- `CPD` (R313). -/
  | zCpd
  /-- `IND` (R404). -/
  | zInd
  /-- `OUTD` (R410). -/
  | zOutd
  /-- `LDIR` (R308). -/
  | zLdir
  /-- `CPIR` (R312). -/
  | zCpir
  /-- `INIR` (R403). -/
  | zInir
  /-- `OTIR` (R409). -/
  | zOtir
  /-- `LDDR` (R310). -/
  | zLddr
  /-- `CPDR` (R314). -/
  | zCpdr
  /-- `INDR` (R405). -/
  | zIndr
  /-- `OTDR` (R411). -/
  | zOtdr
  /-- `ADD IX,BC` (R343). -/
  | zAdd_IX_BC
  /-- `ADD IX,DE` (R343). -/
  | zAdd_IX_DE
  /-- `ADD IX,IX` (R343). -/
  | zAdd_IX_IX
  /-- `ADD IX,SP` (R343). -/
  | zAdd_IX_SP
  /-- `LD IX,nn` (R289). -/
  | zLd_IX_nn (lo hi : Byte)
  /-- `LD (nn),IX` (R295). -/
  | zLd_atnn_IX (lo hi : Byte)
  /-- `INC IX` (R345). -/
  | zInc_IX
  /-- `LD IX,(nn)` (R292). -/
  | zLd_IX_atnn (lo hi : Byte)
  /-- `DEC IX` (R347). -/
  | zDec_IX
  /-- `INC (IX+d)` (R331). -/
  | zInc_atIXd (d : Byte)
  /-- `DEC (IX+d)` (R334). -/
  | zDec_atIXd (d : Byte)
  /-- `LD (IX+d),n` (R279). -/
  | zLd_atIXd_n (d n : Byte)
  /-- `LD B,(IX+d)` (R275). -/
  | zLd_B_atIXd (d : Byte)
  /-- `LD C,(IX+d)` (R275). -/
  | zLd_C_atIXd (d : Byte)
  /-- `LD D,(IX+d)` (R275). -/
  | zLd_D_atIXd (d : Byte)
  /-- `LD E,(IX+d)` (R275). -/
  | zLd_E_atIXd (d : Byte)
  /-- `LD H,(IX+d)` (R275). -/
  | zLd_H_atIXd (d : Byte)
  /-- `LD L,(IX+d)` (R275). -/
  | zLd_L_atIXd (d : Byte)
  /-- `LD A,(IX+d)` (R275). -/
  | zLd_A_atIXd (d : Byte)
  /-- `LD (IX+d),B` (R277). -/
  | zLd_atIXd_B (d : Byte)
  /-- `LD (IX+d),C` (R277). -/
  | zLd_atIXd_C (d : Byte)
  /-- `LD (IX+d),D` (R277). -/
  | zLd_atIXd_D (d : Byte)
  /-- `LD (IX+d),E` (R277). -/
  | zLd_atIXd_E (d : Byte)
  /-- `LD (IX+d),H` (R277). -/
  | zLd_atIXd_H (d : Byte)
  /-- `LD (IX+d),L` (R277). -/
  | zLd_atIXd_L (d : Byte)
  /-- `LD (IX+d),A` (R277). -/
  | zLd_atIXd_A (d : Byte)
  /-- `ADD A,(IX+d)` (R321). -/
  | zAdd_A_atIXd (d : Byte)
  /-- `ADC A,(IX+d)` (R322). -/
  | zAdc_A_atIXd (d : Byte)
  /-- `SUB (IX+d)` (R323). -/
  | zSub_atIXd (d : Byte)
  /-- `SBC A,(IX+d)` (R324). -/
  | zSbc_A_atIXd (d : Byte)
  /-- `AND (IX+d)` (R325). -/
  | zAnd_atIXd (d : Byte)
  /-- `XOR (IX+d)` (R327). -/
  | zXor_atIXd (d : Byte)
  /-- `OR (IX+d)` (R326). -/
  | zOr_atIXd (d : Byte)
  /-- `CP (IX+d)` (R328). -/
  | zCp_atIXd (d : Byte)
  /-- `POP IX` (R301). -/
  | zPop_IX
  /-- `EX (SP),IX` (R306). -/
  | zEx_atSP_IX
  /-- `PUSH IX` (R299). -/
  | zPush_IX
  /-- `JP (IX)` (R386). -/
  | zJp_atIX
  /-- `LD SP,IX` (R297). -/
  | zLd_SP_IX
  /-- `RLC (IX+d)` (R352). -/
  | zRlc_atIXd (d : Byte)
  /-- `RRC (IX+d)` (R354). -/
  | zRrc_atIXd (d : Byte)
  /-- `RL (IX+d)` (R353). -/
  | zRl_atIXd (d : Byte)
  /-- `RR (IX+d)` (R355). -/
  | zRr_atIXd (d : Byte)
  /-- `SLA (IX+d)` (R356). -/
  | zSla_atIXd (d : Byte)
  /-- `SRA (IX+d)` (R357). -/
  | zSra_atIXd (d : Byte)
  /-- `SRL (IX+d)` (R358). -/
  | zSrl_atIXd (d : Byte)
  /-- `BIT 0,(IX+d)` (R363). -/
  | zBit_0_atIXd (d : Byte)
  /-- `BIT 1,(IX+d)` (R363). -/
  | zBit_1_atIXd (d : Byte)
  /-- `BIT 2,(IX+d)` (R363). -/
  | zBit_2_atIXd (d : Byte)
  /-- `BIT 3,(IX+d)` (R363). -/
  | zBit_3_atIXd (d : Byte)
  /-- `BIT 4,(IX+d)` (R363). -/
  | zBit_4_atIXd (d : Byte)
  /-- `BIT 5,(IX+d)` (R363). -/
  | zBit_5_atIXd (d : Byte)
  /-- `BIT 6,(IX+d)` (R363). -/
  | zBit_6_atIXd (d : Byte)
  /-- `BIT 7,(IX+d)` (R363). -/
  | zBit_7_atIXd (d : Byte)
  /-- `RES 0,(IX+d)` (R365). -/
  | zRes_0_atIXd (d : Byte)
  /-- `RES 1,(IX+d)` (R365). -/
  | zRes_1_atIXd (d : Byte)
  /-- `RES 2,(IX+d)` (R365). -/
  | zRes_2_atIXd (d : Byte)
  /-- `RES 3,(IX+d)` (R365). -/
  | zRes_3_atIXd (d : Byte)
  /-- `RES 4,(IX+d)` (R365). -/
  | zRes_4_atIXd (d : Byte)
  /-- `RES 5,(IX+d)` (R365). -/
  | zRes_5_atIXd (d : Byte)
  /-- `RES 6,(IX+d)` (R365). -/
  | zRes_6_atIXd (d : Byte)
  /-- `RES 7,(IX+d)` (R365). -/
  | zRes_7_atIXd (d : Byte)
  /-- `SET 0,(IX+d)` (R364). -/
  | zSet_0_atIXd (d : Byte)
  /-- `SET 1,(IX+d)` (R364). -/
  | zSet_1_atIXd (d : Byte)
  /-- `SET 2,(IX+d)` (R364). -/
  | zSet_2_atIXd (d : Byte)
  /-- `SET 3,(IX+d)` (R364). -/
  | zSet_3_atIXd (d : Byte)
  /-- `SET 4,(IX+d)` (R364). -/
  | zSet_4_atIXd (d : Byte)
  /-- `SET 5,(IX+d)` (R364). -/
  | zSet_5_atIXd (d : Byte)
  /-- `SET 6,(IX+d)` (R364). -/
  | zSet_6_atIXd (d : Byte)
  /-- `SET 7,(IX+d)` (R364). -/
  | zSet_7_atIXd (d : Byte)
  /-- `ADD IY,BC` (R343). -/
  | zAdd_IY_BC
  /-- `ADD IY,DE` (R343). -/
  | zAdd_IY_DE
  /-- `ADD IY,IY` (R343). -/
  | zAdd_IY_IY
  /-- `ADD IY,SP` (R343). -/
  | zAdd_IY_SP
  /-- `LD IY,nn` (R289). -/
  | zLd_IY_nn (lo hi : Byte)
  /-- `LD (nn),IY` (R295). -/
  | zLd_atnn_IY (lo hi : Byte)
  /-- `INC IY` (R345). -/
  | zInc_IY
  /-- `LD IY,(nn)` (R292). -/
  | zLd_IY_atnn (lo hi : Byte)
  /-- `DEC IY` (R347). -/
  | zDec_IY
  /-- `INC (IY+d)` (R331). -/
  | zInc_atIYd (d : Byte)
  /-- `DEC (IY+d)` (R334). -/
  | zDec_atIYd (d : Byte)
  /-- `LD (IY+d),n` (R279). -/
  | zLd_atIYd_n (d n : Byte)
  /-- `LD B,(IY+d)` (R275). -/
  | zLd_B_atIYd (d : Byte)
  /-- `LD C,(IY+d)` (R275). -/
  | zLd_C_atIYd (d : Byte)
  /-- `LD D,(IY+d)` (R275). -/
  | zLd_D_atIYd (d : Byte)
  /-- `LD E,(IY+d)` (R275). -/
  | zLd_E_atIYd (d : Byte)
  /-- `LD H,(IY+d)` (R275). -/
  | zLd_H_atIYd (d : Byte)
  /-- `LD L,(IY+d)` (R275). -/
  | zLd_L_atIYd (d : Byte)
  /-- `LD A,(IY+d)` (R275). -/
  | zLd_A_atIYd (d : Byte)
  /-- `LD (IY+d),B` (R277). -/
  | zLd_atIYd_B (d : Byte)
  /-- `LD (IY+d),C` (R277). -/
  | zLd_atIYd_C (d : Byte)
  /-- `LD (IY+d),D` (R277). -/
  | zLd_atIYd_D (d : Byte)
  /-- `LD (IY+d),E` (R277). -/
  | zLd_atIYd_E (d : Byte)
  /-- `LD (IY+d),H` (R277). -/
  | zLd_atIYd_H (d : Byte)
  /-- `LD (IY+d),L` (R277). -/
  | zLd_atIYd_L (d : Byte)
  /-- `LD (IY+d),A` (R277). -/
  | zLd_atIYd_A (d : Byte)
  /-- `ADD A,(IY+d)` (R321). -/
  | zAdd_A_atIYd (d : Byte)
  /-- `ADC A,(IY+d)` (R322). -/
  | zAdc_A_atIYd (d : Byte)
  /-- `SUB (IY+d)` (R323). -/
  | zSub_atIYd (d : Byte)
  /-- `SBC A,(IY+d)` (R324). -/
  | zSbc_A_atIYd (d : Byte)
  /-- `AND (IY+d)` (R325). -/
  | zAnd_atIYd (d : Byte)
  /-- `XOR (IY+d)` (R327). -/
  | zXor_atIYd (d : Byte)
  /-- `OR (IY+d)` (R326). -/
  | zOr_atIYd (d : Byte)
  /-- `CP (IY+d)` (R328). -/
  | zCp_atIYd (d : Byte)
  /-- `POP IY` (R301). -/
  | zPop_IY
  /-- `EX (SP),IY` (R306). -/
  | zEx_atSP_IY
  /-- `PUSH IY` (R299). -/
  | zPush_IY
  /-- `JP (IY)` (R386). -/
  | zJp_atIY
  /-- `LD SP,IY` (R297). -/
  | zLd_SP_IY
  /-- `RLC (IY+d)` (R352). -/
  | zRlc_atIYd (d : Byte)
  /-- `RRC (IY+d)` (R354). -/
  | zRrc_atIYd (d : Byte)
  /-- `RL (IY+d)` (R353). -/
  | zRl_atIYd (d : Byte)
  /-- `RR (IY+d)` (R355). -/
  | zRr_atIYd (d : Byte)
  /-- `SLA (IY+d)` (R356). -/
  | zSla_atIYd (d : Byte)
  /-- `SRA (IY+d)` (R357). -/
  | zSra_atIYd (d : Byte)
  /-- `SRL (IY+d)` (R358). -/
  | zSrl_atIYd (d : Byte)
  /-- `BIT 0,(IY+d)` (R363). -/
  | zBit_0_atIYd (d : Byte)
  /-- `BIT 1,(IY+d)` (R363). -/
  | zBit_1_atIYd (d : Byte)
  /-- `BIT 2,(IY+d)` (R363). -/
  | zBit_2_atIYd (d : Byte)
  /-- `BIT 3,(IY+d)` (R363). -/
  | zBit_3_atIYd (d : Byte)
  /-- `BIT 4,(IY+d)` (R363). -/
  | zBit_4_atIYd (d : Byte)
  /-- `BIT 5,(IY+d)` (R363). -/
  | zBit_5_atIYd (d : Byte)
  /-- `BIT 6,(IY+d)` (R363). -/
  | zBit_6_atIYd (d : Byte)
  /-- `BIT 7,(IY+d)` (R363). -/
  | zBit_7_atIYd (d : Byte)
  /-- `RES 0,(IY+d)` (R365). -/
  | zRes_0_atIYd (d : Byte)
  /-- `RES 1,(IY+d)` (R365). -/
  | zRes_1_atIYd (d : Byte)
  /-- `RES 2,(IY+d)` (R365). -/
  | zRes_2_atIYd (d : Byte)
  /-- `RES 3,(IY+d)` (R365). -/
  | zRes_3_atIYd (d : Byte)
  /-- `RES 4,(IY+d)` (R365). -/
  | zRes_4_atIYd (d : Byte)
  /-- `RES 5,(IY+d)` (R365). -/
  | zRes_5_atIYd (d : Byte)
  /-- `RES 6,(IY+d)` (R365). -/
  | zRes_6_atIYd (d : Byte)
  /-- `RES 7,(IY+d)` (R365). -/
  | zRes_7_atIYd (d : Byte)
  /-- `SET 0,(IY+d)` (R364). -/
  | zSet_0_atIYd (d : Byte)
  /-- `SET 1,(IY+d)` (R364). -/
  | zSet_1_atIYd (d : Byte)
  /-- `SET 2,(IY+d)` (R364). -/
  | zSet_2_atIYd (d : Byte)
  /-- `SET 3,(IY+d)` (R364). -/
  | zSet_3_atIYd (d : Byte)
  /-- `SET 4,(IY+d)` (R364). -/
  | zSet_4_atIYd (d : Byte)
  /-- `SET 5,(IY+d)` (R364). -/
  | zSet_5_atIYd (d : Byte)
  /-- `SET 6,(IY+d)` (R364). -/
  | zSet_6_atIYd (d : Byte)
  /-- `SET 7,(IY+d)` (R364). -/
  | zSet_7_atIYd (d : Byte)
deriving DecidableEq, Repr

end Sys2Proof
end

