-- ==== Sys2Proof/View.lean ====
section
/-! DEFINITION. The shape of every instruction: its operation and its operands, apart from its encoding. Many rows of the
opcode table differ in the operand's name alone; a statement about a shape speaks of every one of them. The table below is
read row by row beside the opcode table (R123, R132 to R136). -/

namespace Sys2Proof

/-- The shapes of the M6502 instructions (R123). -/
inductive MView where
  | read (op : MReadOp) (f : MForm)
  | store (r : MReg) (md : MMode)
  | modify (op : MModOp) (md : MMode)
  | acc (op : MModOp)
  | implied (op : MImpl)
  | pha
  | php
  | pla
  | plp
  | jmp (b1 : Byte) (b2 : Byte)
  | jmpInd (b1 : Byte) (b2 : Byte)
  | jsr (b1 : Byte) (b2 : Byte)
  | rts
  | rti
  | branch (k : MCond) (b1 : Byte)
  | brk
  | halt
deriving DecidableEq, Repr

/-- The shapes of the Z80 instructions (R132 to R136). `hl` operands of `rp` are HL itself; index registers have arguments
of their own. -/
inductive ZView where
  | ldRR (r : R8) (q : R8)
  | ldRN (r : R8) (n : Byte)
  | ldRM (r : R8) (m : ZMem)
  | ldMR (m : ZMem) (r : R8)
  | ldMN (m : ZMem) (n : Byte)
  | ldAP (p : RP)
  | ldANn (lo : Byte) (hi : Byte)
  | ldPA (p : RP)
  | ldNnA (lo : Byte) (hi : Byte)
  | ldAIR (k : IR)
  | ldIRA (k : IR)
  | ldPN (p : Pair) (lo : Byte) (hi : Byte)
  | ldHLNn (lo : Byte) (hi : Byte)
  | ldPNn (p : Pair) (lo : Byte) (hi : Byte)
  | ldNnHL (lo : Byte) (hi : Byte)
  | ldNnP (p : Pair) (lo : Byte) (hi : Byte)
  | ldSP (p : HLXY)
  | push (p : StackPair)
  | pop (p : StackPair)
  | exDEHL
  | exAF
  | exx
  | exSP (p : HLXY)
  | ldBlock (d : Dir) (rep : Bool)
  | cpBlock (d : Dir) (rep : Bool)
  | alu (op : ZAlu) (src : ZSrc)
  | incDecR (op : IncDec) (r : R8)
  | incDecM (op : IncDec) (m : ZMem)
  | gen (op : ZGen)
  | arith16 (op : ZArith16) (p : RP)
  | addXY (x : XY) (p : PP)
  | incDec16 (op : IncDec) (p : Pair)
  | accRot (op : ZAccRot)
  | rot (op : ZRot) (tgt : ZTgt)
  | rld
  | rrd
  | bit (b : Nat) (tgt : ZTgt)
  | setB (b : Nat) (tgt : ZTgt)
  | resB (b : Nat) (tgt : ZTgt)
  | jp (lo : Byte) (hi : Byte)
  | jpCC (k : CC) (lo : Byte) (hi : Byte)
  | jr (e : Byte)
  | jrCC (k : CC) (e : Byte)
  | jpHL (p : HLXY)
  | djnz (e : Byte)
  | call (lo : Byte) (hi : Byte)
  | callCC (k : CC) (lo : Byte) (hi : Byte)
  | ret
  | retCC (k : CC)
  | reti
  | retn
  | rst (y : Nat)
  | nop
  | halt
  | di
  | ei
  | im (k : ImMode)
  | inAN (n : Byte)
  | inRC (r : R8)
  | inBlock (d : Dir) (rep : Bool)
  | outNA (n : Byte)
  | outCR (r : R8)
  | outBlock (d : Dir) (rep : Bool)
deriving DecidableEq, Repr

/-- The shape of an instruction of either family. -/
inductive View where
  | m (v : MView)
  | z (v : ZView)
deriving DecidableEq, Repr

/-- Operation and operands of each row of the opcode table. -/
def Instr.view : Instr → View
  | .mBrk => .m .brk
  | .mOraIzx b1 => .m (.read .ora (.mem (.izx b1)))
  | .mOraZp b1 => .m (.read .ora (.mem (.zp b1)))
  | .mAslZp b1 => .m (.modify .asl (.zp b1))
  | .mPhp => .m .php
  | .mOraImm b1 => .m (.read .ora (.imm b1))
  | .mAslAcc => .m (.acc .asl)
  | .mOraAbs b1 b2 => .m (.read .ora (.mem (.abs b1 b2)))
  | .mAslAbs b1 b2 => .m (.modify .asl (.abs b1 b2))
  | .mBpl b1 => .m (.branch .pl b1)
  | .mOraIzy b1 => .m (.read .ora (.mem (.izy b1)))
  | .mOraZpx b1 => .m (.read .ora (.mem (.zpx b1)))
  | .mAslZpx b1 => .m (.modify .asl (.zpx b1))
  | .mClc => .m (.implied .clc)
  | .mOraAby b1 b2 => .m (.read .ora (.mem (.aby b1 b2)))
  | .mOraAbx b1 b2 => .m (.read .ora (.mem (.abx b1 b2)))
  | .mAslAbx b1 b2 => .m (.modify .asl (.abx b1 b2))
  | .mJsr b1 b2 => .m (.jsr b1 b2)
  | .mAndIzx b1 => .m (.read .and (.mem (.izx b1)))
  | .mHaltSentinel => .m .halt
  | .mBitZp b1 => .m (.read .bit (.mem (.zp b1)))
  | .mAndZp b1 => .m (.read .and (.mem (.zp b1)))
  | .mRolZp b1 => .m (.modify .rol (.zp b1))
  | .mPlp => .m .plp
  | .mAndImm b1 => .m (.read .and (.imm b1))
  | .mRolAcc => .m (.acc .rol)
  | .mBitAbs b1 b2 => .m (.read .bit (.mem (.abs b1 b2)))
  | .mAndAbs b1 b2 => .m (.read .and (.mem (.abs b1 b2)))
  | .mRolAbs b1 b2 => .m (.modify .rol (.abs b1 b2))
  | .mBmi b1 => .m (.branch .mi b1)
  | .mAndIzy b1 => .m (.read .and (.mem (.izy b1)))
  | .mAndZpx b1 => .m (.read .and (.mem (.zpx b1)))
  | .mRolZpx b1 => .m (.modify .rol (.zpx b1))
  | .mSec => .m (.implied .sec)
  | .mAndAby b1 b2 => .m (.read .and (.mem (.aby b1 b2)))
  | .mAndAbx b1 b2 => .m (.read .and (.mem (.abx b1 b2)))
  | .mRolAbx b1 b2 => .m (.modify .rol (.abx b1 b2))
  | .mRti => .m .rti
  | .mEorIzx b1 => .m (.read .eor (.mem (.izx b1)))
  | .mEorZp b1 => .m (.read .eor (.mem (.zp b1)))
  | .mLsrZp b1 => .m (.modify .lsr (.zp b1))
  | .mPha => .m .pha
  | .mEorImm b1 => .m (.read .eor (.imm b1))
  | .mLsrAcc => .m (.acc .lsr)
  | .mJmpAbs b1 b2 => .m (.jmp b1 b2)
  | .mEorAbs b1 b2 => .m (.read .eor (.mem (.abs b1 b2)))
  | .mLsrAbs b1 b2 => .m (.modify .lsr (.abs b1 b2))
  | .mBvc b1 => .m (.branch .vc b1)
  | .mEorIzy b1 => .m (.read .eor (.mem (.izy b1)))
  | .mEorZpx b1 => .m (.read .eor (.mem (.zpx b1)))
  | .mLsrZpx b1 => .m (.modify .lsr (.zpx b1))
  | .mCli => .m (.implied .cli)
  | .mEorAby b1 b2 => .m (.read .eor (.mem (.aby b1 b2)))
  | .mEorAbx b1 b2 => .m (.read .eor (.mem (.abx b1 b2)))
  | .mLsrAbx b1 b2 => .m (.modify .lsr (.abx b1 b2))
  | .mRts => .m .rts
  | .mAdcIzx b1 => .m (.read .adc (.mem (.izx b1)))
  | .mAdcZp b1 => .m (.read .adc (.mem (.zp b1)))
  | .mRorZp b1 => .m (.modify .ror (.zp b1))
  | .mPla => .m .pla
  | .mAdcImm b1 => .m (.read .adc (.imm b1))
  | .mRorAcc => .m (.acc .ror)
  | .mJmpInd b1 b2 => .m (.jmpInd b1 b2)
  | .mAdcAbs b1 b2 => .m (.read .adc (.mem (.abs b1 b2)))
  | .mRorAbs b1 b2 => .m (.modify .ror (.abs b1 b2))
  | .mBvs b1 => .m (.branch .vs b1)
  | .mAdcIzy b1 => .m (.read .adc (.mem (.izy b1)))
  | .mAdcZpx b1 => .m (.read .adc (.mem (.zpx b1)))
  | .mRorZpx b1 => .m (.modify .ror (.zpx b1))
  | .mSei => .m (.implied .sei)
  | .mAdcAby b1 b2 => .m (.read .adc (.mem (.aby b1 b2)))
  | .mAdcAbx b1 b2 => .m (.read .adc (.mem (.abx b1 b2)))
  | .mRorAbx b1 b2 => .m (.modify .ror (.abx b1 b2))
  | .mStaIzx b1 => .m (.store .a (.izx b1))
  | .mStyZp b1 => .m (.store .y (.zp b1))
  | .mStaZp b1 => .m (.store .a (.zp b1))
  | .mStxZp b1 => .m (.store .x (.zp b1))
  | .mDey => .m (.implied .dey)
  | .mTxa => .m (.implied .txa)
  | .mStyAbs b1 b2 => .m (.store .y (.abs b1 b2))
  | .mStaAbs b1 b2 => .m (.store .a (.abs b1 b2))
  | .mStxAbs b1 b2 => .m (.store .x (.abs b1 b2))
  | .mBcc b1 => .m (.branch .cc b1)
  | .mStaIzy b1 => .m (.store .a (.izy b1))
  | .mStyZpx b1 => .m (.store .y (.zpx b1))
  | .mStaZpx b1 => .m (.store .a (.zpx b1))
  | .mStxZpy b1 => .m (.store .x (.zpy b1))
  | .mTya => .m (.implied .tya)
  | .mStaAby b1 b2 => .m (.store .a (.aby b1 b2))
  | .mTxs => .m (.implied .txs)
  | .mStaAbx b1 b2 => .m (.store .a (.abx b1 b2))
  | .mLdyImm b1 => .m (.read .ldy (.imm b1))
  | .mLdaIzx b1 => .m (.read .lda (.mem (.izx b1)))
  | .mLdxImm b1 => .m (.read .ldx (.imm b1))
  | .mLdyZp b1 => .m (.read .ldy (.mem (.zp b1)))
  | .mLdaZp b1 => .m (.read .lda (.mem (.zp b1)))
  | .mLdxZp b1 => .m (.read .ldx (.mem (.zp b1)))
  | .mTay => .m (.implied .tay)
  | .mLdaImm b1 => .m (.read .lda (.imm b1))
  | .mTax => .m (.implied .tax)
  | .mLdyAbs b1 b2 => .m (.read .ldy (.mem (.abs b1 b2)))
  | .mLdaAbs b1 b2 => .m (.read .lda (.mem (.abs b1 b2)))
  | .mLdxAbs b1 b2 => .m (.read .ldx (.mem (.abs b1 b2)))
  | .mBcs b1 => .m (.branch .cs b1)
  | .mLdaIzy b1 => .m (.read .lda (.mem (.izy b1)))
  | .mLdyZpx b1 => .m (.read .ldy (.mem (.zpx b1)))
  | .mLdaZpx b1 => .m (.read .lda (.mem (.zpx b1)))
  | .mLdxZpy b1 => .m (.read .ldx (.mem (.zpy b1)))
  | .mClv => .m (.implied .clv)
  | .mLdaAby b1 b2 => .m (.read .lda (.mem (.aby b1 b2)))
  | .mTsx => .m (.implied .tsx)
  | .mLdyAbx b1 b2 => .m (.read .ldy (.mem (.abx b1 b2)))
  | .mLdaAbx b1 b2 => .m (.read .lda (.mem (.abx b1 b2)))
  | .mLdxAby b1 b2 => .m (.read .ldx (.mem (.aby b1 b2)))
  | .mCpyImm b1 => .m (.read .cpy (.imm b1))
  | .mCmpIzx b1 => .m (.read .cmp (.mem (.izx b1)))
  | .mCpyZp b1 => .m (.read .cpy (.mem (.zp b1)))
  | .mCmpZp b1 => .m (.read .cmp (.mem (.zp b1)))
  | .mDecZp b1 => .m (.modify .dec (.zp b1))
  | .mIny => .m (.implied .iny)
  | .mCmpImm b1 => .m (.read .cmp (.imm b1))
  | .mDex => .m (.implied .dex)
  | .mCpyAbs b1 b2 => .m (.read .cpy (.mem (.abs b1 b2)))
  | .mCmpAbs b1 b2 => .m (.read .cmp (.mem (.abs b1 b2)))
  | .mDecAbs b1 b2 => .m (.modify .dec (.abs b1 b2))
  | .mBne b1 => .m (.branch .ne b1)
  | .mCmpIzy b1 => .m (.read .cmp (.mem (.izy b1)))
  | .mCmpZpx b1 => .m (.read .cmp (.mem (.zpx b1)))
  | .mDecZpx b1 => .m (.modify .dec (.zpx b1))
  | .mCld => .m (.implied .cld)
  | .mCmpAby b1 b2 => .m (.read .cmp (.mem (.aby b1 b2)))
  | .mCmpAbx b1 b2 => .m (.read .cmp (.mem (.abx b1 b2)))
  | .mDecAbx b1 b2 => .m (.modify .dec (.abx b1 b2))
  | .mCpxImm b1 => .m (.read .cpx (.imm b1))
  | .mSbcIzx b1 => .m (.read .sbc (.mem (.izx b1)))
  | .mCpxZp b1 => .m (.read .cpx (.mem (.zp b1)))
  | .mSbcZp b1 => .m (.read .sbc (.mem (.zp b1)))
  | .mIncZp b1 => .m (.modify .inc (.zp b1))
  | .mInx => .m (.implied .inx)
  | .mSbcImm b1 => .m (.read .sbc (.imm b1))
  | .mNop => .m (.implied .nop)
  | .mCpxAbs b1 b2 => .m (.read .cpx (.mem (.abs b1 b2)))
  | .mSbcAbs b1 b2 => .m (.read .sbc (.mem (.abs b1 b2)))
  | .mIncAbs b1 b2 => .m (.modify .inc (.abs b1 b2))
  | .mBeq b1 => .m (.branch .eq b1)
  | .mSbcIzy b1 => .m (.read .sbc (.mem (.izy b1)))
  | .mSbcZpx b1 => .m (.read .sbc (.mem (.zpx b1)))
  | .mIncZpx b1 => .m (.modify .inc (.zpx b1))
  | .mSed => .m (.implied .sed)
  | .mSbcAby b1 b2 => .m (.read .sbc (.mem (.aby b1 b2)))
  | .mSbcAbx b1 b2 => .m (.read .sbc (.mem (.abx b1 b2)))
  | .mIncAbx b1 b2 => .m (.modify .inc (.abx b1 b2))
  | .zNop => .z .nop
  | .zLd_BC_nn lo hi => .z (.ldPN (.rp .bc) lo hi)
  | .zLd_atBC_A => .z (.ldPA .bc)
  | .zInc_BC => .z (.incDec16 .inc (.rp .bc))
  | .zInc_B => .z (.incDecR .inc .b)
  | .zDec_B => .z (.incDecR .dec .b)
  | .zLd_B_n n => .z (.ldRN .b n)
  | .zRlca => .z (.accRot .rlca)
  | .zEx_AF_AFalt => .z .exAF
  | .zAdd_HL_BC => .z (.arith16 .add .bc)
  | .zLd_A_atBC => .z (.ldAP .bc)
  | .zDec_BC => .z (.incDec16 .dec (.rp .bc))
  | .zInc_C => .z (.incDecR .inc .c)
  | .zDec_C => .z (.incDecR .dec .c)
  | .zLd_C_n n => .z (.ldRN .c n)
  | .zRrca => .z (.accRot .rrca)
  | .zDjnz_e e => .z (.djnz e)
  | .zLd_DE_nn lo hi => .z (.ldPN (.rp .de) lo hi)
  | .zLd_atDE_A => .z (.ldPA .de)
  | .zInc_DE => .z (.incDec16 .inc (.rp .de))
  | .zInc_D => .z (.incDecR .inc .d)
  | .zDec_D => .z (.incDecR .dec .d)
  | .zLd_D_n n => .z (.ldRN .d n)
  | .zRla => .z (.accRot .rla)
  | .zJr_e e => .z (.jr e)
  | .zAdd_HL_DE => .z (.arith16 .add .de)
  | .zLd_A_atDE => .z (.ldAP .de)
  | .zDec_DE => .z (.incDec16 .dec (.rp .de))
  | .zInc_E => .z (.incDecR .inc .e)
  | .zDec_E => .z (.incDecR .dec .e)
  | .zLd_E_n n => .z (.ldRN .e n)
  | .zRra => .z (.accRot .rra)
  | .zJr_NZ_e e => .z (.jrCC .nz e)
  | .zLd_HL_nn lo hi => .z (.ldPN (.rp .hl) lo hi)
  | .zLd_atnn_HL lo hi => .z (.ldNnHL lo hi)
  | .zInc_HL => .z (.incDec16 .inc (.rp .hl))
  | .zInc_H => .z (.incDecR .inc .h)
  | .zDec_H => .z (.incDecR .dec .h)
  | .zLd_H_n n => .z (.ldRN .h n)
  | .zDaa => .z (.gen .daa)
  | .zJr_Z_e e => .z (.jrCC .z e)
  | .zAdd_HL_HL => .z (.arith16 .add .hl)
  | .zLd_HL_atnn lo hi => .z (.ldHLNn lo hi)
  | .zDec_HL => .z (.incDec16 .dec (.rp .hl))
  | .zInc_L => .z (.incDecR .inc .l)
  | .zDec_L => .z (.incDecR .dec .l)
  | .zLd_L_n n => .z (.ldRN .l n)
  | .zCpl => .z (.gen .cpl)
  | .zJr_NC_e e => .z (.jrCC .nc e)
  | .zLd_SP_nn lo hi => .z (.ldPN (.rp .sp) lo hi)
  | .zLd_atnn_A lo hi => .z (.ldNnA lo hi)
  | .zInc_SP => .z (.incDec16 .inc (.rp .sp))
  | .zInc_atHL => .z (.incDecM .inc .hl)
  | .zDec_atHL => .z (.incDecM .dec .hl)
  | .zLd_atHL_n n => .z (.ldMN .hl n)
  | .zScf => .z (.gen .scf)
  | .zJr_C_e e => .z (.jrCC .c e)
  | .zAdd_HL_SP => .z (.arith16 .add .sp)
  | .zLd_A_atnn lo hi => .z (.ldANn lo hi)
  | .zDec_SP => .z (.incDec16 .dec (.rp .sp))
  | .zInc_A => .z (.incDecR .inc .a)
  | .zDec_A => .z (.incDecR .dec .a)
  | .zLd_A_n n => .z (.ldRN .a n)
  | .zCcf => .z (.gen .ccf)
  | .zLd_B_B => .z (.ldRR .b .b)
  | .zLd_B_C => .z (.ldRR .b .c)
  | .zLd_B_D => .z (.ldRR .b .d)
  | .zLd_B_E => .z (.ldRR .b .e)
  | .zLd_B_H => .z (.ldRR .b .h)
  | .zLd_B_L => .z (.ldRR .b .l)
  | .zLd_B_atHL => .z (.ldRM .b .hl)
  | .zLd_B_A => .z (.ldRR .b .a)
  | .zLd_C_B => .z (.ldRR .c .b)
  | .zLd_C_C => .z (.ldRR .c .c)
  | .zLd_C_D => .z (.ldRR .c .d)
  | .zLd_C_E => .z (.ldRR .c .e)
  | .zLd_C_H => .z (.ldRR .c .h)
  | .zLd_C_L => .z (.ldRR .c .l)
  | .zLd_C_atHL => .z (.ldRM .c .hl)
  | .zLd_C_A => .z (.ldRR .c .a)
  | .zLd_D_B => .z (.ldRR .d .b)
  | .zLd_D_C => .z (.ldRR .d .c)
  | .zLd_D_D => .z (.ldRR .d .d)
  | .zLd_D_E => .z (.ldRR .d .e)
  | .zLd_D_H => .z (.ldRR .d .h)
  | .zLd_D_L => .z (.ldRR .d .l)
  | .zLd_D_atHL => .z (.ldRM .d .hl)
  | .zLd_D_A => .z (.ldRR .d .a)
  | .zLd_E_B => .z (.ldRR .e .b)
  | .zLd_E_C => .z (.ldRR .e .c)
  | .zLd_E_D => .z (.ldRR .e .d)
  | .zLd_E_E => .z (.ldRR .e .e)
  | .zLd_E_H => .z (.ldRR .e .h)
  | .zLd_E_L => .z (.ldRR .e .l)
  | .zLd_E_atHL => .z (.ldRM .e .hl)
  | .zLd_E_A => .z (.ldRR .e .a)
  | .zLd_H_B => .z (.ldRR .h .b)
  | .zLd_H_C => .z (.ldRR .h .c)
  | .zLd_H_D => .z (.ldRR .h .d)
  | .zLd_H_E => .z (.ldRR .h .e)
  | .zLd_H_H => .z (.ldRR .h .h)
  | .zLd_H_L => .z (.ldRR .h .l)
  | .zLd_H_atHL => .z (.ldRM .h .hl)
  | .zLd_H_A => .z (.ldRR .h .a)
  | .zLd_L_B => .z (.ldRR .l .b)
  | .zLd_L_C => .z (.ldRR .l .c)
  | .zLd_L_D => .z (.ldRR .l .d)
  | .zLd_L_E => .z (.ldRR .l .e)
  | .zLd_L_H => .z (.ldRR .l .h)
  | .zLd_L_L => .z (.ldRR .l .l)
  | .zLd_L_atHL => .z (.ldRM .l .hl)
  | .zLd_L_A => .z (.ldRR .l .a)
  | .zLd_atHL_B => .z (.ldMR .hl .b)
  | .zLd_atHL_C => .z (.ldMR .hl .c)
  | .zLd_atHL_D => .z (.ldMR .hl .d)
  | .zLd_atHL_E => .z (.ldMR .hl .e)
  | .zLd_atHL_H => .z (.ldMR .hl .h)
  | .zLd_atHL_L => .z (.ldMR .hl .l)
  | .zHalt => .z .halt
  | .zLd_atHL_A => .z (.ldMR .hl .a)
  | .zLd_A_B => .z (.ldRR .a .b)
  | .zLd_A_C => .z (.ldRR .a .c)
  | .zLd_A_D => .z (.ldRR .a .d)
  | .zLd_A_E => .z (.ldRR .a .e)
  | .zLd_A_H => .z (.ldRR .a .h)
  | .zLd_A_L => .z (.ldRR .a .l)
  | .zLd_A_atHL => .z (.ldRM .a .hl)
  | .zLd_A_A => .z (.ldRR .a .a)
  | .zAdd_A_B => .z (.alu .add (.reg .b))
  | .zAdd_A_C => .z (.alu .add (.reg .c))
  | .zAdd_A_D => .z (.alu .add (.reg .d))
  | .zAdd_A_E => .z (.alu .add (.reg .e))
  | .zAdd_A_H => .z (.alu .add (.reg .h))
  | .zAdd_A_L => .z (.alu .add (.reg .l))
  | .zAdd_A_atHL => .z (.alu .add (.mem .hl))
  | .zAdd_A_A => .z (.alu .add (.reg .a))
  | .zAdc_A_B => .z (.alu .adc (.reg .b))
  | .zAdc_A_C => .z (.alu .adc (.reg .c))
  | .zAdc_A_D => .z (.alu .adc (.reg .d))
  | .zAdc_A_E => .z (.alu .adc (.reg .e))
  | .zAdc_A_H => .z (.alu .adc (.reg .h))
  | .zAdc_A_L => .z (.alu .adc (.reg .l))
  | .zAdc_A_atHL => .z (.alu .adc (.mem .hl))
  | .zAdc_A_A => .z (.alu .adc (.reg .a))
  | .zSub_B => .z (.alu .sub (.reg .b))
  | .zSub_C => .z (.alu .sub (.reg .c))
  | .zSub_D => .z (.alu .sub (.reg .d))
  | .zSub_E => .z (.alu .sub (.reg .e))
  | .zSub_H => .z (.alu .sub (.reg .h))
  | .zSub_L => .z (.alu .sub (.reg .l))
  | .zSub_atHL => .z (.alu .sub (.mem .hl))
  | .zSub_A => .z (.alu .sub (.reg .a))
  | .zSbc_A_B => .z (.alu .sbc (.reg .b))
  | .zSbc_A_C => .z (.alu .sbc (.reg .c))
  | .zSbc_A_D => .z (.alu .sbc (.reg .d))
  | .zSbc_A_E => .z (.alu .sbc (.reg .e))
  | .zSbc_A_H => .z (.alu .sbc (.reg .h))
  | .zSbc_A_L => .z (.alu .sbc (.reg .l))
  | .zSbc_A_atHL => .z (.alu .sbc (.mem .hl))
  | .zSbc_A_A => .z (.alu .sbc (.reg .a))
  | .zAnd_B => .z (.alu .and (.reg .b))
  | .zAnd_C => .z (.alu .and (.reg .c))
  | .zAnd_D => .z (.alu .and (.reg .d))
  | .zAnd_E => .z (.alu .and (.reg .e))
  | .zAnd_H => .z (.alu .and (.reg .h))
  | .zAnd_L => .z (.alu .and (.reg .l))
  | .zAnd_atHL => .z (.alu .and (.mem .hl))
  | .zAnd_A => .z (.alu .and (.reg .a))
  | .zXor_B => .z (.alu .xor (.reg .b))
  | .zXor_C => .z (.alu .xor (.reg .c))
  | .zXor_D => .z (.alu .xor (.reg .d))
  | .zXor_E => .z (.alu .xor (.reg .e))
  | .zXor_H => .z (.alu .xor (.reg .h))
  | .zXor_L => .z (.alu .xor (.reg .l))
  | .zXor_atHL => .z (.alu .xor (.mem .hl))
  | .zXor_A => .z (.alu .xor (.reg .a))
  | .zOr_B => .z (.alu .or (.reg .b))
  | .zOr_C => .z (.alu .or (.reg .c))
  | .zOr_D => .z (.alu .or (.reg .d))
  | .zOr_E => .z (.alu .or (.reg .e))
  | .zOr_H => .z (.alu .or (.reg .h))
  | .zOr_L => .z (.alu .or (.reg .l))
  | .zOr_atHL => .z (.alu .or (.mem .hl))
  | .zOr_A => .z (.alu .or (.reg .a))
  | .zCp_B => .z (.alu .cp (.reg .b))
  | .zCp_C => .z (.alu .cp (.reg .c))
  | .zCp_D => .z (.alu .cp (.reg .d))
  | .zCp_E => .z (.alu .cp (.reg .e))
  | .zCp_H => .z (.alu .cp (.reg .h))
  | .zCp_L => .z (.alu .cp (.reg .l))
  | .zCp_atHL => .z (.alu .cp (.mem .hl))
  | .zCp_A => .z (.alu .cp (.reg .a))
  | .zRet_NZ => .z (.retCC .nz)
  | .zPop_BC => .z (.pop (.qq .bc))
  | .zJp_NZ_nn lo hi => .z (.jpCC .nz lo hi)
  | .zJp_nn lo hi => .z (.jp lo hi)
  | .zCall_NZ_nn lo hi => .z (.callCC .nz lo hi)
  | .zPush_BC => .z (.push (.qq .bc))
  | .zAdd_A_n n => .z (.alu .add (.imm n))
  | .zRst_00H => .z (.rst 0)
  | .zRet_Z => .z (.retCC .z)
  | .zRet => .z .ret
  | .zJp_Z_nn lo hi => .z (.jpCC .z lo hi)
  | .zCall_Z_nn lo hi => .z (.callCC .z lo hi)
  | .zCall_nn lo hi => .z (.call lo hi)
  | .zAdc_A_n n => .z (.alu .adc (.imm n))
  | .zRst_08H => .z (.rst 1)
  | .zRet_NC => .z (.retCC .nc)
  | .zPop_DE => .z (.pop (.qq .de))
  | .zJp_NC_nn lo hi => .z (.jpCC .nc lo hi)
  | .zOut_atn_A n => .z (.outNA n)
  | .zCall_NC_nn lo hi => .z (.callCC .nc lo hi)
  | .zPush_DE => .z (.push (.qq .de))
  | .zSub_n n => .z (.alu .sub (.imm n))
  | .zRst_10H => .z (.rst 2)
  | .zRet_C => .z (.retCC .c)
  | .zExx => .z .exx
  | .zJp_C_nn lo hi => .z (.jpCC .c lo hi)
  | .zIn_A_atn n => .z (.inAN n)
  | .zCall_C_nn lo hi => .z (.callCC .c lo hi)
  | .zSbc_A_n n => .z (.alu .sbc (.imm n))
  | .zRst_18H => .z (.rst 3)
  | .zRet_PO => .z (.retCC .po)
  | .zPop_HL => .z (.pop (.qq .hl))
  | .zJp_PO_nn lo hi => .z (.jpCC .po lo hi)
  | .zEx_atSP_HL => .z (.exSP .hl)
  | .zCall_PO_nn lo hi => .z (.callCC .po lo hi)
  | .zPush_HL => .z (.push (.qq .hl))
  | .zAnd_n n => .z (.alu .and (.imm n))
  | .zRst_20H => .z (.rst 4)
  | .zRet_PE => .z (.retCC .pe)
  | .zJp_atHL => .z (.jpHL .hl)
  | .zJp_PE_nn lo hi => .z (.jpCC .pe lo hi)
  | .zEx_DE_HL => .z .exDEHL
  | .zCall_PE_nn lo hi => .z (.callCC .pe lo hi)
  | .zXor_n n => .z (.alu .xor (.imm n))
  | .zRst_28H => .z (.rst 5)
  | .zRet_P => .z (.retCC .p)
  | .zPop_AF => .z (.pop (.qq .af))
  | .zJp_P_nn lo hi => .z (.jpCC .p lo hi)
  | .zDi => .z .di
  | .zCall_P_nn lo hi => .z (.callCC .p lo hi)
  | .zPush_AF => .z (.push (.qq .af))
  | .zOr_n n => .z (.alu .or (.imm n))
  | .zRst_30H => .z (.rst 6)
  | .zRet_M => .z (.retCC .m)
  | .zLd_SP_HL => .z (.ldSP .hl)
  | .zJp_M_nn lo hi => .z (.jpCC .m lo hi)
  | .zEi => .z .ei
  | .zCall_M_nn lo hi => .z (.callCC .m lo hi)
  | .zCp_n n => .z (.alu .cp (.imm n))
  | .zRst_38H => .z (.rst 7)
  | .zRlc_B => .z (.rot .rlc (.reg .b))
  | .zRlc_C => .z (.rot .rlc (.reg .c))
  | .zRlc_D => .z (.rot .rlc (.reg .d))
  | .zRlc_E => .z (.rot .rlc (.reg .e))
  | .zRlc_H => .z (.rot .rlc (.reg .h))
  | .zRlc_L => .z (.rot .rlc (.reg .l))
  | .zRlc_atHL => .z (.rot .rlc (.mem .hl))
  | .zRlc_A => .z (.rot .rlc (.reg .a))
  | .zRrc_B => .z (.rot .rrc (.reg .b))
  | .zRrc_C => .z (.rot .rrc (.reg .c))
  | .zRrc_D => .z (.rot .rrc (.reg .d))
  | .zRrc_E => .z (.rot .rrc (.reg .e))
  | .zRrc_H => .z (.rot .rrc (.reg .h))
  | .zRrc_L => .z (.rot .rrc (.reg .l))
  | .zRrc_atHL => .z (.rot .rrc (.mem .hl))
  | .zRrc_A => .z (.rot .rrc (.reg .a))
  | .zRl_B => .z (.rot .rl (.reg .b))
  | .zRl_C => .z (.rot .rl (.reg .c))
  | .zRl_D => .z (.rot .rl (.reg .d))
  | .zRl_E => .z (.rot .rl (.reg .e))
  | .zRl_H => .z (.rot .rl (.reg .h))
  | .zRl_L => .z (.rot .rl (.reg .l))
  | .zRl_atHL => .z (.rot .rl (.mem .hl))
  | .zRl_A => .z (.rot .rl (.reg .a))
  | .zRr_B => .z (.rot .rr (.reg .b))
  | .zRr_C => .z (.rot .rr (.reg .c))
  | .zRr_D => .z (.rot .rr (.reg .d))
  | .zRr_E => .z (.rot .rr (.reg .e))
  | .zRr_H => .z (.rot .rr (.reg .h))
  | .zRr_L => .z (.rot .rr (.reg .l))
  | .zRr_atHL => .z (.rot .rr (.mem .hl))
  | .zRr_A => .z (.rot .rr (.reg .a))
  | .zSla_B => .z (.rot .sla (.reg .b))
  | .zSla_C => .z (.rot .sla (.reg .c))
  | .zSla_D => .z (.rot .sla (.reg .d))
  | .zSla_E => .z (.rot .sla (.reg .e))
  | .zSla_H => .z (.rot .sla (.reg .h))
  | .zSla_L => .z (.rot .sla (.reg .l))
  | .zSla_atHL => .z (.rot .sla (.mem .hl))
  | .zSla_A => .z (.rot .sla (.reg .a))
  | .zSra_B => .z (.rot .sra (.reg .b))
  | .zSra_C => .z (.rot .sra (.reg .c))
  | .zSra_D => .z (.rot .sra (.reg .d))
  | .zSra_E => .z (.rot .sra (.reg .e))
  | .zSra_H => .z (.rot .sra (.reg .h))
  | .zSra_L => .z (.rot .sra (.reg .l))
  | .zSra_atHL => .z (.rot .sra (.mem .hl))
  | .zSra_A => .z (.rot .sra (.reg .a))
  | .zSrl_B => .z (.rot .srl (.reg .b))
  | .zSrl_C => .z (.rot .srl (.reg .c))
  | .zSrl_D => .z (.rot .srl (.reg .d))
  | .zSrl_E => .z (.rot .srl (.reg .e))
  | .zSrl_H => .z (.rot .srl (.reg .h))
  | .zSrl_L => .z (.rot .srl (.reg .l))
  | .zSrl_atHL => .z (.rot .srl (.mem .hl))
  | .zSrl_A => .z (.rot .srl (.reg .a))
  | .zBit_0_B => .z (.bit 0 (.reg .b))
  | .zBit_0_C => .z (.bit 0 (.reg .c))
  | .zBit_0_D => .z (.bit 0 (.reg .d))
  | .zBit_0_E => .z (.bit 0 (.reg .e))
  | .zBit_0_H => .z (.bit 0 (.reg .h))
  | .zBit_0_L => .z (.bit 0 (.reg .l))
  | .zBit_0_atHL => .z (.bit 0 (.mem .hl))
  | .zBit_0_A => .z (.bit 0 (.reg .a))
  | .zBit_1_B => .z (.bit 1 (.reg .b))
  | .zBit_1_C => .z (.bit 1 (.reg .c))
  | .zBit_1_D => .z (.bit 1 (.reg .d))
  | .zBit_1_E => .z (.bit 1 (.reg .e))
  | .zBit_1_H => .z (.bit 1 (.reg .h))
  | .zBit_1_L => .z (.bit 1 (.reg .l))
  | .zBit_1_atHL => .z (.bit 1 (.mem .hl))
  | .zBit_1_A => .z (.bit 1 (.reg .a))
  | .zBit_2_B => .z (.bit 2 (.reg .b))
  | .zBit_2_C => .z (.bit 2 (.reg .c))
  | .zBit_2_D => .z (.bit 2 (.reg .d))
  | .zBit_2_E => .z (.bit 2 (.reg .e))
  | .zBit_2_H => .z (.bit 2 (.reg .h))
  | .zBit_2_L => .z (.bit 2 (.reg .l))
  | .zBit_2_atHL => .z (.bit 2 (.mem .hl))
  | .zBit_2_A => .z (.bit 2 (.reg .a))
  | .zBit_3_B => .z (.bit 3 (.reg .b))
  | .zBit_3_C => .z (.bit 3 (.reg .c))
  | .zBit_3_D => .z (.bit 3 (.reg .d))
  | .zBit_3_E => .z (.bit 3 (.reg .e))
  | .zBit_3_H => .z (.bit 3 (.reg .h))
  | .zBit_3_L => .z (.bit 3 (.reg .l))
  | .zBit_3_atHL => .z (.bit 3 (.mem .hl))
  | .zBit_3_A => .z (.bit 3 (.reg .a))
  | .zBit_4_B => .z (.bit 4 (.reg .b))
  | .zBit_4_C => .z (.bit 4 (.reg .c))
  | .zBit_4_D => .z (.bit 4 (.reg .d))
  | .zBit_4_E => .z (.bit 4 (.reg .e))
  | .zBit_4_H => .z (.bit 4 (.reg .h))
  | .zBit_4_L => .z (.bit 4 (.reg .l))
  | .zBit_4_atHL => .z (.bit 4 (.mem .hl))
  | .zBit_4_A => .z (.bit 4 (.reg .a))
  | .zBit_5_B => .z (.bit 5 (.reg .b))
  | .zBit_5_C => .z (.bit 5 (.reg .c))
  | .zBit_5_D => .z (.bit 5 (.reg .d))
  | .zBit_5_E => .z (.bit 5 (.reg .e))
  | .zBit_5_H => .z (.bit 5 (.reg .h))
  | .zBit_5_L => .z (.bit 5 (.reg .l))
  | .zBit_5_atHL => .z (.bit 5 (.mem .hl))
  | .zBit_5_A => .z (.bit 5 (.reg .a))
  | .zBit_6_B => .z (.bit 6 (.reg .b))
  | .zBit_6_C => .z (.bit 6 (.reg .c))
  | .zBit_6_D => .z (.bit 6 (.reg .d))
  | .zBit_6_E => .z (.bit 6 (.reg .e))
  | .zBit_6_H => .z (.bit 6 (.reg .h))
  | .zBit_6_L => .z (.bit 6 (.reg .l))
  | .zBit_6_atHL => .z (.bit 6 (.mem .hl))
  | .zBit_6_A => .z (.bit 6 (.reg .a))
  | .zBit_7_B => .z (.bit 7 (.reg .b))
  | .zBit_7_C => .z (.bit 7 (.reg .c))
  | .zBit_7_D => .z (.bit 7 (.reg .d))
  | .zBit_7_E => .z (.bit 7 (.reg .e))
  | .zBit_7_H => .z (.bit 7 (.reg .h))
  | .zBit_7_L => .z (.bit 7 (.reg .l))
  | .zBit_7_atHL => .z (.bit 7 (.mem .hl))
  | .zBit_7_A => .z (.bit 7 (.reg .a))
  | .zRes_0_B => .z (.resB 0 (.reg .b))
  | .zRes_0_C => .z (.resB 0 (.reg .c))
  | .zRes_0_D => .z (.resB 0 (.reg .d))
  | .zRes_0_E => .z (.resB 0 (.reg .e))
  | .zRes_0_H => .z (.resB 0 (.reg .h))
  | .zRes_0_L => .z (.resB 0 (.reg .l))
  | .zRes_0_atHL => .z (.resB 0 (.mem .hl))
  | .zRes_0_A => .z (.resB 0 (.reg .a))
  | .zRes_1_B => .z (.resB 1 (.reg .b))
  | .zRes_1_C => .z (.resB 1 (.reg .c))
  | .zRes_1_D => .z (.resB 1 (.reg .d))
  | .zRes_1_E => .z (.resB 1 (.reg .e))
  | .zRes_1_H => .z (.resB 1 (.reg .h))
  | .zRes_1_L => .z (.resB 1 (.reg .l))
  | .zRes_1_atHL => .z (.resB 1 (.mem .hl))
  | .zRes_1_A => .z (.resB 1 (.reg .a))
  | .zRes_2_B => .z (.resB 2 (.reg .b))
  | .zRes_2_C => .z (.resB 2 (.reg .c))
  | .zRes_2_D => .z (.resB 2 (.reg .d))
  | .zRes_2_E => .z (.resB 2 (.reg .e))
  | .zRes_2_H => .z (.resB 2 (.reg .h))
  | .zRes_2_L => .z (.resB 2 (.reg .l))
  | .zRes_2_atHL => .z (.resB 2 (.mem .hl))
  | .zRes_2_A => .z (.resB 2 (.reg .a))
  | .zRes_3_B => .z (.resB 3 (.reg .b))
  | .zRes_3_C => .z (.resB 3 (.reg .c))
  | .zRes_3_D => .z (.resB 3 (.reg .d))
  | .zRes_3_E => .z (.resB 3 (.reg .e))
  | .zRes_3_H => .z (.resB 3 (.reg .h))
  | .zRes_3_L => .z (.resB 3 (.reg .l))
  | .zRes_3_atHL => .z (.resB 3 (.mem .hl))
  | .zRes_3_A => .z (.resB 3 (.reg .a))
  | .zRes_4_B => .z (.resB 4 (.reg .b))
  | .zRes_4_C => .z (.resB 4 (.reg .c))
  | .zRes_4_D => .z (.resB 4 (.reg .d))
  | .zRes_4_E => .z (.resB 4 (.reg .e))
  | .zRes_4_H => .z (.resB 4 (.reg .h))
  | .zRes_4_L => .z (.resB 4 (.reg .l))
  | .zRes_4_atHL => .z (.resB 4 (.mem .hl))
  | .zRes_4_A => .z (.resB 4 (.reg .a))
  | .zRes_5_B => .z (.resB 5 (.reg .b))
  | .zRes_5_C => .z (.resB 5 (.reg .c))
  | .zRes_5_D => .z (.resB 5 (.reg .d))
  | .zRes_5_E => .z (.resB 5 (.reg .e))
  | .zRes_5_H => .z (.resB 5 (.reg .h))
  | .zRes_5_L => .z (.resB 5 (.reg .l))
  | .zRes_5_atHL => .z (.resB 5 (.mem .hl))
  | .zRes_5_A => .z (.resB 5 (.reg .a))
  | .zRes_6_B => .z (.resB 6 (.reg .b))
  | .zRes_6_C => .z (.resB 6 (.reg .c))
  | .zRes_6_D => .z (.resB 6 (.reg .d))
  | .zRes_6_E => .z (.resB 6 (.reg .e))
  | .zRes_6_H => .z (.resB 6 (.reg .h))
  | .zRes_6_L => .z (.resB 6 (.reg .l))
  | .zRes_6_atHL => .z (.resB 6 (.mem .hl))
  | .zRes_6_A => .z (.resB 6 (.reg .a))
  | .zRes_7_B => .z (.resB 7 (.reg .b))
  | .zRes_7_C => .z (.resB 7 (.reg .c))
  | .zRes_7_D => .z (.resB 7 (.reg .d))
  | .zRes_7_E => .z (.resB 7 (.reg .e))
  | .zRes_7_H => .z (.resB 7 (.reg .h))
  | .zRes_7_L => .z (.resB 7 (.reg .l))
  | .zRes_7_atHL => .z (.resB 7 (.mem .hl))
  | .zRes_7_A => .z (.resB 7 (.reg .a))
  | .zSet_0_B => .z (.setB 0 (.reg .b))
  | .zSet_0_C => .z (.setB 0 (.reg .c))
  | .zSet_0_D => .z (.setB 0 (.reg .d))
  | .zSet_0_E => .z (.setB 0 (.reg .e))
  | .zSet_0_H => .z (.setB 0 (.reg .h))
  | .zSet_0_L => .z (.setB 0 (.reg .l))
  | .zSet_0_atHL => .z (.setB 0 (.mem .hl))
  | .zSet_0_A => .z (.setB 0 (.reg .a))
  | .zSet_1_B => .z (.setB 1 (.reg .b))
  | .zSet_1_C => .z (.setB 1 (.reg .c))
  | .zSet_1_D => .z (.setB 1 (.reg .d))
  | .zSet_1_E => .z (.setB 1 (.reg .e))
  | .zSet_1_H => .z (.setB 1 (.reg .h))
  | .zSet_1_L => .z (.setB 1 (.reg .l))
  | .zSet_1_atHL => .z (.setB 1 (.mem .hl))
  | .zSet_1_A => .z (.setB 1 (.reg .a))
  | .zSet_2_B => .z (.setB 2 (.reg .b))
  | .zSet_2_C => .z (.setB 2 (.reg .c))
  | .zSet_2_D => .z (.setB 2 (.reg .d))
  | .zSet_2_E => .z (.setB 2 (.reg .e))
  | .zSet_2_H => .z (.setB 2 (.reg .h))
  | .zSet_2_L => .z (.setB 2 (.reg .l))
  | .zSet_2_atHL => .z (.setB 2 (.mem .hl))
  | .zSet_2_A => .z (.setB 2 (.reg .a))
  | .zSet_3_B => .z (.setB 3 (.reg .b))
  | .zSet_3_C => .z (.setB 3 (.reg .c))
  | .zSet_3_D => .z (.setB 3 (.reg .d))
  | .zSet_3_E => .z (.setB 3 (.reg .e))
  | .zSet_3_H => .z (.setB 3 (.reg .h))
  | .zSet_3_L => .z (.setB 3 (.reg .l))
  | .zSet_3_atHL => .z (.setB 3 (.mem .hl))
  | .zSet_3_A => .z (.setB 3 (.reg .a))
  | .zSet_4_B => .z (.setB 4 (.reg .b))
  | .zSet_4_C => .z (.setB 4 (.reg .c))
  | .zSet_4_D => .z (.setB 4 (.reg .d))
  | .zSet_4_E => .z (.setB 4 (.reg .e))
  | .zSet_4_H => .z (.setB 4 (.reg .h))
  | .zSet_4_L => .z (.setB 4 (.reg .l))
  | .zSet_4_atHL => .z (.setB 4 (.mem .hl))
  | .zSet_4_A => .z (.setB 4 (.reg .a))
  | .zSet_5_B => .z (.setB 5 (.reg .b))
  | .zSet_5_C => .z (.setB 5 (.reg .c))
  | .zSet_5_D => .z (.setB 5 (.reg .d))
  | .zSet_5_E => .z (.setB 5 (.reg .e))
  | .zSet_5_H => .z (.setB 5 (.reg .h))
  | .zSet_5_L => .z (.setB 5 (.reg .l))
  | .zSet_5_atHL => .z (.setB 5 (.mem .hl))
  | .zSet_5_A => .z (.setB 5 (.reg .a))
  | .zSet_6_B => .z (.setB 6 (.reg .b))
  | .zSet_6_C => .z (.setB 6 (.reg .c))
  | .zSet_6_D => .z (.setB 6 (.reg .d))
  | .zSet_6_E => .z (.setB 6 (.reg .e))
  | .zSet_6_H => .z (.setB 6 (.reg .h))
  | .zSet_6_L => .z (.setB 6 (.reg .l))
  | .zSet_6_atHL => .z (.setB 6 (.mem .hl))
  | .zSet_6_A => .z (.setB 6 (.reg .a))
  | .zSet_7_B => .z (.setB 7 (.reg .b))
  | .zSet_7_C => .z (.setB 7 (.reg .c))
  | .zSet_7_D => .z (.setB 7 (.reg .d))
  | .zSet_7_E => .z (.setB 7 (.reg .e))
  | .zSet_7_H => .z (.setB 7 (.reg .h))
  | .zSet_7_L => .z (.setB 7 (.reg .l))
  | .zSet_7_atHL => .z (.setB 7 (.mem .hl))
  | .zSet_7_A => .z (.setB 7 (.reg .a))
  | .zIn_B_atC => .z (.inRC .b)
  | .zOut_atC_B => .z (.outCR .b)
  | .zIn_C_atC => .z (.inRC .c)
  | .zOut_atC_C => .z (.outCR .c)
  | .zIn_D_atC => .z (.inRC .d)
  | .zOut_atC_D => .z (.outCR .d)
  | .zIn_E_atC => .z (.inRC .e)
  | .zOut_atC_E => .z (.outCR .e)
  | .zIn_H_atC => .z (.inRC .h)
  | .zOut_atC_H => .z (.outCR .h)
  | .zIn_L_atC => .z (.inRC .l)
  | .zOut_atC_L => .z (.outCR .l)
  | .zIn_A_atC => .z (.inRC .a)
  | .zOut_atC_A => .z (.outCR .a)
  | .zSbc_HL_BC => .z (.arith16 .sbc .bc)
  | .zAdc_HL_BC => .z (.arith16 .adc .bc)
  | .zLd_atnn_BC lo hi => .z (.ldNnP (.rp .bc) lo hi)
  | .zLd_BC_atnn lo hi => .z (.ldPNn (.rp .bc) lo hi)
  | .zSbc_HL_DE => .z (.arith16 .sbc .de)
  | .zAdc_HL_DE => .z (.arith16 .adc .de)
  | .zLd_atnn_DE lo hi => .z (.ldNnP (.rp .de) lo hi)
  | .zLd_DE_atnn lo hi => .z (.ldPNn (.rp .de) lo hi)
  | .zSbc_HL_HL => .z (.arith16 .sbc .hl)
  | .zAdc_HL_HL => .z (.arith16 .adc .hl)
  | .zLdEd_atnn_HL lo hi => .z (.ldNnP (.rp .hl) lo hi)
  | .zLdEd_HL_atnn lo hi => .z (.ldPNn (.rp .hl) lo hi)
  | .zSbc_HL_SP => .z (.arith16 .sbc .sp)
  | .zAdc_HL_SP => .z (.arith16 .adc .sp)
  | .zLd_atnn_SP lo hi => .z (.ldNnP (.rp .sp) lo hi)
  | .zLd_SP_atnn lo hi => .z (.ldPNn (.rp .sp) lo hi)
  | .zNeg => .z (.gen .neg)
  | .zRetn => .z .retn
  | .zReti => .z .reti
  | .zIm_0 => .z (.im .im0)
  | .zIm_1 => .z (.im .im1)
  | .zIm_2 => .z (.im .im2)
  | .zLd_I_A => .z (.ldIRA .i)
  | .zLd_R_A => .z (.ldIRA .r)
  | .zLd_A_I => .z (.ldAIR .i)
  | .zLd_A_R => .z (.ldAIR .r)
  | .zRrd => .z .rrd
  | .zRld => .z .rld
  | .zLdi => .z (.ldBlock .up false)
  | .zCpi => .z (.cpBlock .up false)
  | .zIni => .z (.inBlock .up false)
  | .zOuti => .z (.outBlock .up false)
  | .zLdd => .z (.ldBlock .down false)
  | .zCpd => .z (.cpBlock .down false)
  | .zInd => .z (.inBlock .down false)
  | .zOutd => .z (.outBlock .down false)
  | .zLdir => .z (.ldBlock .up true)
  | .zCpir => .z (.cpBlock .up true)
  | .zInir => .z (.inBlock .up true)
  | .zOtir => .z (.outBlock .up true)
  | .zLddr => .z (.ldBlock .down true)
  | .zCpdr => .z (.cpBlock .down true)
  | .zIndr => .z (.inBlock .down true)
  | .zOtdr => .z (.outBlock .down true)
  | .zAdd_IX_BC => .z (.addXY .ix .bc)
  | .zAdd_IX_DE => .z (.addXY .ix .de)
  | .zAdd_IX_IX => .z (.addXY .ix .self)
  | .zAdd_IX_SP => .z (.addXY .ix .sp)
  | .zLd_IX_nn lo hi => .z (.ldPN (.xy .ix) lo hi)
  | .zLd_atnn_IX lo hi => .z (.ldNnP (.xy .ix) lo hi)
  | .zInc_IX => .z (.incDec16 .inc (.xy .ix))
  | .zLd_IX_atnn lo hi => .z (.ldPNn (.xy .ix) lo hi)
  | .zDec_IX => .z (.incDec16 .dec (.xy .ix))
  | .zInc_atIXd d => .z (.incDecM .inc (.idx .ix d))
  | .zDec_atIXd d => .z (.incDecM .dec (.idx .ix d))
  | .zLd_atIXd_n d n => .z (.ldMN (.idx .ix d) n)
  | .zLd_B_atIXd d => .z (.ldRM .b (.idx .ix d))
  | .zLd_C_atIXd d => .z (.ldRM .c (.idx .ix d))
  | .zLd_D_atIXd d => .z (.ldRM .d (.idx .ix d))
  | .zLd_E_atIXd d => .z (.ldRM .e (.idx .ix d))
  | .zLd_H_atIXd d => .z (.ldRM .h (.idx .ix d))
  | .zLd_L_atIXd d => .z (.ldRM .l (.idx .ix d))
  | .zLd_A_atIXd d => .z (.ldRM .a (.idx .ix d))
  | .zLd_atIXd_B d => .z (.ldMR (.idx .ix d) .b)
  | .zLd_atIXd_C d => .z (.ldMR (.idx .ix d) .c)
  | .zLd_atIXd_D d => .z (.ldMR (.idx .ix d) .d)
  | .zLd_atIXd_E d => .z (.ldMR (.idx .ix d) .e)
  | .zLd_atIXd_H d => .z (.ldMR (.idx .ix d) .h)
  | .zLd_atIXd_L d => .z (.ldMR (.idx .ix d) .l)
  | .zLd_atIXd_A d => .z (.ldMR (.idx .ix d) .a)
  | .zAdd_A_atIXd d => .z (.alu .add (.mem (.idx .ix d)))
  | .zAdc_A_atIXd d => .z (.alu .adc (.mem (.idx .ix d)))
  | .zSub_atIXd d => .z (.alu .sub (.mem (.idx .ix d)))
  | .zSbc_A_atIXd d => .z (.alu .sbc (.mem (.idx .ix d)))
  | .zAnd_atIXd d => .z (.alu .and (.mem (.idx .ix d)))
  | .zXor_atIXd d => .z (.alu .xor (.mem (.idx .ix d)))
  | .zOr_atIXd d => .z (.alu .or (.mem (.idx .ix d)))
  | .zCp_atIXd d => .z (.alu .cp (.mem (.idx .ix d)))
  | .zPop_IX => .z (.pop (.xy .ix))
  | .zEx_atSP_IX => .z (.exSP (.xy .ix))
  | .zPush_IX => .z (.push (.xy .ix))
  | .zJp_atIX => .z (.jpHL (.xy .ix))
  | .zLd_SP_IX => .z (.ldSP (.xy .ix))
  | .zRlc_atIXd d => .z (.rot .rlc (.mem (.idx .ix d)))
  | .zRrc_atIXd d => .z (.rot .rrc (.mem (.idx .ix d)))
  | .zRl_atIXd d => .z (.rot .rl (.mem (.idx .ix d)))
  | .zRr_atIXd d => .z (.rot .rr (.mem (.idx .ix d)))
  | .zSla_atIXd d => .z (.rot .sla (.mem (.idx .ix d)))
  | .zSra_atIXd d => .z (.rot .sra (.mem (.idx .ix d)))
  | .zSrl_atIXd d => .z (.rot .srl (.mem (.idx .ix d)))
  | .zBit_0_atIXd d => .z (.bit 0 (.mem (.idx .ix d)))
  | .zBit_1_atIXd d => .z (.bit 1 (.mem (.idx .ix d)))
  | .zBit_2_atIXd d => .z (.bit 2 (.mem (.idx .ix d)))
  | .zBit_3_atIXd d => .z (.bit 3 (.mem (.idx .ix d)))
  | .zBit_4_atIXd d => .z (.bit 4 (.mem (.idx .ix d)))
  | .zBit_5_atIXd d => .z (.bit 5 (.mem (.idx .ix d)))
  | .zBit_6_atIXd d => .z (.bit 6 (.mem (.idx .ix d)))
  | .zBit_7_atIXd d => .z (.bit 7 (.mem (.idx .ix d)))
  | .zRes_0_atIXd d => .z (.resB 0 (.mem (.idx .ix d)))
  | .zRes_1_atIXd d => .z (.resB 1 (.mem (.idx .ix d)))
  | .zRes_2_atIXd d => .z (.resB 2 (.mem (.idx .ix d)))
  | .zRes_3_atIXd d => .z (.resB 3 (.mem (.idx .ix d)))
  | .zRes_4_atIXd d => .z (.resB 4 (.mem (.idx .ix d)))
  | .zRes_5_atIXd d => .z (.resB 5 (.mem (.idx .ix d)))
  | .zRes_6_atIXd d => .z (.resB 6 (.mem (.idx .ix d)))
  | .zRes_7_atIXd d => .z (.resB 7 (.mem (.idx .ix d)))
  | .zSet_0_atIXd d => .z (.setB 0 (.mem (.idx .ix d)))
  | .zSet_1_atIXd d => .z (.setB 1 (.mem (.idx .ix d)))
  | .zSet_2_atIXd d => .z (.setB 2 (.mem (.idx .ix d)))
  | .zSet_3_atIXd d => .z (.setB 3 (.mem (.idx .ix d)))
  | .zSet_4_atIXd d => .z (.setB 4 (.mem (.idx .ix d)))
  | .zSet_5_atIXd d => .z (.setB 5 (.mem (.idx .ix d)))
  | .zSet_6_atIXd d => .z (.setB 6 (.mem (.idx .ix d)))
  | .zSet_7_atIXd d => .z (.setB 7 (.mem (.idx .ix d)))
  | .zAdd_IY_BC => .z (.addXY .iy .bc)
  | .zAdd_IY_DE => .z (.addXY .iy .de)
  | .zAdd_IY_IY => .z (.addXY .iy .self)
  | .zAdd_IY_SP => .z (.addXY .iy .sp)
  | .zLd_IY_nn lo hi => .z (.ldPN (.xy .iy) lo hi)
  | .zLd_atnn_IY lo hi => .z (.ldNnP (.xy .iy) lo hi)
  | .zInc_IY => .z (.incDec16 .inc (.xy .iy))
  | .zLd_IY_atnn lo hi => .z (.ldPNn (.xy .iy) lo hi)
  | .zDec_IY => .z (.incDec16 .dec (.xy .iy))
  | .zInc_atIYd d => .z (.incDecM .inc (.idx .iy d))
  | .zDec_atIYd d => .z (.incDecM .dec (.idx .iy d))
  | .zLd_atIYd_n d n => .z (.ldMN (.idx .iy d) n)
  | .zLd_B_atIYd d => .z (.ldRM .b (.idx .iy d))
  | .zLd_C_atIYd d => .z (.ldRM .c (.idx .iy d))
  | .zLd_D_atIYd d => .z (.ldRM .d (.idx .iy d))
  | .zLd_E_atIYd d => .z (.ldRM .e (.idx .iy d))
  | .zLd_H_atIYd d => .z (.ldRM .h (.idx .iy d))
  | .zLd_L_atIYd d => .z (.ldRM .l (.idx .iy d))
  | .zLd_A_atIYd d => .z (.ldRM .a (.idx .iy d))
  | .zLd_atIYd_B d => .z (.ldMR (.idx .iy d) .b)
  | .zLd_atIYd_C d => .z (.ldMR (.idx .iy d) .c)
  | .zLd_atIYd_D d => .z (.ldMR (.idx .iy d) .d)
  | .zLd_atIYd_E d => .z (.ldMR (.idx .iy d) .e)
  | .zLd_atIYd_H d => .z (.ldMR (.idx .iy d) .h)
  | .zLd_atIYd_L d => .z (.ldMR (.idx .iy d) .l)
  | .zLd_atIYd_A d => .z (.ldMR (.idx .iy d) .a)
  | .zAdd_A_atIYd d => .z (.alu .add (.mem (.idx .iy d)))
  | .zAdc_A_atIYd d => .z (.alu .adc (.mem (.idx .iy d)))
  | .zSub_atIYd d => .z (.alu .sub (.mem (.idx .iy d)))
  | .zSbc_A_atIYd d => .z (.alu .sbc (.mem (.idx .iy d)))
  | .zAnd_atIYd d => .z (.alu .and (.mem (.idx .iy d)))
  | .zXor_atIYd d => .z (.alu .xor (.mem (.idx .iy d)))
  | .zOr_atIYd d => .z (.alu .or (.mem (.idx .iy d)))
  | .zCp_atIYd d => .z (.alu .cp (.mem (.idx .iy d)))
  | .zPop_IY => .z (.pop (.xy .iy))
  | .zEx_atSP_IY => .z (.exSP (.xy .iy))
  | .zPush_IY => .z (.push (.xy .iy))
  | .zJp_atIY => .z (.jpHL (.xy .iy))
  | .zLd_SP_IY => .z (.ldSP (.xy .iy))
  | .zRlc_atIYd d => .z (.rot .rlc (.mem (.idx .iy d)))
  | .zRrc_atIYd d => .z (.rot .rrc (.mem (.idx .iy d)))
  | .zRl_atIYd d => .z (.rot .rl (.mem (.idx .iy d)))
  | .zRr_atIYd d => .z (.rot .rr (.mem (.idx .iy d)))
  | .zSla_atIYd d => .z (.rot .sla (.mem (.idx .iy d)))
  | .zSra_atIYd d => .z (.rot .sra (.mem (.idx .iy d)))
  | .zSrl_atIYd d => .z (.rot .srl (.mem (.idx .iy d)))
  | .zBit_0_atIYd d => .z (.bit 0 (.mem (.idx .iy d)))
  | .zBit_1_atIYd d => .z (.bit 1 (.mem (.idx .iy d)))
  | .zBit_2_atIYd d => .z (.bit 2 (.mem (.idx .iy d)))
  | .zBit_3_atIYd d => .z (.bit 3 (.mem (.idx .iy d)))
  | .zBit_4_atIYd d => .z (.bit 4 (.mem (.idx .iy d)))
  | .zBit_5_atIYd d => .z (.bit 5 (.mem (.idx .iy d)))
  | .zBit_6_atIYd d => .z (.bit 6 (.mem (.idx .iy d)))
  | .zBit_7_atIYd d => .z (.bit 7 (.mem (.idx .iy d)))
  | .zRes_0_atIYd d => .z (.resB 0 (.mem (.idx .iy d)))
  | .zRes_1_atIYd d => .z (.resB 1 (.mem (.idx .iy d)))
  | .zRes_2_atIYd d => .z (.resB 2 (.mem (.idx .iy d)))
  | .zRes_3_atIYd d => .z (.resB 3 (.mem (.idx .iy d)))
  | .zRes_4_atIYd d => .z (.resB 4 (.mem (.idx .iy d)))
  | .zRes_5_atIYd d => .z (.resB 5 (.mem (.idx .iy d)))
  | .zRes_6_atIYd d => .z (.resB 6 (.mem (.idx .iy d)))
  | .zRes_7_atIYd d => .z (.resB 7 (.mem (.idx .iy d)))
  | .zSet_0_atIYd d => .z (.setB 0 (.mem (.idx .iy d)))
  | .zSet_1_atIYd d => .z (.setB 1 (.mem (.idx .iy d)))
  | .zSet_2_atIYd d => .z (.setB 2 (.mem (.idx .iy d)))
  | .zSet_3_atIYd d => .z (.setB 3 (.mem (.idx .iy d)))
  | .zSet_4_atIYd d => .z (.setB 4 (.mem (.idx .iy d)))
  | .zSet_5_atIYd d => .z (.setB 5 (.mem (.idx .iy d)))
  | .zSet_6_atIYd d => .z (.setB 6 (.mem (.idx .iy d)))
  | .zSet_7_atIYd d => .z (.setB 7 (.mem (.idx .iy d)))

/-- The family whose opcode table holds the instruction (R3). -/
def Instr.family (i : Instr) : Family :=
  match i.view with
  | .m _ => .m6502
  | .z _ => .z80

end Sys2Proof
end

