-- ==== Sys2Proof/WellFormed.lean ====
section
/-! DEFINITION. When an instruction is one that a machine can meet: it belongs to the machine's family, and the halt sentinel
of the M6502 stands at the idle address alone (R3, R144). Operand bytes are unconstrained: every value is admitted (R111). -/

namespace Sys2Proof

/-- Why an instruction is not well-formed. -/
inductive IllFormed where
  /-- The instruction belongs to the other family (R3). -/
  | wrongFamily
  /-- The halt sentinel away from `IDLE_ADDR`, where the byte is an illegal opcode (R144). -/
  | sentinelAwayFromIdle
deriving DecidableEq, Repr

/-- The first check that fails, if any. -/
def Instr.check (fam : Family) (atIdle : Bool) (i : Instr) : Option IllFormed :=
  if i.family ≠ fam then some .wrongFamily
  else if i = .mHaltSentinel ∧ atIdle = false then some .sentinelAwayFromIdle
  else none

/-- The instruction is well-formed for a machine of family `fam`, at the idle address or not. -/
def Instr.wellFormed (fam : Family) (atIdle : Bool) (i : Instr) : Bool := (i.check fam atIdle).isNone

end Sys2Proof
end

