-- ==== Sys2Proof/Decode.lean ====
section
/-! DEFINITION. The decoder of both families, total on any bytes (R110, R123, R126, R132 to R138), and the encoder. The
grids are laid out as the spec's: a row per high digit of the opcode byte, sixteen columns. What builds a Z80
instruction is noncomputable for one reason: Lean's run-time holds no value of a type with more than 244 constructors that
carry operands. The kernel evaluates these definitions; what runs compiled is Sys2Proof.Machine.Run, proved equal. -/

namespace Sys2Proof

/-! ### The opcode maps -/

/-- The M6502 opcode map (R123); `0x22` has no entry. -/
def gridM6502 (b1 b2 : Byte) : Nat → List (Option Instr)
  | 0x0 =>
    [some .mBrk, some (.mOraIzx b1), none, none, none, some (.mOraZp b1), some (.mAslZp b1), none, some .mPhp,
      some (.mOraImm b1), some .mAslAcc, none, none, some (.mOraAbs b1 b2), some (.mAslAbs b1 b2), none]
  | 0x1 =>
    [some (.mBpl b1), some (.mOraIzy b1), none, none, none, some (.mOraZpx b1), some (.mAslZpx b1), none, some .mClc,
      some (.mOraAby b1 b2), none, none, none, some (.mOraAbx b1 b2), some (.mAslAbx b1 b2), none]
  | 0x2 =>
    [some (.mJsr b1 b2), some (.mAndIzx b1), none, none, some (.mBitZp b1), some (.mAndZp b1), some (.mRolZp b1),
      none, some .mPlp, some (.mAndImm b1), some .mRolAcc, none, some (.mBitAbs b1 b2), some (.mAndAbs b1 b2),
      some (.mRolAbs b1 b2), none]
  | 0x3 =>
    [some (.mBmi b1), some (.mAndIzy b1), none, none, none, some (.mAndZpx b1), some (.mRolZpx b1), none, some .mSec,
      some (.mAndAby b1 b2), none, none, none, some (.mAndAbx b1 b2), some (.mRolAbx b1 b2), none]
  | 0x4 =>
    [some .mRti, some (.mEorIzx b1), none, none, none, some (.mEorZp b1), some (.mLsrZp b1), none, some .mPha,
      some (.mEorImm b1), some .mLsrAcc, none, some (.mJmpAbs b1 b2), some (.mEorAbs b1 b2), some (.mLsrAbs b1 b2),
      none]
  | 0x5 =>
    [some (.mBvc b1), some (.mEorIzy b1), none, none, none, some (.mEorZpx b1), some (.mLsrZpx b1), none, some .mCli,
      some (.mEorAby b1 b2), none, none, none, some (.mEorAbx b1 b2), some (.mLsrAbx b1 b2), none]
  | 0x6 =>
    [some .mRts, some (.mAdcIzx b1), none, none, none, some (.mAdcZp b1), some (.mRorZp b1), none, some .mPla,
      some (.mAdcImm b1), some .mRorAcc, none, some (.mJmpInd b1 b2), some (.mAdcAbs b1 b2), some (.mRorAbs b1 b2),
      none]
  | 0x7 =>
    [some (.mBvs b1), some (.mAdcIzy b1), none, none, none, some (.mAdcZpx b1), some (.mRorZpx b1), none, some .mSei,
      some (.mAdcAby b1 b2), none, none, none, some (.mAdcAbx b1 b2), some (.mRorAbx b1 b2), none]
  | 0x8 =>
    [none, some (.mStaIzx b1), none, none, some (.mStyZp b1), some (.mStaZp b1), some (.mStxZp b1), none, some .mDey,
      none, some .mTxa, none, some (.mStyAbs b1 b2), some (.mStaAbs b1 b2), some (.mStxAbs b1 b2), none]
  | 0x9 =>
    [some (.mBcc b1), some (.mStaIzy b1), none, none, some (.mStyZpx b1), some (.mStaZpx b1), some (.mStxZpy b1),
      none, some .mTya, some (.mStaAby b1 b2), some .mTxs, none, none, some (.mStaAbx b1 b2), none, none]
  | 0xA =>
    [some (.mLdyImm b1), some (.mLdaIzx b1), some (.mLdxImm b1), none, some (.mLdyZp b1), some (.mLdaZp b1),
      some (.mLdxZp b1), none, some .mTay, some (.mLdaImm b1), some .mTax, none, some (.mLdyAbs b1 b2),
      some (.mLdaAbs b1 b2), some (.mLdxAbs b1 b2), none]
  | 0xB =>
    [some (.mBcs b1), some (.mLdaIzy b1), none, none, some (.mLdyZpx b1), some (.mLdaZpx b1), some (.mLdxZpy b1),
      none, some .mClv, some (.mLdaAby b1 b2), some .mTsx, none, some (.mLdyAbx b1 b2), some (.mLdaAbx b1 b2),
      some (.mLdxAby b1 b2), none]
  | 0xC =>
    [some (.mCpyImm b1), some (.mCmpIzx b1), none, none, some (.mCpyZp b1), some (.mCmpZp b1), some (.mDecZp b1),
      none, some .mIny, some (.mCmpImm b1), some .mDex, none, some (.mCpyAbs b1 b2), some (.mCmpAbs b1 b2),
      some (.mDecAbs b1 b2), none]
  | 0xD =>
    [some (.mBne b1), some (.mCmpIzy b1), none, none, none, some (.mCmpZpx b1), some (.mDecZpx b1), none, some .mCld,
      some (.mCmpAby b1 b2), none, none, none, some (.mCmpAbx b1 b2), some (.mDecAbx b1 b2), none]
  | 0xE =>
    [some (.mCpxImm b1), some (.mSbcIzx b1), none, none, some (.mCpxZp b1), some (.mSbcZp b1), some (.mIncZp b1),
      none, some .mInx, some (.mSbcImm b1), some .mNop, none, some (.mCpxAbs b1 b2), some (.mSbcAbs b1 b2),
      some (.mIncAbs b1 b2), none]
  | 0xF =>
    [some (.mBeq b1), some (.mSbcIzy b1), none, none, none, some (.mSbcZpx b1), some (.mIncZpx b1), none, some .mSed,
      some (.mSbcAby b1 b2), none, none, none, some (.mSbcAbx b1 b2), some (.mIncAbx b1 b2), none]
  | _ => []

/-- The unprefixed Z80 opcodes (R132); `b1` and `b2` are the bytes after the opcode. -/
noncomputable def gridZ80 (b1 b2 : Byte) : Nat → List (Option Instr)
  | 0x0 =>
    [some .zNop, some (.zLd_BC_nn b1 b2), some .zLd_atBC_A, some .zInc_BC, some .zInc_B, some .zDec_B,
      some (.zLd_B_n b1), some .zRlca, some .zEx_AF_AFalt, some .zAdd_HL_BC, some .zLd_A_atBC, some .zDec_BC,
      some .zInc_C, some .zDec_C, some (.zLd_C_n b1), some .zRrca]
  | 0x1 =>
    [some (.zDjnz_e b1), some (.zLd_DE_nn b1 b2), some .zLd_atDE_A, some .zInc_DE, some .zInc_D, some .zDec_D,
      some (.zLd_D_n b1), some .zRla, some (.zJr_e b1), some .zAdd_HL_DE, some .zLd_A_atDE, some .zDec_DE,
      some .zInc_E, some .zDec_E, some (.zLd_E_n b1), some .zRra]
  | 0x2 =>
    [some (.zJr_NZ_e b1), some (.zLd_HL_nn b1 b2), some (.zLd_atnn_HL b1 b2), some .zInc_HL, some .zInc_H,
      some .zDec_H, some (.zLd_H_n b1), some .zDaa, some (.zJr_Z_e b1), some .zAdd_HL_HL, some (.zLd_HL_atnn b1 b2),
      some .zDec_HL, some .zInc_L, some .zDec_L, some (.zLd_L_n b1), some .zCpl]
  | 0x3 =>
    [some (.zJr_NC_e b1), some (.zLd_SP_nn b1 b2), some (.zLd_atnn_A b1 b2), some .zInc_SP, some .zInc_atHL,
      some .zDec_atHL, some (.zLd_atHL_n b1), some .zScf, some (.zJr_C_e b1), some .zAdd_HL_SP,
      some (.zLd_A_atnn b1 b2), some .zDec_SP, some .zInc_A, some .zDec_A, some (.zLd_A_n b1), some .zCcf]
  | 0x4 =>
    [some .zLd_B_B, some .zLd_B_C, some .zLd_B_D, some .zLd_B_E, some .zLd_B_H, some .zLd_B_L, some .zLd_B_atHL,
      some .zLd_B_A, some .zLd_C_B, some .zLd_C_C, some .zLd_C_D, some .zLd_C_E, some .zLd_C_H, some .zLd_C_L,
      some .zLd_C_atHL, some .zLd_C_A]
  | 0x5 =>
    [some .zLd_D_B, some .zLd_D_C, some .zLd_D_D, some .zLd_D_E, some .zLd_D_H, some .zLd_D_L, some .zLd_D_atHL,
      some .zLd_D_A, some .zLd_E_B, some .zLd_E_C, some .zLd_E_D, some .zLd_E_E, some .zLd_E_H, some .zLd_E_L,
      some .zLd_E_atHL, some .zLd_E_A]
  | 0x6 =>
    [some .zLd_H_B, some .zLd_H_C, some .zLd_H_D, some .zLd_H_E, some .zLd_H_H, some .zLd_H_L, some .zLd_H_atHL,
      some .zLd_H_A, some .zLd_L_B, some .zLd_L_C, some .zLd_L_D, some .zLd_L_E, some .zLd_L_H, some .zLd_L_L,
      some .zLd_L_atHL, some .zLd_L_A]
  | 0x7 =>
    [some .zLd_atHL_B, some .zLd_atHL_C, some .zLd_atHL_D, some .zLd_atHL_E, some .zLd_atHL_H, some .zLd_atHL_L,
      some .zHalt, some .zLd_atHL_A, some .zLd_A_B, some .zLd_A_C, some .zLd_A_D, some .zLd_A_E, some .zLd_A_H,
      some .zLd_A_L, some .zLd_A_atHL, some .zLd_A_A]
  | 0x8 =>
    [some .zAdd_A_B, some .zAdd_A_C, some .zAdd_A_D, some .zAdd_A_E, some .zAdd_A_H, some .zAdd_A_L,
      some .zAdd_A_atHL, some .zAdd_A_A, some .zAdc_A_B, some .zAdc_A_C, some .zAdc_A_D, some .zAdc_A_E,
      some .zAdc_A_H, some .zAdc_A_L, some .zAdc_A_atHL, some .zAdc_A_A]
  | 0x9 =>
    [some .zSub_B, some .zSub_C, some .zSub_D, some .zSub_E, some .zSub_H, some .zSub_L, some .zSub_atHL,
      some .zSub_A, some .zSbc_A_B, some .zSbc_A_C, some .zSbc_A_D, some .zSbc_A_E, some .zSbc_A_H, some .zSbc_A_L,
      some .zSbc_A_atHL, some .zSbc_A_A]
  | 0xA =>
    [some .zAnd_B, some .zAnd_C, some .zAnd_D, some .zAnd_E, some .zAnd_H, some .zAnd_L, some .zAnd_atHL,
      some .zAnd_A, some .zXor_B, some .zXor_C, some .zXor_D, some .zXor_E, some .zXor_H, some .zXor_L,
      some .zXor_atHL, some .zXor_A]
  | 0xB =>
    [some .zOr_B, some .zOr_C, some .zOr_D, some .zOr_E, some .zOr_H, some .zOr_L, some .zOr_atHL, some .zOr_A,
      some .zCp_B, some .zCp_C, some .zCp_D, some .zCp_E, some .zCp_H, some .zCp_L, some .zCp_atHL, some .zCp_A]
  | 0xC =>
    [some .zRet_NZ, some .zPop_BC, some (.zJp_NZ_nn b1 b2), some (.zJp_nn b1 b2), some (.zCall_NZ_nn b1 b2),
      some .zPush_BC, some (.zAdd_A_n b1), some .zRst_00H, some .zRet_Z, some .zRet, some (.zJp_Z_nn b1 b2), none,
      some (.zCall_Z_nn b1 b2), some (.zCall_nn b1 b2), some (.zAdc_A_n b1), some .zRst_08H]
  | 0xD =>
    [some .zRet_NC, some .zPop_DE, some (.zJp_NC_nn b1 b2), some (.zOut_atn_A b1), some (.zCall_NC_nn b1 b2),
      some .zPush_DE, some (.zSub_n b1), some .zRst_10H, some .zRet_C, some .zExx, some (.zJp_C_nn b1 b2),
      some (.zIn_A_atn b1), some (.zCall_C_nn b1 b2), none, some (.zSbc_A_n b1), some .zRst_18H]
  | 0xE =>
    [some .zRet_PO, some .zPop_HL, some (.zJp_PO_nn b1 b2), some .zEx_atSP_HL, some (.zCall_PO_nn b1 b2),
      some .zPush_HL, some (.zAnd_n b1), some .zRst_20H, some .zRet_PE, some .zJp_atHL, some (.zJp_PE_nn b1 b2),
      some .zEx_DE_HL, some (.zCall_PE_nn b1 b2), none, some (.zXor_n b1), some .zRst_28H]
  | 0xF =>
    [some .zRet_P, some .zPop_AF, some (.zJp_P_nn b1 b2), some .zDi, some (.zCall_P_nn b1 b2), some .zPush_AF,
      some (.zOr_n b1), some .zRst_30H, some .zRet_M, some .zLd_SP_HL, some (.zJp_M_nn b1 b2), some .zEi,
      some (.zCall_M_nn b1 b2), none, some (.zCp_n b1), some .zRst_38H]
  | _ => []

/-- The `CB` opcodes (R133). -/
def gridCb : Nat → List (Option Instr)
  | 0x0 =>
    [some .zRlc_B, some .zRlc_C, some .zRlc_D, some .zRlc_E, some .zRlc_H, some .zRlc_L, some .zRlc_atHL,
      some .zRlc_A, some .zRrc_B, some .zRrc_C, some .zRrc_D, some .zRrc_E, some .zRrc_H, some .zRrc_L,
      some .zRrc_atHL, some .zRrc_A]
  | 0x1 =>
    [some .zRl_B, some .zRl_C, some .zRl_D, some .zRl_E, some .zRl_H, some .zRl_L, some .zRl_atHL, some .zRl_A,
      some .zRr_B, some .zRr_C, some .zRr_D, some .zRr_E, some .zRr_H, some .zRr_L, some .zRr_atHL, some .zRr_A]
  | 0x2 =>
    [some .zSla_B, some .zSla_C, some .zSla_D, some .zSla_E, some .zSla_H, some .zSla_L, some .zSla_atHL,
      some .zSla_A, some .zSra_B, some .zSra_C, some .zSra_D, some .zSra_E, some .zSra_H, some .zSra_L,
      some .zSra_atHL, some .zSra_A]
  | 0x3 =>
    [none, none, none, none, none, none, none, none, some .zSrl_B, some .zSrl_C, some .zSrl_D, some .zSrl_E,
      some .zSrl_H, some .zSrl_L, some .zSrl_atHL, some .zSrl_A]
  | 0x4 =>
    [some .zBit_0_B, some .zBit_0_C, some .zBit_0_D, some .zBit_0_E, some .zBit_0_H, some .zBit_0_L,
      some .zBit_0_atHL, some .zBit_0_A, some .zBit_1_B, some .zBit_1_C, some .zBit_1_D, some .zBit_1_E,
      some .zBit_1_H, some .zBit_1_L, some .zBit_1_atHL, some .zBit_1_A]
  | 0x5 =>
    [some .zBit_2_B, some .zBit_2_C, some .zBit_2_D, some .zBit_2_E, some .zBit_2_H, some .zBit_2_L,
      some .zBit_2_atHL, some .zBit_2_A, some .zBit_3_B, some .zBit_3_C, some .zBit_3_D, some .zBit_3_E,
      some .zBit_3_H, some .zBit_3_L, some .zBit_3_atHL, some .zBit_3_A]
  | 0x6 =>
    [some .zBit_4_B, some .zBit_4_C, some .zBit_4_D, some .zBit_4_E, some .zBit_4_H, some .zBit_4_L,
      some .zBit_4_atHL, some .zBit_4_A, some .zBit_5_B, some .zBit_5_C, some .zBit_5_D, some .zBit_5_E,
      some .zBit_5_H, some .zBit_5_L, some .zBit_5_atHL, some .zBit_5_A]
  | 0x7 =>
    [some .zBit_6_B, some .zBit_6_C, some .zBit_6_D, some .zBit_6_E, some .zBit_6_H, some .zBit_6_L,
      some .zBit_6_atHL, some .zBit_6_A, some .zBit_7_B, some .zBit_7_C, some .zBit_7_D, some .zBit_7_E,
      some .zBit_7_H, some .zBit_7_L, some .zBit_7_atHL, some .zBit_7_A]
  | 0x8 =>
    [some .zRes_0_B, some .zRes_0_C, some .zRes_0_D, some .zRes_0_E, some .zRes_0_H, some .zRes_0_L,
      some .zRes_0_atHL, some .zRes_0_A, some .zRes_1_B, some .zRes_1_C, some .zRes_1_D, some .zRes_1_E,
      some .zRes_1_H, some .zRes_1_L, some .zRes_1_atHL, some .zRes_1_A]
  | 0x9 =>
    [some .zRes_2_B, some .zRes_2_C, some .zRes_2_D, some .zRes_2_E, some .zRes_2_H, some .zRes_2_L,
      some .zRes_2_atHL, some .zRes_2_A, some .zRes_3_B, some .zRes_3_C, some .zRes_3_D, some .zRes_3_E,
      some .zRes_3_H, some .zRes_3_L, some .zRes_3_atHL, some .zRes_3_A]
  | 0xA =>
    [some .zRes_4_B, some .zRes_4_C, some .zRes_4_D, some .zRes_4_E, some .zRes_4_H, some .zRes_4_L,
      some .zRes_4_atHL, some .zRes_4_A, some .zRes_5_B, some .zRes_5_C, some .zRes_5_D, some .zRes_5_E,
      some .zRes_5_H, some .zRes_5_L, some .zRes_5_atHL, some .zRes_5_A]
  | 0xB =>
    [some .zRes_6_B, some .zRes_6_C, some .zRes_6_D, some .zRes_6_E, some .zRes_6_H, some .zRes_6_L,
      some .zRes_6_atHL, some .zRes_6_A, some .zRes_7_B, some .zRes_7_C, some .zRes_7_D, some .zRes_7_E,
      some .zRes_7_H, some .zRes_7_L, some .zRes_7_atHL, some .zRes_7_A]
  | 0xC =>
    [some .zSet_0_B, some .zSet_0_C, some .zSet_0_D, some .zSet_0_E, some .zSet_0_H, some .zSet_0_L,
      some .zSet_0_atHL, some .zSet_0_A, some .zSet_1_B, some .zSet_1_C, some .zSet_1_D, some .zSet_1_E,
      some .zSet_1_H, some .zSet_1_L, some .zSet_1_atHL, some .zSet_1_A]
  | 0xD =>
    [some .zSet_2_B, some .zSet_2_C, some .zSet_2_D, some .zSet_2_E, some .zSet_2_H, some .zSet_2_L,
      some .zSet_2_atHL, some .zSet_2_A, some .zSet_3_B, some .zSet_3_C, some .zSet_3_D, some .zSet_3_E,
      some .zSet_3_H, some .zSet_3_L, some .zSet_3_atHL, some .zSet_3_A]
  | 0xE =>
    [some .zSet_4_B, some .zSet_4_C, some .zSet_4_D, some .zSet_4_E, some .zSet_4_H, some .zSet_4_L,
      some .zSet_4_atHL, some .zSet_4_A, some .zSet_5_B, some .zSet_5_C, some .zSet_5_D, some .zSet_5_E,
      some .zSet_5_H, some .zSet_5_L, some .zSet_5_atHL, some .zSet_5_A]
  | 0xF =>
    [some .zSet_6_B, some .zSet_6_C, some .zSet_6_D, some .zSet_6_E, some .zSet_6_H, some .zSet_6_L,
      some .zSet_6_atHL, some .zSet_6_A, some .zSet_7_B, some .zSet_7_C, some .zSet_7_D, some .zSet_7_E,
      some .zSet_7_H, some .zSet_7_L, some .zSet_7_atHL, some .zSet_7_A]
  | _ => []

/-- The `ED` opcodes (R134). -/
noncomputable def gridEd (b2 b3 : Byte) : Nat → List (Option Instr)
  | 0x4 =>
    [some .zIn_B_atC, some .zOut_atC_B, some .zSbc_HL_BC, some (.zLd_atnn_BC b2 b3), some .zNeg, some .zRetn,
      some .zIm_0, some .zLd_I_A, some .zIn_C_atC, some .zOut_atC_C, some .zAdc_HL_BC, some (.zLd_BC_atnn b2 b3),
      none, some .zReti, none, some .zLd_R_A]
  | 0x5 =>
    [some .zIn_D_atC, some .zOut_atC_D, some .zSbc_HL_DE, some (.zLd_atnn_DE b2 b3), none, none, some .zIm_1,
      some .zLd_A_I, some .zIn_E_atC, some .zOut_atC_E, some .zAdc_HL_DE, some (.zLd_DE_atnn b2 b3), none, none,
      some .zIm_2, some .zLd_A_R]
  | 0x6 =>
    [some .zIn_H_atC, some .zOut_atC_H, some .zSbc_HL_HL, some (.zLdEd_atnn_HL b2 b3), none, none, none, some .zRrd,
      some .zIn_L_atC, some .zOut_atC_L, some .zAdc_HL_HL, some (.zLdEd_HL_atnn b2 b3), none, none, none, some .zRld]
  | 0x7 =>
    [none, none, some .zSbc_HL_SP, some (.zLd_atnn_SP b2 b3), none, none, none, none, some .zIn_A_atC,
      some .zOut_atC_A, some .zAdc_HL_SP, some (.zLd_SP_atnn b2 b3), none, none, none, none]
  | 0xA =>
    [some .zLdi, some .zCpi, some .zIni, some .zOuti, none, none, none, none, some .zLdd, some .zCpd, some .zInd,
      some .zOutd, none, none, none, none]
  | 0xB =>
    [some .zLdir, some .zCpir, some .zInir, some .zOtir, none, none, none, none, some .zLddr, some .zCpdr,
      some .zIndr, some .zOtdr, none, none, none, none]
  | _ => []

/-- The `DD` opcodes, index IX (R135). -/
noncomputable def gridDd (b2 b3 : Byte) : Nat → List (Option Instr)
  | 0x0 =>
    [none, none, none, none, none, none, none, none, none, some .zAdd_IX_BC, none, none, none, none, none, none]
  | 0x1 =>
    [none, none, none, none, none, none, none, none, none, some .zAdd_IX_DE, none, none, none, none, none, none]
  | 0x2 =>
    [none, some (.zLd_IX_nn b2 b3), some (.zLd_atnn_IX b2 b3), some .zInc_IX, none, none, none, none, none,
      some .zAdd_IX_IX, some (.zLd_IX_atnn b2 b3), some .zDec_IX, none, none, none, none]
  | 0x3 =>
    [none, none, none, none, some (.zInc_atIXd b2), some (.zDec_atIXd b2), some (.zLd_atIXd_n b2 b3), none, none,
      some .zAdd_IX_SP, none, none, none, none, none, none]
  | 0x4 =>
    [none, none, none, none, none, none, some (.zLd_B_atIXd b2), none, none, none, none, none, none, none,
      some (.zLd_C_atIXd b2), none]
  | 0x5 =>
    [none, none, none, none, none, none, some (.zLd_D_atIXd b2), none, none, none, none, none, none, none,
      some (.zLd_E_atIXd b2), none]
  | 0x6 =>
    [none, none, none, none, none, none, some (.zLd_H_atIXd b2), none, none, none, none, none, none, none,
      some (.zLd_L_atIXd b2), none]
  | 0x7 =>
    [some (.zLd_atIXd_B b2), some (.zLd_atIXd_C b2), some (.zLd_atIXd_D b2), some (.zLd_atIXd_E b2),
      some (.zLd_atIXd_H b2), some (.zLd_atIXd_L b2), none, some (.zLd_atIXd_A b2), none, none, none, none, none,
      none, some (.zLd_A_atIXd b2), none]
  | 0x8 =>
    [none, none, none, none, none, none, some (.zAdd_A_atIXd b2), none, none, none, none, none, none, none,
      some (.zAdc_A_atIXd b2), none]
  | 0x9 =>
    [none, none, none, none, none, none, some (.zSub_atIXd b2), none, none, none, none, none, none, none,
      some (.zSbc_A_atIXd b2), none]
  | 0xA =>
    [none, none, none, none, none, none, some (.zAnd_atIXd b2), none, none, none, none, none, none, none,
      some (.zXor_atIXd b2), none]
  | 0xB =>
    [none, none, none, none, none, none, some (.zOr_atIXd b2), none, none, none, none, none, none, none,
      some (.zCp_atIXd b2), none]
  | 0xE =>
    [none, some .zPop_IX, none, some .zEx_atSP_IX, none, some .zPush_IX, none, none, none, some .zJp_atIX, none,
      none, none, none, none, none]
  | 0xF =>
    [none, none, none, none, none, none, none, none, none, some .zLd_SP_IX, none, none, none, none, none, none]
  | _ => []

/-- The `FD` opcodes, index IY (R135). -/
noncomputable def gridFd (b2 b3 : Byte) : Nat → List (Option Instr)
  | 0x0 =>
    [none, none, none, none, none, none, none, none, none, some .zAdd_IY_BC, none, none, none, none, none, none]
  | 0x1 =>
    [none, none, none, none, none, none, none, none, none, some .zAdd_IY_DE, none, none, none, none, none, none]
  | 0x2 =>
    [none, some (.zLd_IY_nn b2 b3), some (.zLd_atnn_IY b2 b3), some .zInc_IY, none, none, none, none, none,
      some .zAdd_IY_IY, some (.zLd_IY_atnn b2 b3), some .zDec_IY, none, none, none, none]
  | 0x3 =>
    [none, none, none, none, some (.zInc_atIYd b2), some (.zDec_atIYd b2), some (.zLd_atIYd_n b2 b3), none, none,
      some .zAdd_IY_SP, none, none, none, none, none, none]
  | 0x4 =>
    [none, none, none, none, none, none, some (.zLd_B_atIYd b2), none, none, none, none, none, none, none,
      some (.zLd_C_atIYd b2), none]
  | 0x5 =>
    [none, none, none, none, none, none, some (.zLd_D_atIYd b2), none, none, none, none, none, none, none,
      some (.zLd_E_atIYd b2), none]
  | 0x6 =>
    [none, none, none, none, none, none, some (.zLd_H_atIYd b2), none, none, none, none, none, none, none,
      some (.zLd_L_atIYd b2), none]
  | 0x7 =>
    [some (.zLd_atIYd_B b2), some (.zLd_atIYd_C b2), some (.zLd_atIYd_D b2), some (.zLd_atIYd_E b2),
      some (.zLd_atIYd_H b2), some (.zLd_atIYd_L b2), none, some (.zLd_atIYd_A b2), none, none, none, none, none,
      none, some (.zLd_A_atIYd b2), none]
  | 0x8 =>
    [none, none, none, none, none, none, some (.zAdd_A_atIYd b2), none, none, none, none, none, none, none,
      some (.zAdc_A_atIYd b2), none]
  | 0x9 =>
    [none, none, none, none, none, none, some (.zSub_atIYd b2), none, none, none, none, none, none, none,
      some (.zSbc_A_atIYd b2), none]
  | 0xA =>
    [none, none, none, none, none, none, some (.zAnd_atIYd b2), none, none, none, none, none, none, none,
      some (.zXor_atIYd b2), none]
  | 0xB =>
    [none, none, none, none, none, none, some (.zOr_atIYd b2), none, none, none, none, none, none, none,
      some (.zCp_atIYd b2), none]
  | 0xE =>
    [none, some .zPop_IY, none, some .zEx_atSP_IY, none, some .zPush_IY, none, none, none, some .zJp_atIY, none,
      none, none, none, none, none]
  | 0xF =>
    [none, none, none, none, none, none, none, none, none, some .zLd_SP_IY, none, none, none, none, none, none]
  | _ => []

/-- The `DD CB d op` opcodes (R136). -/
noncomputable def gridDdCb (d : Byte) : Nat → List (Option Instr)
  | 0x0 =>
    [none, none, none, none, none, none, some (.zRlc_atIXd d), none, none, none, none, none, none, none,
      some (.zRrc_atIXd d), none]
  | 0x1 =>
    [none, none, none, none, none, none, some (.zRl_atIXd d), none, none, none, none, none, none, none,
      some (.zRr_atIXd d), none]
  | 0x2 =>
    [none, none, none, none, none, none, some (.zSla_atIXd d), none, none, none, none, none, none, none,
      some (.zSra_atIXd d), none]
  | 0x3 =>
    [none, none, none, none, none, none, none, none, none, none, none, none, none, none, some (.zSrl_atIXd d), none]
  | 0x4 =>
    [none, none, none, none, none, none, some (.zBit_0_atIXd d), none, none, none, none, none, none, none,
      some (.zBit_1_atIXd d), none]
  | 0x5 =>
    [none, none, none, none, none, none, some (.zBit_2_atIXd d), none, none, none, none, none, none, none,
      some (.zBit_3_atIXd d), none]
  | 0x6 =>
    [none, none, none, none, none, none, some (.zBit_4_atIXd d), none, none, none, none, none, none, none,
      some (.zBit_5_atIXd d), none]
  | 0x7 =>
    [none, none, none, none, none, none, some (.zBit_6_atIXd d), none, none, none, none, none, none, none,
      some (.zBit_7_atIXd d), none]
  | 0x8 =>
    [none, none, none, none, none, none, some (.zRes_0_atIXd d), none, none, none, none, none, none, none,
      some (.zRes_1_atIXd d), none]
  | 0x9 =>
    [none, none, none, none, none, none, some (.zRes_2_atIXd d), none, none, none, none, none, none, none,
      some (.zRes_3_atIXd d), none]
  | 0xA =>
    [none, none, none, none, none, none, some (.zRes_4_atIXd d), none, none, none, none, none, none, none,
      some (.zRes_5_atIXd d), none]
  | 0xB =>
    [none, none, none, none, none, none, some (.zRes_6_atIXd d), none, none, none, none, none, none, none,
      some (.zRes_7_atIXd d), none]
  | 0xC =>
    [none, none, none, none, none, none, some (.zSet_0_atIXd d), none, none, none, none, none, none, none,
      some (.zSet_1_atIXd d), none]
  | 0xD =>
    [none, none, none, none, none, none, some (.zSet_2_atIXd d), none, none, none, none, none, none, none,
      some (.zSet_3_atIXd d), none]
  | 0xE =>
    [none, none, none, none, none, none, some (.zSet_4_atIXd d), none, none, none, none, none, none, none,
      some (.zSet_5_atIXd d), none]
  | 0xF =>
    [none, none, none, none, none, none, some (.zSet_6_atIXd d), none, none, none, none, none, none, none,
      some (.zSet_7_atIXd d), none]
  | _ => []

/-- The `FD CB d op` opcodes (R136). -/
noncomputable def gridFdCb (d : Byte) : Nat → List (Option Instr)
  | 0x0 =>
    [none, none, none, none, none, none, some (.zRlc_atIYd d), none, none, none, none, none, none, none,
      some (.zRrc_atIYd d), none]
  | 0x1 =>
    [none, none, none, none, none, none, some (.zRl_atIYd d), none, none, none, none, none, none, none,
      some (.zRr_atIYd d), none]
  | 0x2 =>
    [none, none, none, none, none, none, some (.zSla_atIYd d), none, none, none, none, none, none, none,
      some (.zSra_atIYd d), none]
  | 0x3 =>
    [none, none, none, none, none, none, none, none, none, none, none, none, none, none, some (.zSrl_atIYd d), none]
  | 0x4 =>
    [none, none, none, none, none, none, some (.zBit_0_atIYd d), none, none, none, none, none, none, none,
      some (.zBit_1_atIYd d), none]
  | 0x5 =>
    [none, none, none, none, none, none, some (.zBit_2_atIYd d), none, none, none, none, none, none, none,
      some (.zBit_3_atIYd d), none]
  | 0x6 =>
    [none, none, none, none, none, none, some (.zBit_4_atIYd d), none, none, none, none, none, none, none,
      some (.zBit_5_atIYd d), none]
  | 0x7 =>
    [none, none, none, none, none, none, some (.zBit_6_atIYd d), none, none, none, none, none, none, none,
      some (.zBit_7_atIYd d), none]
  | 0x8 =>
    [none, none, none, none, none, none, some (.zRes_0_atIYd d), none, none, none, none, none, none, none,
      some (.zRes_1_atIYd d), none]
  | 0x9 =>
    [none, none, none, none, none, none, some (.zRes_2_atIYd d), none, none, none, none, none, none, none,
      some (.zRes_3_atIYd d), none]
  | 0xA =>
    [none, none, none, none, none, none, some (.zRes_4_atIYd d), none, none, none, none, none, none, none,
      some (.zRes_5_atIYd d), none]
  | 0xB =>
    [none, none, none, none, none, none, some (.zRes_6_atIYd d), none, none, none, none, none, none, none,
      some (.zRes_7_atIYd d), none]
  | 0xC =>
    [none, none, none, none, none, none, some (.zSet_0_atIYd d), none, none, none, none, none, none, none,
      some (.zSet_1_atIYd d), none]
  | 0xD =>
    [none, none, none, none, none, none, some (.zSet_2_atIYd d), none, none, none, none, none, none, none,
      some (.zSet_3_atIYd d), none]
  | 0xE =>
    [none, none, none, none, none, none, some (.zSet_4_atIYd d), none, none, none, none, none, none, none,
      some (.zSet_5_atIYd d), none]
  | 0xF =>
    [none, none, none, none, none, none, some (.zSet_6_atIYd d), none, none, none, none, none, none, none,
      some (.zSet_7_atIYd d), none]
  | _ => []

/-- The entry of an opcode byte in a map. -/
def gridAt (g : Nat → List (Option Instr)) (op : Byte) : Option Instr :=
  (g (op.toNat / 16)).getD (op.toNat % 16) none

/-! ### Decoding -/

/-- What the bytes at `pc` are: an instruction, or an illegal opcode of a kind that has a name. -/
inductive Decoded where
  | instr (i : Instr)
  | illegal (k : Illegal)
deriving DecidableEq, Repr

/-- An entry of a map, or the kind of illegal opcode its absence means. -/
def orIllegal (k : Illegal) : Option Instr → Decoded
  | some i => .instr i
  | none => .illegal k

/-- Decode the first four bytes of the instruction stream. `atIdle` says that they stand at `IDLE_ADDR`, which makes the
M6502 byte `0x22` the halt sentinel (R144). Bytes beyond the instruction's own are ignored. -/
noncomputable def decode (fam : Family) (atIdle : Bool) (b0 b1 b2 b3 : Byte) : Decoded :=
  match fam with
  | .m6502 =>
    if b0 = 0x22 ∧ atIdle then .instr .mHaltSentinel
    else orIllegal .m6502 (gridAt (gridM6502 b1 b2) b0)
  | .z80 =>
    if b0 = 0xCB then orIllegal .z80Cb (gridAt gridCb b1)
    else if b0 = 0xED then orIllegal .z80Ed (gridAt (gridEd b2 b3) b1)
    else if b0 = 0xDD then
      if b1 = 0xCB then orIllegal .z80IndexCb (gridAt (gridDdCb b2) b3)
      else orIllegal .z80Prefix (gridAt (gridDd b2 b3) b1)
    else if b0 = 0xFD then
      if b1 = 0xCB then orIllegal .z80IndexCb (gridAt (gridFdCb b2) b3)
      else orIllegal .z80Prefix (gridAt (gridFd b2 b3) b1)
    else orIllegal .z80Prefix (gridAt (gridZ80 b1 b2) b0)

/-- Decode a list of bytes; missing bytes are 0. -/
noncomputable def decodeBytes (fam : Family) (atIdle : Bool) (bs : List Byte) : Decoded :=
  decode fam atIdle (bs.getD 0 0) (bs.getD 1 0) (bs.getD 2 0) (bs.getD 3 0)

/-! ### Encoding -/

/-- The bytes of an instruction (R110 to R136). -/
def encode : Instr → List Byte
  | .mBrk => [0x00]
  | .mOraIzx b1 => [0x01, b1]
  | .mOraZp b1 => [0x05, b1]
  | .mAslZp b1 => [0x06, b1]
  | .mPhp => [0x08]
  | .mOraImm b1 => [0x09, b1]
  | .mAslAcc => [0x0A]
  | .mOraAbs b1 b2 => [0x0D, b1, b2]
  | .mAslAbs b1 b2 => [0x0E, b1, b2]
  | .mBpl b1 => [0x10, b1]
  | .mOraIzy b1 => [0x11, b1]
  | .mOraZpx b1 => [0x15, b1]
  | .mAslZpx b1 => [0x16, b1]
  | .mClc => [0x18]
  | .mOraAby b1 b2 => [0x19, b1, b2]
  | .mOraAbx b1 b2 => [0x1D, b1, b2]
  | .mAslAbx b1 b2 => [0x1E, b1, b2]
  | .mJsr b1 b2 => [0x20, b1, b2]
  | .mAndIzx b1 => [0x21, b1]
  | .mHaltSentinel => [0x22]
  | .mBitZp b1 => [0x24, b1]
  | .mAndZp b1 => [0x25, b1]
  | .mRolZp b1 => [0x26, b1]
  | .mPlp => [0x28]
  | .mAndImm b1 => [0x29, b1]
  | .mRolAcc => [0x2A]
  | .mBitAbs b1 b2 => [0x2C, b1, b2]
  | .mAndAbs b1 b2 => [0x2D, b1, b2]
  | .mRolAbs b1 b2 => [0x2E, b1, b2]
  | .mBmi b1 => [0x30, b1]
  | .mAndIzy b1 => [0x31, b1]
  | .mAndZpx b1 => [0x35, b1]
  | .mRolZpx b1 => [0x36, b1]
  | .mSec => [0x38]
  | .mAndAby b1 b2 => [0x39, b1, b2]
  | .mAndAbx b1 b2 => [0x3D, b1, b2]
  | .mRolAbx b1 b2 => [0x3E, b1, b2]
  | .mRti => [0x40]
  | .mEorIzx b1 => [0x41, b1]
  | .mEorZp b1 => [0x45, b1]
  | .mLsrZp b1 => [0x46, b1]
  | .mPha => [0x48]
  | .mEorImm b1 => [0x49, b1]
  | .mLsrAcc => [0x4A]
  | .mJmpAbs b1 b2 => [0x4C, b1, b2]
  | .mEorAbs b1 b2 => [0x4D, b1, b2]
  | .mLsrAbs b1 b2 => [0x4E, b1, b2]
  | .mBvc b1 => [0x50, b1]
  | .mEorIzy b1 => [0x51, b1]
  | .mEorZpx b1 => [0x55, b1]
  | .mLsrZpx b1 => [0x56, b1]
  | .mCli => [0x58]
  | .mEorAby b1 b2 => [0x59, b1, b2]
  | .mEorAbx b1 b2 => [0x5D, b1, b2]
  | .mLsrAbx b1 b2 => [0x5E, b1, b2]
  | .mRts => [0x60]
  | .mAdcIzx b1 => [0x61, b1]
  | .mAdcZp b1 => [0x65, b1]
  | .mRorZp b1 => [0x66, b1]
  | .mPla => [0x68]
  | .mAdcImm b1 => [0x69, b1]
  | .mRorAcc => [0x6A]
  | .mJmpInd b1 b2 => [0x6C, b1, b2]
  | .mAdcAbs b1 b2 => [0x6D, b1, b2]
  | .mRorAbs b1 b2 => [0x6E, b1, b2]
  | .mBvs b1 => [0x70, b1]
  | .mAdcIzy b1 => [0x71, b1]
  | .mAdcZpx b1 => [0x75, b1]
  | .mRorZpx b1 => [0x76, b1]
  | .mSei => [0x78]
  | .mAdcAby b1 b2 => [0x79, b1, b2]
  | .mAdcAbx b1 b2 => [0x7D, b1, b2]
  | .mRorAbx b1 b2 => [0x7E, b1, b2]
  | .mStaIzx b1 => [0x81, b1]
  | .mStyZp b1 => [0x84, b1]
  | .mStaZp b1 => [0x85, b1]
  | .mStxZp b1 => [0x86, b1]
  | .mDey => [0x88]
  | .mTxa => [0x8A]
  | .mStyAbs b1 b2 => [0x8C, b1, b2]
  | .mStaAbs b1 b2 => [0x8D, b1, b2]
  | .mStxAbs b1 b2 => [0x8E, b1, b2]
  | .mBcc b1 => [0x90, b1]
  | .mStaIzy b1 => [0x91, b1]
  | .mStyZpx b1 => [0x94, b1]
  | .mStaZpx b1 => [0x95, b1]
  | .mStxZpy b1 => [0x96, b1]
  | .mTya => [0x98]
  | .mStaAby b1 b2 => [0x99, b1, b2]
  | .mTxs => [0x9A]
  | .mStaAbx b1 b2 => [0x9D, b1, b2]
  | .mLdyImm b1 => [0xA0, b1]
  | .mLdaIzx b1 => [0xA1, b1]
  | .mLdxImm b1 => [0xA2, b1]
  | .mLdyZp b1 => [0xA4, b1]
  | .mLdaZp b1 => [0xA5, b1]
  | .mLdxZp b1 => [0xA6, b1]
  | .mTay => [0xA8]
  | .mLdaImm b1 => [0xA9, b1]
  | .mTax => [0xAA]
  | .mLdyAbs b1 b2 => [0xAC, b1, b2]
  | .mLdaAbs b1 b2 => [0xAD, b1, b2]
  | .mLdxAbs b1 b2 => [0xAE, b1, b2]
  | .mBcs b1 => [0xB0, b1]
  | .mLdaIzy b1 => [0xB1, b1]
  | .mLdyZpx b1 => [0xB4, b1]
  | .mLdaZpx b1 => [0xB5, b1]
  | .mLdxZpy b1 => [0xB6, b1]
  | .mClv => [0xB8]
  | .mLdaAby b1 b2 => [0xB9, b1, b2]
  | .mTsx => [0xBA]
  | .mLdyAbx b1 b2 => [0xBC, b1, b2]
  | .mLdaAbx b1 b2 => [0xBD, b1, b2]
  | .mLdxAby b1 b2 => [0xBE, b1, b2]
  | .mCpyImm b1 => [0xC0, b1]
  | .mCmpIzx b1 => [0xC1, b1]
  | .mCpyZp b1 => [0xC4, b1]
  | .mCmpZp b1 => [0xC5, b1]
  | .mDecZp b1 => [0xC6, b1]
  | .mIny => [0xC8]
  | .mCmpImm b1 => [0xC9, b1]
  | .mDex => [0xCA]
  | .mCpyAbs b1 b2 => [0xCC, b1, b2]
  | .mCmpAbs b1 b2 => [0xCD, b1, b2]
  | .mDecAbs b1 b2 => [0xCE, b1, b2]
  | .mBne b1 => [0xD0, b1]
  | .mCmpIzy b1 => [0xD1, b1]
  | .mCmpZpx b1 => [0xD5, b1]
  | .mDecZpx b1 => [0xD6, b1]
  | .mCld => [0xD8]
  | .mCmpAby b1 b2 => [0xD9, b1, b2]
  | .mCmpAbx b1 b2 => [0xDD, b1, b2]
  | .mDecAbx b1 b2 => [0xDE, b1, b2]
  | .mCpxImm b1 => [0xE0, b1]
  | .mSbcIzx b1 => [0xE1, b1]
  | .mCpxZp b1 => [0xE4, b1]
  | .mSbcZp b1 => [0xE5, b1]
  | .mIncZp b1 => [0xE6, b1]
  | .mInx => [0xE8]
  | .mSbcImm b1 => [0xE9, b1]
  | .mNop => [0xEA]
  | .mCpxAbs b1 b2 => [0xEC, b1, b2]
  | .mSbcAbs b1 b2 => [0xED, b1, b2]
  | .mIncAbs b1 b2 => [0xEE, b1, b2]
  | .mBeq b1 => [0xF0, b1]
  | .mSbcIzy b1 => [0xF1, b1]
  | .mSbcZpx b1 => [0xF5, b1]
  | .mIncZpx b1 => [0xF6, b1]
  | .mSed => [0xF8]
  | .mSbcAby b1 b2 => [0xF9, b1, b2]
  | .mSbcAbx b1 b2 => [0xFD, b1, b2]
  | .mIncAbx b1 b2 => [0xFE, b1, b2]
  | .zNop => [0x00]
  | .zLd_BC_nn lo hi => [0x01, lo, hi]
  | .zLd_atBC_A => [0x02]
  | .zInc_BC => [0x03]
  | .zInc_B => [0x04]
  | .zDec_B => [0x05]
  | .zLd_B_n n => [0x06, n]
  | .zRlca => [0x07]
  | .zEx_AF_AFalt => [0x08]
  | .zAdd_HL_BC => [0x09]
  | .zLd_A_atBC => [0x0A]
  | .zDec_BC => [0x0B]
  | .zInc_C => [0x0C]
  | .zDec_C => [0x0D]
  | .zLd_C_n n => [0x0E, n]
  | .zRrca => [0x0F]
  | .zDjnz_e e => [0x10, e]
  | .zLd_DE_nn lo hi => [0x11, lo, hi]
  | .zLd_atDE_A => [0x12]
  | .zInc_DE => [0x13]
  | .zInc_D => [0x14]
  | .zDec_D => [0x15]
  | .zLd_D_n n => [0x16, n]
  | .zRla => [0x17]
  | .zJr_e e => [0x18, e]
  | .zAdd_HL_DE => [0x19]
  | .zLd_A_atDE => [0x1A]
  | .zDec_DE => [0x1B]
  | .zInc_E => [0x1C]
  | .zDec_E => [0x1D]
  | .zLd_E_n n => [0x1E, n]
  | .zRra => [0x1F]
  | .zJr_NZ_e e => [0x20, e]
  | .zLd_HL_nn lo hi => [0x21, lo, hi]
  | .zLd_atnn_HL lo hi => [0x22, lo, hi]
  | .zInc_HL => [0x23]
  | .zInc_H => [0x24]
  | .zDec_H => [0x25]
  | .zLd_H_n n => [0x26, n]
  | .zDaa => [0x27]
  | .zJr_Z_e e => [0x28, e]
  | .zAdd_HL_HL => [0x29]
  | .zLd_HL_atnn lo hi => [0x2A, lo, hi]
  | .zDec_HL => [0x2B]
  | .zInc_L => [0x2C]
  | .zDec_L => [0x2D]
  | .zLd_L_n n => [0x2E, n]
  | .zCpl => [0x2F]
  | .zJr_NC_e e => [0x30, e]
  | .zLd_SP_nn lo hi => [0x31, lo, hi]
  | .zLd_atnn_A lo hi => [0x32, lo, hi]
  | .zInc_SP => [0x33]
  | .zInc_atHL => [0x34]
  | .zDec_atHL => [0x35]
  | .zLd_atHL_n n => [0x36, n]
  | .zScf => [0x37]
  | .zJr_C_e e => [0x38, e]
  | .zAdd_HL_SP => [0x39]
  | .zLd_A_atnn lo hi => [0x3A, lo, hi]
  | .zDec_SP => [0x3B]
  | .zInc_A => [0x3C]
  | .zDec_A => [0x3D]
  | .zLd_A_n n => [0x3E, n]
  | .zCcf => [0x3F]
  | .zLd_B_B => [0x40]
  | .zLd_B_C => [0x41]
  | .zLd_B_D => [0x42]
  | .zLd_B_E => [0x43]
  | .zLd_B_H => [0x44]
  | .zLd_B_L => [0x45]
  | .zLd_B_atHL => [0x46]
  | .zLd_B_A => [0x47]
  | .zLd_C_B => [0x48]
  | .zLd_C_C => [0x49]
  | .zLd_C_D => [0x4A]
  | .zLd_C_E => [0x4B]
  | .zLd_C_H => [0x4C]
  | .zLd_C_L => [0x4D]
  | .zLd_C_atHL => [0x4E]
  | .zLd_C_A => [0x4F]
  | .zLd_D_B => [0x50]
  | .zLd_D_C => [0x51]
  | .zLd_D_D => [0x52]
  | .zLd_D_E => [0x53]
  | .zLd_D_H => [0x54]
  | .zLd_D_L => [0x55]
  | .zLd_D_atHL => [0x56]
  | .zLd_D_A => [0x57]
  | .zLd_E_B => [0x58]
  | .zLd_E_C => [0x59]
  | .zLd_E_D => [0x5A]
  | .zLd_E_E => [0x5B]
  | .zLd_E_H => [0x5C]
  | .zLd_E_L => [0x5D]
  | .zLd_E_atHL => [0x5E]
  | .zLd_E_A => [0x5F]
  | .zLd_H_B => [0x60]
  | .zLd_H_C => [0x61]
  | .zLd_H_D => [0x62]
  | .zLd_H_E => [0x63]
  | .zLd_H_H => [0x64]
  | .zLd_H_L => [0x65]
  | .zLd_H_atHL => [0x66]
  | .zLd_H_A => [0x67]
  | .zLd_L_B => [0x68]
  | .zLd_L_C => [0x69]
  | .zLd_L_D => [0x6A]
  | .zLd_L_E => [0x6B]
  | .zLd_L_H => [0x6C]
  | .zLd_L_L => [0x6D]
  | .zLd_L_atHL => [0x6E]
  | .zLd_L_A => [0x6F]
  | .zLd_atHL_B => [0x70]
  | .zLd_atHL_C => [0x71]
  | .zLd_atHL_D => [0x72]
  | .zLd_atHL_E => [0x73]
  | .zLd_atHL_H => [0x74]
  | .zLd_atHL_L => [0x75]
  | .zHalt => [0x76]
  | .zLd_atHL_A => [0x77]
  | .zLd_A_B => [0x78]
  | .zLd_A_C => [0x79]
  | .zLd_A_D => [0x7A]
  | .zLd_A_E => [0x7B]
  | .zLd_A_H => [0x7C]
  | .zLd_A_L => [0x7D]
  | .zLd_A_atHL => [0x7E]
  | .zLd_A_A => [0x7F]
  | .zAdd_A_B => [0x80]
  | .zAdd_A_C => [0x81]
  | .zAdd_A_D => [0x82]
  | .zAdd_A_E => [0x83]
  | .zAdd_A_H => [0x84]
  | .zAdd_A_L => [0x85]
  | .zAdd_A_atHL => [0x86]
  | .zAdd_A_A => [0x87]
  | .zAdc_A_B => [0x88]
  | .zAdc_A_C => [0x89]
  | .zAdc_A_D => [0x8A]
  | .zAdc_A_E => [0x8B]
  | .zAdc_A_H => [0x8C]
  | .zAdc_A_L => [0x8D]
  | .zAdc_A_atHL => [0x8E]
  | .zAdc_A_A => [0x8F]
  | .zSub_B => [0x90]
  | .zSub_C => [0x91]
  | .zSub_D => [0x92]
  | .zSub_E => [0x93]
  | .zSub_H => [0x94]
  | .zSub_L => [0x95]
  | .zSub_atHL => [0x96]
  | .zSub_A => [0x97]
  | .zSbc_A_B => [0x98]
  | .zSbc_A_C => [0x99]
  | .zSbc_A_D => [0x9A]
  | .zSbc_A_E => [0x9B]
  | .zSbc_A_H => [0x9C]
  | .zSbc_A_L => [0x9D]
  | .zSbc_A_atHL => [0x9E]
  | .zSbc_A_A => [0x9F]
  | .zAnd_B => [0xA0]
  | .zAnd_C => [0xA1]
  | .zAnd_D => [0xA2]
  | .zAnd_E => [0xA3]
  | .zAnd_H => [0xA4]
  | .zAnd_L => [0xA5]
  | .zAnd_atHL => [0xA6]
  | .zAnd_A => [0xA7]
  | .zXor_B => [0xA8]
  | .zXor_C => [0xA9]
  | .zXor_D => [0xAA]
  | .zXor_E => [0xAB]
  | .zXor_H => [0xAC]
  | .zXor_L => [0xAD]
  | .zXor_atHL => [0xAE]
  | .zXor_A => [0xAF]
  | .zOr_B => [0xB0]
  | .zOr_C => [0xB1]
  | .zOr_D => [0xB2]
  | .zOr_E => [0xB3]
  | .zOr_H => [0xB4]
  | .zOr_L => [0xB5]
  | .zOr_atHL => [0xB6]
  | .zOr_A => [0xB7]
  | .zCp_B => [0xB8]
  | .zCp_C => [0xB9]
  | .zCp_D => [0xBA]
  | .zCp_E => [0xBB]
  | .zCp_H => [0xBC]
  | .zCp_L => [0xBD]
  | .zCp_atHL => [0xBE]
  | .zCp_A => [0xBF]
  | .zRet_NZ => [0xC0]
  | .zPop_BC => [0xC1]
  | .zJp_NZ_nn lo hi => [0xC2, lo, hi]
  | .zJp_nn lo hi => [0xC3, lo, hi]
  | .zCall_NZ_nn lo hi => [0xC4, lo, hi]
  | .zPush_BC => [0xC5]
  | .zAdd_A_n n => [0xC6, n]
  | .zRst_00H => [0xC7]
  | .zRet_Z => [0xC8]
  | .zRet => [0xC9]
  | .zJp_Z_nn lo hi => [0xCA, lo, hi]
  | .zCall_Z_nn lo hi => [0xCC, lo, hi]
  | .zCall_nn lo hi => [0xCD, lo, hi]
  | .zAdc_A_n n => [0xCE, n]
  | .zRst_08H => [0xCF]
  | .zRet_NC => [0xD0]
  | .zPop_DE => [0xD1]
  | .zJp_NC_nn lo hi => [0xD2, lo, hi]
  | .zOut_atn_A n => [0xD3, n]
  | .zCall_NC_nn lo hi => [0xD4, lo, hi]
  | .zPush_DE => [0xD5]
  | .zSub_n n => [0xD6, n]
  | .zRst_10H => [0xD7]
  | .zRet_C => [0xD8]
  | .zExx => [0xD9]
  | .zJp_C_nn lo hi => [0xDA, lo, hi]
  | .zIn_A_atn n => [0xDB, n]
  | .zCall_C_nn lo hi => [0xDC, lo, hi]
  | .zSbc_A_n n => [0xDE, n]
  | .zRst_18H => [0xDF]
  | .zRet_PO => [0xE0]
  | .zPop_HL => [0xE1]
  | .zJp_PO_nn lo hi => [0xE2, lo, hi]
  | .zEx_atSP_HL => [0xE3]
  | .zCall_PO_nn lo hi => [0xE4, lo, hi]
  | .zPush_HL => [0xE5]
  | .zAnd_n n => [0xE6, n]
  | .zRst_20H => [0xE7]
  | .zRet_PE => [0xE8]
  | .zJp_atHL => [0xE9]
  | .zJp_PE_nn lo hi => [0xEA, lo, hi]
  | .zEx_DE_HL => [0xEB]
  | .zCall_PE_nn lo hi => [0xEC, lo, hi]
  | .zXor_n n => [0xEE, n]
  | .zRst_28H => [0xEF]
  | .zRet_P => [0xF0]
  | .zPop_AF => [0xF1]
  | .zJp_P_nn lo hi => [0xF2, lo, hi]
  | .zDi => [0xF3]
  | .zCall_P_nn lo hi => [0xF4, lo, hi]
  | .zPush_AF => [0xF5]
  | .zOr_n n => [0xF6, n]
  | .zRst_30H => [0xF7]
  | .zRet_M => [0xF8]
  | .zLd_SP_HL => [0xF9]
  | .zJp_M_nn lo hi => [0xFA, lo, hi]
  | .zEi => [0xFB]
  | .zCall_M_nn lo hi => [0xFC, lo, hi]
  | .zCp_n n => [0xFE, n]
  | .zRst_38H => [0xFF]
  | .zRlc_B => [0xCB, 0x00]
  | .zRlc_C => [0xCB, 0x01]
  | .zRlc_D => [0xCB, 0x02]
  | .zRlc_E => [0xCB, 0x03]
  | .zRlc_H => [0xCB, 0x04]
  | .zRlc_L => [0xCB, 0x05]
  | .zRlc_atHL => [0xCB, 0x06]
  | .zRlc_A => [0xCB, 0x07]
  | .zRrc_B => [0xCB, 0x08]
  | .zRrc_C => [0xCB, 0x09]
  | .zRrc_D => [0xCB, 0x0A]
  | .zRrc_E => [0xCB, 0x0B]
  | .zRrc_H => [0xCB, 0x0C]
  | .zRrc_L => [0xCB, 0x0D]
  | .zRrc_atHL => [0xCB, 0x0E]
  | .zRrc_A => [0xCB, 0x0F]
  | .zRl_B => [0xCB, 0x10]
  | .zRl_C => [0xCB, 0x11]
  | .zRl_D => [0xCB, 0x12]
  | .zRl_E => [0xCB, 0x13]
  | .zRl_H => [0xCB, 0x14]
  | .zRl_L => [0xCB, 0x15]
  | .zRl_atHL => [0xCB, 0x16]
  | .zRl_A => [0xCB, 0x17]
  | .zRr_B => [0xCB, 0x18]
  | .zRr_C => [0xCB, 0x19]
  | .zRr_D => [0xCB, 0x1A]
  | .zRr_E => [0xCB, 0x1B]
  | .zRr_H => [0xCB, 0x1C]
  | .zRr_L => [0xCB, 0x1D]
  | .zRr_atHL => [0xCB, 0x1E]
  | .zRr_A => [0xCB, 0x1F]
  | .zSla_B => [0xCB, 0x20]
  | .zSla_C => [0xCB, 0x21]
  | .zSla_D => [0xCB, 0x22]
  | .zSla_E => [0xCB, 0x23]
  | .zSla_H => [0xCB, 0x24]
  | .zSla_L => [0xCB, 0x25]
  | .zSla_atHL => [0xCB, 0x26]
  | .zSla_A => [0xCB, 0x27]
  | .zSra_B => [0xCB, 0x28]
  | .zSra_C => [0xCB, 0x29]
  | .zSra_D => [0xCB, 0x2A]
  | .zSra_E => [0xCB, 0x2B]
  | .zSra_H => [0xCB, 0x2C]
  | .zSra_L => [0xCB, 0x2D]
  | .zSra_atHL => [0xCB, 0x2E]
  | .zSra_A => [0xCB, 0x2F]
  | .zSrl_B => [0xCB, 0x38]
  | .zSrl_C => [0xCB, 0x39]
  | .zSrl_D => [0xCB, 0x3A]
  | .zSrl_E => [0xCB, 0x3B]
  | .zSrl_H => [0xCB, 0x3C]
  | .zSrl_L => [0xCB, 0x3D]
  | .zSrl_atHL => [0xCB, 0x3E]
  | .zSrl_A => [0xCB, 0x3F]
  | .zBit_0_B => [0xCB, 0x40]
  | .zBit_0_C => [0xCB, 0x41]
  | .zBit_0_D => [0xCB, 0x42]
  | .zBit_0_E => [0xCB, 0x43]
  | .zBit_0_H => [0xCB, 0x44]
  | .zBit_0_L => [0xCB, 0x45]
  | .zBit_0_atHL => [0xCB, 0x46]
  | .zBit_0_A => [0xCB, 0x47]
  | .zBit_1_B => [0xCB, 0x48]
  | .zBit_1_C => [0xCB, 0x49]
  | .zBit_1_D => [0xCB, 0x4A]
  | .zBit_1_E => [0xCB, 0x4B]
  | .zBit_1_H => [0xCB, 0x4C]
  | .zBit_1_L => [0xCB, 0x4D]
  | .zBit_1_atHL => [0xCB, 0x4E]
  | .zBit_1_A => [0xCB, 0x4F]
  | .zBit_2_B => [0xCB, 0x50]
  | .zBit_2_C => [0xCB, 0x51]
  | .zBit_2_D => [0xCB, 0x52]
  | .zBit_2_E => [0xCB, 0x53]
  | .zBit_2_H => [0xCB, 0x54]
  | .zBit_2_L => [0xCB, 0x55]
  | .zBit_2_atHL => [0xCB, 0x56]
  | .zBit_2_A => [0xCB, 0x57]
  | .zBit_3_B => [0xCB, 0x58]
  | .zBit_3_C => [0xCB, 0x59]
  | .zBit_3_D => [0xCB, 0x5A]
  | .zBit_3_E => [0xCB, 0x5B]
  | .zBit_3_H => [0xCB, 0x5C]
  | .zBit_3_L => [0xCB, 0x5D]
  | .zBit_3_atHL => [0xCB, 0x5E]
  | .zBit_3_A => [0xCB, 0x5F]
  | .zBit_4_B => [0xCB, 0x60]
  | .zBit_4_C => [0xCB, 0x61]
  | .zBit_4_D => [0xCB, 0x62]
  | .zBit_4_E => [0xCB, 0x63]
  | .zBit_4_H => [0xCB, 0x64]
  | .zBit_4_L => [0xCB, 0x65]
  | .zBit_4_atHL => [0xCB, 0x66]
  | .zBit_4_A => [0xCB, 0x67]
  | .zBit_5_B => [0xCB, 0x68]
  | .zBit_5_C => [0xCB, 0x69]
  | .zBit_5_D => [0xCB, 0x6A]
  | .zBit_5_E => [0xCB, 0x6B]
  | .zBit_5_H => [0xCB, 0x6C]
  | .zBit_5_L => [0xCB, 0x6D]
  | .zBit_5_atHL => [0xCB, 0x6E]
  | .zBit_5_A => [0xCB, 0x6F]
  | .zBit_6_B => [0xCB, 0x70]
  | .zBit_6_C => [0xCB, 0x71]
  | .zBit_6_D => [0xCB, 0x72]
  | .zBit_6_E => [0xCB, 0x73]
  | .zBit_6_H => [0xCB, 0x74]
  | .zBit_6_L => [0xCB, 0x75]
  | .zBit_6_atHL => [0xCB, 0x76]
  | .zBit_6_A => [0xCB, 0x77]
  | .zBit_7_B => [0xCB, 0x78]
  | .zBit_7_C => [0xCB, 0x79]
  | .zBit_7_D => [0xCB, 0x7A]
  | .zBit_7_E => [0xCB, 0x7B]
  | .zBit_7_H => [0xCB, 0x7C]
  | .zBit_7_L => [0xCB, 0x7D]
  | .zBit_7_atHL => [0xCB, 0x7E]
  | .zBit_7_A => [0xCB, 0x7F]
  | .zRes_0_B => [0xCB, 0x80]
  | .zRes_0_C => [0xCB, 0x81]
  | .zRes_0_D => [0xCB, 0x82]
  | .zRes_0_E => [0xCB, 0x83]
  | .zRes_0_H => [0xCB, 0x84]
  | .zRes_0_L => [0xCB, 0x85]
  | .zRes_0_atHL => [0xCB, 0x86]
  | .zRes_0_A => [0xCB, 0x87]
  | .zRes_1_B => [0xCB, 0x88]
  | .zRes_1_C => [0xCB, 0x89]
  | .zRes_1_D => [0xCB, 0x8A]
  | .zRes_1_E => [0xCB, 0x8B]
  | .zRes_1_H => [0xCB, 0x8C]
  | .zRes_1_L => [0xCB, 0x8D]
  | .zRes_1_atHL => [0xCB, 0x8E]
  | .zRes_1_A => [0xCB, 0x8F]
  | .zRes_2_B => [0xCB, 0x90]
  | .zRes_2_C => [0xCB, 0x91]
  | .zRes_2_D => [0xCB, 0x92]
  | .zRes_2_E => [0xCB, 0x93]
  | .zRes_2_H => [0xCB, 0x94]
  | .zRes_2_L => [0xCB, 0x95]
  | .zRes_2_atHL => [0xCB, 0x96]
  | .zRes_2_A => [0xCB, 0x97]
  | .zRes_3_B => [0xCB, 0x98]
  | .zRes_3_C => [0xCB, 0x99]
  | .zRes_3_D => [0xCB, 0x9A]
  | .zRes_3_E => [0xCB, 0x9B]
  | .zRes_3_H => [0xCB, 0x9C]
  | .zRes_3_L => [0xCB, 0x9D]
  | .zRes_3_atHL => [0xCB, 0x9E]
  | .zRes_3_A => [0xCB, 0x9F]
  | .zRes_4_B => [0xCB, 0xA0]
  | .zRes_4_C => [0xCB, 0xA1]
  | .zRes_4_D => [0xCB, 0xA2]
  | .zRes_4_E => [0xCB, 0xA3]
  | .zRes_4_H => [0xCB, 0xA4]
  | .zRes_4_L => [0xCB, 0xA5]
  | .zRes_4_atHL => [0xCB, 0xA6]
  | .zRes_4_A => [0xCB, 0xA7]
  | .zRes_5_B => [0xCB, 0xA8]
  | .zRes_5_C => [0xCB, 0xA9]
  | .zRes_5_D => [0xCB, 0xAA]
  | .zRes_5_E => [0xCB, 0xAB]
  | .zRes_5_H => [0xCB, 0xAC]
  | .zRes_5_L => [0xCB, 0xAD]
  | .zRes_5_atHL => [0xCB, 0xAE]
  | .zRes_5_A => [0xCB, 0xAF]
  | .zRes_6_B => [0xCB, 0xB0]
  | .zRes_6_C => [0xCB, 0xB1]
  | .zRes_6_D => [0xCB, 0xB2]
  | .zRes_6_E => [0xCB, 0xB3]
  | .zRes_6_H => [0xCB, 0xB4]
  | .zRes_6_L => [0xCB, 0xB5]
  | .zRes_6_atHL => [0xCB, 0xB6]
  | .zRes_6_A => [0xCB, 0xB7]
  | .zRes_7_B => [0xCB, 0xB8]
  | .zRes_7_C => [0xCB, 0xB9]
  | .zRes_7_D => [0xCB, 0xBA]
  | .zRes_7_E => [0xCB, 0xBB]
  | .zRes_7_H => [0xCB, 0xBC]
  | .zRes_7_L => [0xCB, 0xBD]
  | .zRes_7_atHL => [0xCB, 0xBE]
  | .zRes_7_A => [0xCB, 0xBF]
  | .zSet_0_B => [0xCB, 0xC0]
  | .zSet_0_C => [0xCB, 0xC1]
  | .zSet_0_D => [0xCB, 0xC2]
  | .zSet_0_E => [0xCB, 0xC3]
  | .zSet_0_H => [0xCB, 0xC4]
  | .zSet_0_L => [0xCB, 0xC5]
  | .zSet_0_atHL => [0xCB, 0xC6]
  | .zSet_0_A => [0xCB, 0xC7]
  | .zSet_1_B => [0xCB, 0xC8]
  | .zSet_1_C => [0xCB, 0xC9]
  | .zSet_1_D => [0xCB, 0xCA]
  | .zSet_1_E => [0xCB, 0xCB]
  | .zSet_1_H => [0xCB, 0xCC]
  | .zSet_1_L => [0xCB, 0xCD]
  | .zSet_1_atHL => [0xCB, 0xCE]
  | .zSet_1_A => [0xCB, 0xCF]
  | .zSet_2_B => [0xCB, 0xD0]
  | .zSet_2_C => [0xCB, 0xD1]
  | .zSet_2_D => [0xCB, 0xD2]
  | .zSet_2_E => [0xCB, 0xD3]
  | .zSet_2_H => [0xCB, 0xD4]
  | .zSet_2_L => [0xCB, 0xD5]
  | .zSet_2_atHL => [0xCB, 0xD6]
  | .zSet_2_A => [0xCB, 0xD7]
  | .zSet_3_B => [0xCB, 0xD8]
  | .zSet_3_C => [0xCB, 0xD9]
  | .zSet_3_D => [0xCB, 0xDA]
  | .zSet_3_E => [0xCB, 0xDB]
  | .zSet_3_H => [0xCB, 0xDC]
  | .zSet_3_L => [0xCB, 0xDD]
  | .zSet_3_atHL => [0xCB, 0xDE]
  | .zSet_3_A => [0xCB, 0xDF]
  | .zSet_4_B => [0xCB, 0xE0]
  | .zSet_4_C => [0xCB, 0xE1]
  | .zSet_4_D => [0xCB, 0xE2]
  | .zSet_4_E => [0xCB, 0xE3]
  | .zSet_4_H => [0xCB, 0xE4]
  | .zSet_4_L => [0xCB, 0xE5]
  | .zSet_4_atHL => [0xCB, 0xE6]
  | .zSet_4_A => [0xCB, 0xE7]
  | .zSet_5_B => [0xCB, 0xE8]
  | .zSet_5_C => [0xCB, 0xE9]
  | .zSet_5_D => [0xCB, 0xEA]
  | .zSet_5_E => [0xCB, 0xEB]
  | .zSet_5_H => [0xCB, 0xEC]
  | .zSet_5_L => [0xCB, 0xED]
  | .zSet_5_atHL => [0xCB, 0xEE]
  | .zSet_5_A => [0xCB, 0xEF]
  | .zSet_6_B => [0xCB, 0xF0]
  | .zSet_6_C => [0xCB, 0xF1]
  | .zSet_6_D => [0xCB, 0xF2]
  | .zSet_6_E => [0xCB, 0xF3]
  | .zSet_6_H => [0xCB, 0xF4]
  | .zSet_6_L => [0xCB, 0xF5]
  | .zSet_6_atHL => [0xCB, 0xF6]
  | .zSet_6_A => [0xCB, 0xF7]
  | .zSet_7_B => [0xCB, 0xF8]
  | .zSet_7_C => [0xCB, 0xF9]
  | .zSet_7_D => [0xCB, 0xFA]
  | .zSet_7_E => [0xCB, 0xFB]
  | .zSet_7_H => [0xCB, 0xFC]
  | .zSet_7_L => [0xCB, 0xFD]
  | .zSet_7_atHL => [0xCB, 0xFE]
  | .zSet_7_A => [0xCB, 0xFF]
  | .zIn_B_atC => [0xED, 0x40]
  | .zOut_atC_B => [0xED, 0x41]
  | .zIn_C_atC => [0xED, 0x48]
  | .zOut_atC_C => [0xED, 0x49]
  | .zIn_D_atC => [0xED, 0x50]
  | .zOut_atC_D => [0xED, 0x51]
  | .zIn_E_atC => [0xED, 0x58]
  | .zOut_atC_E => [0xED, 0x59]
  | .zIn_H_atC => [0xED, 0x60]
  | .zOut_atC_H => [0xED, 0x61]
  | .zIn_L_atC => [0xED, 0x68]
  | .zOut_atC_L => [0xED, 0x69]
  | .zIn_A_atC => [0xED, 0x78]
  | .zOut_atC_A => [0xED, 0x79]
  | .zSbc_HL_BC => [0xED, 0x42]
  | .zAdc_HL_BC => [0xED, 0x4A]
  | .zLd_atnn_BC lo hi => [0xED, 0x43, lo, hi]
  | .zLd_BC_atnn lo hi => [0xED, 0x4B, lo, hi]
  | .zSbc_HL_DE => [0xED, 0x52]
  | .zAdc_HL_DE => [0xED, 0x5A]
  | .zLd_atnn_DE lo hi => [0xED, 0x53, lo, hi]
  | .zLd_DE_atnn lo hi => [0xED, 0x5B, lo, hi]
  | .zSbc_HL_HL => [0xED, 0x62]
  | .zAdc_HL_HL => [0xED, 0x6A]
  | .zLdEd_atnn_HL lo hi => [0xED, 0x63, lo, hi]
  | .zLdEd_HL_atnn lo hi => [0xED, 0x6B, lo, hi]
  | .zSbc_HL_SP => [0xED, 0x72]
  | .zAdc_HL_SP => [0xED, 0x7A]
  | .zLd_atnn_SP lo hi => [0xED, 0x73, lo, hi]
  | .zLd_SP_atnn lo hi => [0xED, 0x7B, lo, hi]
  | .zNeg => [0xED, 0x44]
  | .zRetn => [0xED, 0x45]
  | .zReti => [0xED, 0x4D]
  | .zIm_0 => [0xED, 0x46]
  | .zIm_1 => [0xED, 0x56]
  | .zIm_2 => [0xED, 0x5E]
  | .zLd_I_A => [0xED, 0x47]
  | .zLd_R_A => [0xED, 0x4F]
  | .zLd_A_I => [0xED, 0x57]
  | .zLd_A_R => [0xED, 0x5F]
  | .zRrd => [0xED, 0x67]
  | .zRld => [0xED, 0x6F]
  | .zLdi => [0xED, 0xA0]
  | .zCpi => [0xED, 0xA1]
  | .zIni => [0xED, 0xA2]
  | .zOuti => [0xED, 0xA3]
  | .zLdd => [0xED, 0xA8]
  | .zCpd => [0xED, 0xA9]
  | .zInd => [0xED, 0xAA]
  | .zOutd => [0xED, 0xAB]
  | .zLdir => [0xED, 0xB0]
  | .zCpir => [0xED, 0xB1]
  | .zInir => [0xED, 0xB2]
  | .zOtir => [0xED, 0xB3]
  | .zLddr => [0xED, 0xB8]
  | .zCpdr => [0xED, 0xB9]
  | .zIndr => [0xED, 0xBA]
  | .zOtdr => [0xED, 0xBB]
  | .zAdd_IX_BC => [0xDD, 0x09]
  | .zAdd_IX_DE => [0xDD, 0x19]
  | .zAdd_IX_IX => [0xDD, 0x29]
  | .zAdd_IX_SP => [0xDD, 0x39]
  | .zLd_IX_nn lo hi => [0xDD, 0x21, lo, hi]
  | .zLd_atnn_IX lo hi => [0xDD, 0x22, lo, hi]
  | .zInc_IX => [0xDD, 0x23]
  | .zLd_IX_atnn lo hi => [0xDD, 0x2A, lo, hi]
  | .zDec_IX => [0xDD, 0x2B]
  | .zInc_atIXd d => [0xDD, 0x34, d]
  | .zDec_atIXd d => [0xDD, 0x35, d]
  | .zLd_atIXd_n d n => [0xDD, 0x36, d, n]
  | .zLd_B_atIXd d => [0xDD, 0x46, d]
  | .zLd_C_atIXd d => [0xDD, 0x4E, d]
  | .zLd_D_atIXd d => [0xDD, 0x56, d]
  | .zLd_E_atIXd d => [0xDD, 0x5E, d]
  | .zLd_H_atIXd d => [0xDD, 0x66, d]
  | .zLd_L_atIXd d => [0xDD, 0x6E, d]
  | .zLd_A_atIXd d => [0xDD, 0x7E, d]
  | .zLd_atIXd_B d => [0xDD, 0x70, d]
  | .zLd_atIXd_C d => [0xDD, 0x71, d]
  | .zLd_atIXd_D d => [0xDD, 0x72, d]
  | .zLd_atIXd_E d => [0xDD, 0x73, d]
  | .zLd_atIXd_H d => [0xDD, 0x74, d]
  | .zLd_atIXd_L d => [0xDD, 0x75, d]
  | .zLd_atIXd_A d => [0xDD, 0x77, d]
  | .zAdd_A_atIXd d => [0xDD, 0x86, d]
  | .zAdc_A_atIXd d => [0xDD, 0x8E, d]
  | .zSub_atIXd d => [0xDD, 0x96, d]
  | .zSbc_A_atIXd d => [0xDD, 0x9E, d]
  | .zAnd_atIXd d => [0xDD, 0xA6, d]
  | .zXor_atIXd d => [0xDD, 0xAE, d]
  | .zOr_atIXd d => [0xDD, 0xB6, d]
  | .zCp_atIXd d => [0xDD, 0xBE, d]
  | .zPop_IX => [0xDD, 0xE1]
  | .zEx_atSP_IX => [0xDD, 0xE3]
  | .zPush_IX => [0xDD, 0xE5]
  | .zJp_atIX => [0xDD, 0xE9]
  | .zLd_SP_IX => [0xDD, 0xF9]
  | .zRlc_atIXd d => [0xDD, 0xCB, d, 0x06]
  | .zRrc_atIXd d => [0xDD, 0xCB, d, 0x0E]
  | .zRl_atIXd d => [0xDD, 0xCB, d, 0x16]
  | .zRr_atIXd d => [0xDD, 0xCB, d, 0x1E]
  | .zSla_atIXd d => [0xDD, 0xCB, d, 0x26]
  | .zSra_atIXd d => [0xDD, 0xCB, d, 0x2E]
  | .zSrl_atIXd d => [0xDD, 0xCB, d, 0x3E]
  | .zBit_0_atIXd d => [0xDD, 0xCB, d, 0x46]
  | .zBit_1_atIXd d => [0xDD, 0xCB, d, 0x4E]
  | .zBit_2_atIXd d => [0xDD, 0xCB, d, 0x56]
  | .zBit_3_atIXd d => [0xDD, 0xCB, d, 0x5E]
  | .zBit_4_atIXd d => [0xDD, 0xCB, d, 0x66]
  | .zBit_5_atIXd d => [0xDD, 0xCB, d, 0x6E]
  | .zBit_6_atIXd d => [0xDD, 0xCB, d, 0x76]
  | .zBit_7_atIXd d => [0xDD, 0xCB, d, 0x7E]
  | .zRes_0_atIXd d => [0xDD, 0xCB, d, 0x86]
  | .zRes_1_atIXd d => [0xDD, 0xCB, d, 0x8E]
  | .zRes_2_atIXd d => [0xDD, 0xCB, d, 0x96]
  | .zRes_3_atIXd d => [0xDD, 0xCB, d, 0x9E]
  | .zRes_4_atIXd d => [0xDD, 0xCB, d, 0xA6]
  | .zRes_5_atIXd d => [0xDD, 0xCB, d, 0xAE]
  | .zRes_6_atIXd d => [0xDD, 0xCB, d, 0xB6]
  | .zRes_7_atIXd d => [0xDD, 0xCB, d, 0xBE]
  | .zSet_0_atIXd d => [0xDD, 0xCB, d, 0xC6]
  | .zSet_1_atIXd d => [0xDD, 0xCB, d, 0xCE]
  | .zSet_2_atIXd d => [0xDD, 0xCB, d, 0xD6]
  | .zSet_3_atIXd d => [0xDD, 0xCB, d, 0xDE]
  | .zSet_4_atIXd d => [0xDD, 0xCB, d, 0xE6]
  | .zSet_5_atIXd d => [0xDD, 0xCB, d, 0xEE]
  | .zSet_6_atIXd d => [0xDD, 0xCB, d, 0xF6]
  | .zSet_7_atIXd d => [0xDD, 0xCB, d, 0xFE]
  | .zAdd_IY_BC => [0xFD, 0x09]
  | .zAdd_IY_DE => [0xFD, 0x19]
  | .zAdd_IY_IY => [0xFD, 0x29]
  | .zAdd_IY_SP => [0xFD, 0x39]
  | .zLd_IY_nn lo hi => [0xFD, 0x21, lo, hi]
  | .zLd_atnn_IY lo hi => [0xFD, 0x22, lo, hi]
  | .zInc_IY => [0xFD, 0x23]
  | .zLd_IY_atnn lo hi => [0xFD, 0x2A, lo, hi]
  | .zDec_IY => [0xFD, 0x2B]
  | .zInc_atIYd d => [0xFD, 0x34, d]
  | .zDec_atIYd d => [0xFD, 0x35, d]
  | .zLd_atIYd_n d n => [0xFD, 0x36, d, n]
  | .zLd_B_atIYd d => [0xFD, 0x46, d]
  | .zLd_C_atIYd d => [0xFD, 0x4E, d]
  | .zLd_D_atIYd d => [0xFD, 0x56, d]
  | .zLd_E_atIYd d => [0xFD, 0x5E, d]
  | .zLd_H_atIYd d => [0xFD, 0x66, d]
  | .zLd_L_atIYd d => [0xFD, 0x6E, d]
  | .zLd_A_atIYd d => [0xFD, 0x7E, d]
  | .zLd_atIYd_B d => [0xFD, 0x70, d]
  | .zLd_atIYd_C d => [0xFD, 0x71, d]
  | .zLd_atIYd_D d => [0xFD, 0x72, d]
  | .zLd_atIYd_E d => [0xFD, 0x73, d]
  | .zLd_atIYd_H d => [0xFD, 0x74, d]
  | .zLd_atIYd_L d => [0xFD, 0x75, d]
  | .zLd_atIYd_A d => [0xFD, 0x77, d]
  | .zAdd_A_atIYd d => [0xFD, 0x86, d]
  | .zAdc_A_atIYd d => [0xFD, 0x8E, d]
  | .zSub_atIYd d => [0xFD, 0x96, d]
  | .zSbc_A_atIYd d => [0xFD, 0x9E, d]
  | .zAnd_atIYd d => [0xFD, 0xA6, d]
  | .zXor_atIYd d => [0xFD, 0xAE, d]
  | .zOr_atIYd d => [0xFD, 0xB6, d]
  | .zCp_atIYd d => [0xFD, 0xBE, d]
  | .zPop_IY => [0xFD, 0xE1]
  | .zEx_atSP_IY => [0xFD, 0xE3]
  | .zPush_IY => [0xFD, 0xE5]
  | .zJp_atIY => [0xFD, 0xE9]
  | .zLd_SP_IY => [0xFD, 0xF9]
  | .zRlc_atIYd d => [0xFD, 0xCB, d, 0x06]
  | .zRrc_atIYd d => [0xFD, 0xCB, d, 0x0E]
  | .zRl_atIYd d => [0xFD, 0xCB, d, 0x16]
  | .zRr_atIYd d => [0xFD, 0xCB, d, 0x1E]
  | .zSla_atIYd d => [0xFD, 0xCB, d, 0x26]
  | .zSra_atIYd d => [0xFD, 0xCB, d, 0x2E]
  | .zSrl_atIYd d => [0xFD, 0xCB, d, 0x3E]
  | .zBit_0_atIYd d => [0xFD, 0xCB, d, 0x46]
  | .zBit_1_atIYd d => [0xFD, 0xCB, d, 0x4E]
  | .zBit_2_atIYd d => [0xFD, 0xCB, d, 0x56]
  | .zBit_3_atIYd d => [0xFD, 0xCB, d, 0x5E]
  | .zBit_4_atIYd d => [0xFD, 0xCB, d, 0x66]
  | .zBit_5_atIYd d => [0xFD, 0xCB, d, 0x6E]
  | .zBit_6_atIYd d => [0xFD, 0xCB, d, 0x76]
  | .zBit_7_atIYd d => [0xFD, 0xCB, d, 0x7E]
  | .zRes_0_atIYd d => [0xFD, 0xCB, d, 0x86]
  | .zRes_1_atIYd d => [0xFD, 0xCB, d, 0x8E]
  | .zRes_2_atIYd d => [0xFD, 0xCB, d, 0x96]
  | .zRes_3_atIYd d => [0xFD, 0xCB, d, 0x9E]
  | .zRes_4_atIYd d => [0xFD, 0xCB, d, 0xA6]
  | .zRes_5_atIYd d => [0xFD, 0xCB, d, 0xAE]
  | .zRes_6_atIYd d => [0xFD, 0xCB, d, 0xB6]
  | .zRes_7_atIYd d => [0xFD, 0xCB, d, 0xBE]
  | .zSet_0_atIYd d => [0xFD, 0xCB, d, 0xC6]
  | .zSet_1_atIYd d => [0xFD, 0xCB, d, 0xCE]
  | .zSet_2_atIYd d => [0xFD, 0xCB, d, 0xD6]
  | .zSet_3_atIYd d => [0xFD, 0xCB, d, 0xDE]
  | .zSet_4_atIYd d => [0xFD, 0xCB, d, 0xE6]
  | .zSet_5_atIYd d => [0xFD, 0xCB, d, 0xEE]
  | .zSet_6_atIYd d => [0xFD, 0xCB, d, 0xF6]
  | .zSet_7_atIYd d => [0xFD, 0xCB, d, 0xFE]

/-- The length of an instruction in bytes. -/
def Instr.len (i : Instr) : Nat := (encode i).length

/-! ### Words of the opcode table -/

/-- Byte `k` of a word whose first byte is its least significant. -/
def tableByte (nbits w k : Nat) : Byte := BitVec.ofNat 8 (w % 2 ^ nbits / 256 ^ k)

/-- The instruction a family reads from a word of `nbits` bits, if it is one of that length. -/
noncomputable def decodeTableAs (fam : Family) (nbits w : Nat) : Option Instr :=
  match decode fam true (tableByte nbits w 0) (tableByte nbits w 1) (tableByte nbits w 2) (tableByte nbits w 3) with
  | .instr i => if i.len * 8 = nbits then some i else none
  | .illegal _ => none

/-- Which family a word of the table is read for, since the two tables share words: a word with a Z80 prefix that is a Z80
instruction of that length is one; else the M6502 if it has such an instruction; else the Z80 (log entry 4). -/
noncomputable def tableFamily (nbits w : Nat) : Family :=
  if tableByte nbits w 0 ∈ [0xCB, 0xED, 0xDD, 0xFD] ∧ (decodeTableAs .z80 nbits w).isSome then .z80
  else if (decodeTableAs .m6502 nbits w).isSome then .m6502
  else .z80

/-- The instruction the decoder reads from a word of the opcode table. -/
noncomputable def decodeTableWord (nbits w : Nat) : Option Instr := decodeTableAs (tableFamily nbits w) nbits w

end Sys2Proof
end

