-- ==== Sys2Proof/Config.lean ====
section
/-! DEFINITION. What one machine fixes and the guest cannot change: the configuration record `Cfg` (R7, R19), the constants
of the chips (R421, R472, R501), and the free values the spec leaves open (R35, R69). -/

namespace Sys2Proof

/-! ### Free values -/

/-- The bits of an unspecified value, one byte per draw (R35, U5, U6): nothing constrains it. Log entry 1. -/
opaque Config.freeByte : Nat → BitVec 8

/-! ### Constants of the two CPU families (R7) -/

/-- `HALT_OPCODE`: `0x22` for the M6502, `0x76` for the Z80 (R144). -/
def Family.haltOpcode : Family → Byte
  | .m6502 => 0x22
  | .z80 => 0x76

/-! ### Cycle costs (R124, R125, R139, R140, R630) -/

/-- The opcode maps: the bytes with no prefix, and the bytes after each prefix (R132 to R136). -/
inductive OpMap where
  | main | cb | ed | dd | fd | ddcb | fdcb
deriving DecidableEq, Repr

/-- `CYC`: for each opcode map the fixed cost of every opcode byte, sixteen rows of sixteen, row by high digit (R124, R139).
A byte with no row of the opcode table has the entry 0, which nothing reads. -/
structure CycTable where
  main : List (List Nat)
  cb : List (List Nat)
  ed : List (List Nat)
  dd : List (List Nat)
  fd : List (List Nat)
  ddcb : List (List Nat)
  fdcb : List (List Nat)
deriving DecidableEq, Repr

/-- The grid of an opcode map. -/
def CycTable.grid (t : CycTable) (m : OpMap) : List (List Nat) :=
  match m with
  | .main => t.main
  | .cb => t.cb
  | .ed => t.ed
  | .dd => t.dd
  | .fd => t.fd
  | .ddcb => t.ddcb
  | .fdcb => t.fdcb

/-- `CYC[row]`, the row named by its opcode map and its opcode byte. -/
def CycTable.cost (t : CycTable) (m : OpMap) (op : Byte) : Nat := ((t.grid m).getD (op.toNat / 16) []).getD (op.toNat % 16) 0

/-- `CYC` of the M6502 family (R124). -/
def Config.cycM6502 : CycTable where
  main :=
    [[7, 6, 0, 0, 0, 3, 5, 0, 3, 2, 2, 0, 0, 4, 6, 0],
     [2, 5, 0, 0, 0, 4, 6, 0, 2, 4, 0, 0, 0, 4, 7, 0],
     [6, 6, 0, 0, 3, 3, 5, 0, 4, 2, 2, 0, 4, 4, 6, 0],
     [2, 5, 0, 0, 0, 4, 6, 0, 2, 4, 0, 0, 0, 4, 7, 0],
     [6, 6, 0, 0, 0, 3, 5, 0, 3, 2, 2, 0, 3, 4, 6, 0],
     [2, 5, 0, 0, 0, 4, 6, 0, 2, 4, 0, 0, 0, 4, 7, 0],
     [6, 6, 0, 0, 0, 3, 5, 0, 4, 2, 2, 0, 5, 4, 6, 0],
     [2, 5, 0, 0, 0, 4, 6, 0, 2, 4, 0, 0, 0, 4, 7, 0],
     [0, 6, 0, 0, 3, 3, 3, 0, 2, 0, 2, 0, 4, 4, 4, 0],
     [2, 6, 0, 0, 4, 4, 4, 0, 2, 5, 2, 0, 0, 5, 0, 0],
     [2, 6, 2, 0, 3, 3, 3, 0, 2, 2, 2, 0, 4, 4, 4, 0],
     [2, 5, 0, 0, 4, 4, 4, 0, 2, 4, 2, 0, 4, 4, 4, 0],
     [2, 6, 0, 0, 3, 3, 5, 0, 2, 2, 2, 0, 4, 4, 6, 0],
     [2, 5, 0, 0, 0, 4, 6, 0, 2, 4, 0, 0, 0, 4, 7, 0],
     [2, 6, 0, 0, 3, 3, 5, 0, 2, 2, 2, 0, 4, 4, 6, 0],
     [2, 5, 0, 0, 0, 4, 6, 0, 2, 4, 0, 0, 0, 4, 7, 0]]
  cb := []
  ed := []
  dd := []
  fd := []
  ddcb := []
  fdcb := []

/-- `CYC` after `DD` and after `FD` (R139). -/
def Config.cycIndexed : List (List Nat) :=
  [[0, 0, 0, 0, 0, 0, 0, 0, 0, 15, 0, 0, 0, 0, 0, 0],
   [0, 0, 0, 0, 0, 0, 0, 0, 0, 15, 0, 0, 0, 0, 0, 0],
   [0, 14, 20, 10, 0, 0, 0, 0, 0, 15, 20, 10, 0, 0, 0, 0],
   [0, 0, 0, 0, 23, 23, 19, 0, 0, 15, 0, 0, 0, 0, 0, 0],
   [0, 0, 0, 0, 0, 0, 19, 0, 0, 0, 0, 0, 0, 0, 19, 0],
   [0, 0, 0, 0, 0, 0, 19, 0, 0, 0, 0, 0, 0, 0, 19, 0],
   [0, 0, 0, 0, 0, 0, 19, 0, 0, 0, 0, 0, 0, 0, 19, 0],
   [19, 19, 19, 19, 19, 19, 0, 19, 0, 0, 0, 0, 0, 0, 19, 0],
   [0, 0, 0, 0, 0, 0, 19, 0, 0, 0, 0, 0, 0, 0, 19, 0],
   [0, 0, 0, 0, 0, 0, 19, 0, 0, 0, 0, 0, 0, 0, 19, 0],
   [0, 0, 0, 0, 0, 0, 19, 0, 0, 0, 0, 0, 0, 0, 19, 0],
   [0, 0, 0, 0, 0, 0, 19, 0, 0, 0, 0, 0, 0, 0, 19, 0],
   [0, 0, 0, 0, 0, 0, 0, 0, 0, 0, 0, 0, 0, 0, 0, 0],
   [0, 0, 0, 0, 0, 0, 0, 0, 0, 0, 0, 0, 0, 0, 0, 0],
   [0, 14, 0, 23, 0, 15, 0, 0, 0, 8, 0, 0, 0, 0, 0, 0],
   [0, 0, 0, 0, 0, 0, 0, 0, 0, 10, 0, 0, 0, 0, 0, 0]]

/-- A row whose two `(HL)` columns cost `mem` and whose other columns cost `reg`. -/
def Config.cycColumns (reg mem : Nat) : List Nat :=
  [reg, reg, reg, reg, reg, reg, mem, reg, reg, reg, reg, reg, reg, reg, mem, reg]

/-- The row of `CB 3x`: its first half is illegal (R137). -/
def Config.cycSrl : List Nat := [0, 0, 0, 0, 0, 0, 0, 0, 8, 8, 8, 8, 8, 8, 15, 8]

/-- A row after `DD CB d` or `FD CB d`: columns 6 and E alone have instructions (R136, R139). -/
def Config.cycIndexedRow (mem : Nat) : List Nat := [0, 0, 0, 0, 0, 0, mem, 0, 0, 0, 0, 0, 0, 0, mem, 0]

/-- The row of `DD CB d 3x`: `36` is illegal (R137). -/
def Config.cycIndexedSrl : List Nat := [0, 0, 0, 0, 0, 0, 0, 0, 0, 0, 0, 0, 0, 0, 23, 0]

/-- `CYC` after `CB` (R139): `BIT b,(HL)` costs 12, the others on memory 15. -/
def Config.cycCb : List (List Nat) :=
  List.replicate 3 (Config.cycColumns 8 15) ++ [Config.cycSrl] ++ List.replicate 4 (Config.cycColumns 8 12)
    ++ List.replicate 8 (Config.cycColumns 8 15)

/-- `CYC` after `DD CB d` and `FD CB d` (R139): `BIT b,(XY+d)` costs 20, the others 23. -/
def Config.cycIndexedCb : List (List Nat) :=
  List.replicate 3 (Config.cycIndexedRow 23) ++ [Config.cycIndexedSrl] ++ List.replicate 4 (Config.cycIndexedRow 20)
    ++ List.replicate 8 (Config.cycIndexedRow 23)

/-- `CYC` of the Z80 family (R139). -/
def Config.cycZ80 : CycTable where
  main :=
    [[4, 10, 7, 6, 4, 4, 7, 4, 4, 11, 7, 6, 4, 4, 7, 4],
     [8, 10, 7, 6, 4, 4, 7, 4, 12, 11, 7, 6, 4, 4, 7, 4],
     [7, 10, 16, 6, 4, 4, 7, 4, 7, 11, 16, 6, 4, 4, 7, 4],
     [7, 10, 13, 6, 11, 11, 10, 4, 7, 11, 13, 6, 4, 4, 7, 4],
     [4, 4, 4, 4, 4, 4, 7, 4, 4, 4, 4, 4, 4, 4, 7, 4],
     [4, 4, 4, 4, 4, 4, 7, 4, 4, 4, 4, 4, 4, 4, 7, 4],
     [4, 4, 4, 4, 4, 4, 7, 4, 4, 4, 4, 4, 4, 4, 7, 4],
     [7, 7, 7, 7, 7, 7, 4, 7, 4, 4, 4, 4, 4, 4, 7, 4],
     [4, 4, 4, 4, 4, 4, 7, 4, 4, 4, 4, 4, 4, 4, 7, 4],
     [4, 4, 4, 4, 4, 4, 7, 4, 4, 4, 4, 4, 4, 4, 7, 4],
     [4, 4, 4, 4, 4, 4, 7, 4, 4, 4, 4, 4, 4, 4, 7, 4],
     [4, 4, 4, 4, 4, 4, 7, 4, 4, 4, 4, 4, 4, 4, 7, 4],
     [5, 10, 10, 10, 10, 11, 7, 11, 5, 10, 10, 0, 10, 17, 7, 11],
     [5, 10, 10, 11, 10, 11, 7, 11, 5, 4, 10, 11, 10, 0, 7, 11],
     [5, 10, 10, 19, 10, 11, 7, 11, 5, 4, 10, 4, 10, 0, 7, 11],
     [5, 10, 10, 4, 10, 11, 7, 11, 5, 6, 10, 4, 10, 0, 7, 11]]
  cb := Config.cycCb
  ed :=
    [[0, 0, 0, 0, 0, 0, 0, 0, 0, 0, 0, 0, 0, 0, 0, 0],
     [0, 0, 0, 0, 0, 0, 0, 0, 0, 0, 0, 0, 0, 0, 0, 0],
     [0, 0, 0, 0, 0, 0, 0, 0, 0, 0, 0, 0, 0, 0, 0, 0],
     [0, 0, 0, 0, 0, 0, 0, 0, 0, 0, 0, 0, 0, 0, 0, 0],
     [12, 12, 15, 20, 8, 14, 8, 9, 12, 12, 15, 20, 0, 14, 0, 9],
     [12, 12, 15, 20, 0, 0, 8, 9, 12, 12, 15, 20, 0, 0, 8, 9],
     [12, 12, 15, 20, 0, 0, 0, 18, 12, 12, 15, 20, 0, 0, 0, 18],
     [0, 0, 15, 20, 0, 0, 0, 0, 12, 12, 15, 20, 0, 0, 0, 0],
     [0, 0, 0, 0, 0, 0, 0, 0, 0, 0, 0, 0, 0, 0, 0, 0],
     [0, 0, 0, 0, 0, 0, 0, 0, 0, 0, 0, 0, 0, 0, 0, 0],
     [16, 16, 16, 16, 0, 0, 0, 0, 16, 16, 16, 16, 0, 0, 0, 0],
     [16, 16, 16, 16, 0, 0, 0, 0, 16, 16, 16, 16, 0, 0, 0, 0],
     [0, 0, 0, 0, 0, 0, 0, 0, 0, 0, 0, 0, 0, 0, 0, 0],
     [0, 0, 0, 0, 0, 0, 0, 0, 0, 0, 0, 0, 0, 0, 0, 0],
     [0, 0, 0, 0, 0, 0, 0, 0, 0, 0, 0, 0, 0, 0, 0, 0],
     [0, 0, 0, 0, 0, 0, 0, 0, 0, 0, 0, 0, 0, 0, 0, 0]]
  dd := Config.cycIndexed
  fd := Config.cycIndexed
  ddcb := Config.cycIndexedCb
  fdcb := Config.cycIndexedCb

/-- `EXTRA`: the variable cycles of each case that has any (R125, R140). -/
structure ExtraTable where
  /-- A read-class instruction whose index crosses a page (R125). -/
  pageCross : Nat
  /-- A taken branch (R125). -/
  branchTaken : Nat
  /-- The further cost of a taken branch that crosses a page (R125). -/
  branchCross : Nat
  /-- `JR cc,e` taken (R140). -/
  jrTaken : Nat
  /-- `DJNZ e` taken (R140). -/
  djnzTaken : Nat
  /-- `CALL cc,nn` taken (R140). -/
  callTaken : Nat
  /-- `RET cc` taken (R140). -/
  retTaken : Nat
  /-- A block instruction that repeats (R140). -/
  blockRepeat : Nat
deriving DecidableEq, Repr

/-- `EXTRA` as R125 and R140 state it. -/
def Config.extraCycles : ExtraTable where
  pageCross := 1
  branchTaken := 1
  branchCross := 1
  jrTaken := 5
  djnzTaken := 5
  callTaken := 7
  retTaken := 6
  blockRepeat := 5

/-- What an illegal opcode of one kind is skipped with. -/
structure SkipCost where
  len : Nat
  cyc : Nat
deriving DecidableEq, Repr

/-- `ILLEGAL_LEN` and `ILLEGAL_CYC` of every kind of illegal opcode (R126, R137). -/
structure IllegalTable where
  m6502 : SkipCost
  z80Cb : SkipCost
  z80Ed : SkipCost
  z80Prefix : SkipCost
  z80IndexCb : SkipCost
deriving DecidableEq, Repr

/-- The entry of a kind. -/
def IllegalTable.entry (t : IllegalTable) (k : Illegal) : SkipCost :=
  match k with
  | .m6502 => t.m6502
  | .z80Cb => t.z80Cb
  | .z80Ed => t.z80Ed
  | .z80Prefix => t.z80Prefix
  | .z80IndexCb => t.z80IndexCb

/-- `ILLEGAL_LEN` and `ILLEGAL_CYC` as R126 and R137 state them. -/
def Config.illegalCosts : IllegalTable := ⟨⟨1, 2⟩, ⟨2, 8⟩, ⟨2, 8⟩, ⟨1, 4⟩, ⟨4, 16⟩⟩

/-! ### Chips, memory-mapped ranges and ports (R88, R89) -/

/-- The sound chips of the block (R1). -/
inductive Chip where
  | nesApu
  | ay
  | pokey
deriving DecidableEq, Repr

/-- How many voices a chip has (R420, R470, R500). -/
def Chip.voices : Chip → Nat
  | .nesApu => 5
  | .ay => 4
  | .pokey => 4

/-- One channel of the external synthesis buffer: the one that belongs to a chip's voice (R96, R531). -/
structure Channel where
  chip : Chip
  voice : Nat
deriving DecidableEq, Repr

/-- What a callback of the host does to the CPU core besides what a handler of the spec's machines does: it may shorten the
slice by `set_end_time(t)` (R165); it may break its contract by `set_time(t)` (R169, R579), `run` or `start_track` (U15), and
is then refused. The machines of the spec have no such callback. -/
inductive Callback where
  | setEndTime (t : Int)
  | setTime (t : Int)
  | run
  | startTrack
deriving DecidableEq, Repr

/-- What answers a data read in a memory-mapped range (R80, R88): the NESAPU's status, or a callback with the byte it
returns. -/
inductive ReadHandler where
  | nesStatus
  | callback (c : Callback) (answer : Byte)
deriving DecidableEq, Repr

/-- What the window of a bank handler shows when the bank lies beyond the ROM: `UNMAPPED_READ` (R88, R571), or memory filled
with zeros (R570 b, U17). The spec says both; the handler names which (log entry 12). -/
inductive MissingBank where
  | unmapped
  | zeros
deriving DecidableEq, Repr

/-- What a data write in a memory-mapped range calls (R81, R88): the NESAPU; the POKEY, which stores the byte in memory as
well; a bank-select handler with its window, its window size, the region that holds the banks and what a missing bank
shows; a callback. -/
inductive WriteHandler where
  | nesWrite
  | pokeyWrite
  | bank (window size : Nat) (rom : Nat) (missing : MissingBank)
  | callback (c : Callback)
deriving DecidableEq, Repr

/-- A range of logical addresses, both ends included, with what answers reads there. -/
structure ReadRange where
  lo : Nat
  hi : Nat
  handler : ReadHandler
deriving DecidableEq, Repr

/-- A range of logical addresses, both ends included, with what its writes call. -/
structure WriteRange where
  lo : Nat
  hi : Nat
  handler : WriteHandler
deriving DecidableEq, Repr

/-- What a Z80 port write calls (R89): the AY, or a callback. -/
inductive PortHandler where
  | ayPort
  | callback (c : Callback)
deriving DecidableEq, Repr

/-- What a Z80 port read returns, and the callback that answers it, if it does more than answer (R84, R89). -/
structure PortAnswer where
  byte : Byte
  call : Option Callback
deriving DecidableEq, Repr

/-- What becomes of a chip operation asked for at a time before the chip's own: it is done at the chip's current time (U9,
R424 with R426), or the whole call is ignored (R571, R622). The spec says both (log entry 10). -/
inductive LateCall where
  | atChipTime
  | ignored
deriving DecidableEq, Repr

/-- What the end of a frame does to `end_time`: it is left as the last `run` set it (R546, R164), or it is rebased with the
other stored times (R22, R17). The spec says both (log entry 27). -/
inductive EndTimeRebase where
  | kept
  | rebased
deriving DecidableEq, Repr

/-- `end_time` after rebasing by the length of a frame. -/
def EndTimeRebase.apply (r : EndTimeRebase) (length endTime : Int) : Int :=
  match r with
  | .kept => endTime
  | .rebased => endTime - length

/-! ### Entry registers (`ENTRY_REGS`, R532) -/

/-- A register the driver may write at a guest routine's entry: every register of the two families (R28 to R38). -/
inductive EntryReg where
  | mA | mX | mY | mSP | mP
  | zR8 (r : R8)
  | zPair (p : RP)
  | zXY (x : XY)
  | zF | zAltAF | zAltBC | zAltDE | zAltHL
  | zI | zR | zIff1 | zIff2 | zIm
deriving DecidableEq, Repr

/-- What it writes there: a fixed value or the track index. -/
inductive EntryVal where
  | const (w : Word)
  | track
deriving DecidableEq, Repr

/-- One assignment of `ENTRY_REGS`. -/
structure EntrySet where
  reg : EntryReg
  val : EntryVal
deriving DecidableEq, Repr

/-! ### Constants of the chips (R421, R472, R501, U23) -/

/-- The two constants of the NESAPU that are parameters of the chip (R421). -/
structure NesConsts where
  /-- `FRAME_STEP_PERIOD`. -/
  frameStepPeriod : Nat
  /-- `FRAME_LONG_EXTRA`. -/
  frameLongExtra : Nat
deriving DecidableEq, Repr

/-- The NTSC values of R421; a PAL machine has 8314 for both. -/
def Config.nesConsts : NesConsts := ⟨7458, 7458⟩

/-- The constants of the AY, all three parameters (R472). -/
structure AyConsts where
  /-- `AY_TICK`: CPU cycles per unit of tone period. -/
  tick : Nat
  /-- `AY_AMP`: the amplitude of each level. -/
  amp : List Nat
  /-- `BEEPER_AMP`. -/
  beeperAmp : Nat
deriving DecidableEq, Repr

/-- The values of R472. -/
def Config.ayConsts : AyConsts where
  tick := 16
  amp := [0, 2, 3, 4, 6, 8, 11, 16, 23, 32, 45, 64, 90, 128, 180, 255]
  beeperAmp := 255

/-- A polynomial sequence `PolySeq(width, tap)` (R501). -/
structure Poly where
  width : Nat
  tap : Nat
deriving DecidableEq, Repr

/-- The generator after `k` steps of `PolySeq(width, tap)`, from the start value 1 (R501). -/
def Poly.state (p : Poly) : Nat → Nat
  | 0 => 1
  | k + 1 =>
    let n := p.state k
    let mask := 2 ^ (p.width - 1 - p.tap) + 2 ^ (p.width - 1)
    (n / 2) ^^^ (if n % 2 = 1 then mask else 0)

/-- `seq[pos mod length]`, computed on the fly as R501 allows; the sequence has `2^width - 1` bits. -/
def Poly.bit (p : Poly) (pos : Nat) : Bool := p.state (pos % (2 ^ p.width - 1)) % 2 = 1

/-- The constants of the POKEY (R501), parameters by U23. -/
structure PokeyConsts where
  /-- `POKEY_DIV_64K`. -/
  div64k : Nat
  /-- `POKEY_DIV_15K`. -/
  div15k : Nat
  /-- `POLY4`. -/
  poly4 : Poly
  /-- `POLY5`. -/
  poly5 : Poly
  /-- `POLY9`. -/
  poly9 : Poly
  /-- `POLY17`. -/
  poly17 : Poly
deriving DecidableEq, Repr

/-- The values of R501. -/
def Config.pokeyConsts : PokeyConsts := ⟨28, 114, ⟨4, 1⟩, ⟨5, 2⟩, ⟨9, 5⟩, ⟨17, 5⟩⟩

/-! ### The configuration record -/

/-- `Cfg` (R7): the parameters of one machine, plain data that no step changes. `ADDR_BITS` is the width of `Word`;
`HALT_OPCODE` follows from `FAMILY` (R144); `PAGE_SIZE` and `PAGE_COUNT` follow from `PAGE_BITS`. -/
structure Cfg where
  /-- `FAMILY`. -/
  family : Family
  /-- `PAGE_BITS` (R7, D1): 11 for the M6502, 10 for the Z80, overridable. -/
  pageBits : Fin 17
  /-- `IDLE_ADDR`, OPEN (R530). -/
  idleAddr : Word
  /-- `UNMAPPED_FILL`, the argument `start_track` gives to `reset` (R7, R62). -/
  unmappedFill : Byte
  /-- `CYC` (R124, R139, R630). -/
  cyc : CycTable
  /-- `EXTRA` (R125, R140, R630). -/
  extra : ExtraTable
  /-- `ILLEGAL_LEN` and `ILLEGAL_CYC` (R126, R137). -/
  illegal : IllegalTable
  /-- `INIT_SP`: `0xFF` for the M6502, whose stack pointer takes the low byte; OPEN with default `0xFFFF` for the Z80
  (R532). -/
  initSp : Word
  /-- `ENTRY_REGS` for the init routine (R532). -/
  entryInit : List EntrySet
  /-- `ENTRY_REGS` for the play routine (R532). -/
  entryPlay : List EntrySet
  /-- `PLAY_PERIOD`, OPEN, at least 1 (R7), for a track whose image names none (R19; log entry 30). -/
  playPeriod : Nat
  /-- `INIT_BUDGET`, OPEN; `none` is its default, `PLAY_PERIOD` (R7). -/
  initBudget : Option Nat
  /-- `MMIO`: the ranges with a read handler (R88). -/
  readRanges : List ReadRange
  /-- `MMIO`: the ranges with a write handler (R88). -/
  writeRanges : List WriteRange
  /-- `MMIO`: what a Z80 port write calls (R89). -/
  portOut : Option PortHandler
  /-- `MMIO`: what every Z80 port read returns (R84, R89). -/
  portIn : PortAnswer
  /-- `CHIPS`, in the order the driver calls their `end_frame` (R7, R546). -/
  chips : List Chip
  /-- `FRAME_STEP_PERIOD` and `FRAME_LONG_EXTRA` of the NESAPU (R421). -/
  nesConsts : NesConsts
  /-- `AY_TICK`, `AY_AMP` and `BEEPER_AMP` (R472). -/
  ayConsts : AyConsts
  /-- The dividers and the polynomial sequences of the POKEY (R501, U23). -/
  pokeyConsts : PokeyConsts
  /-- What becomes of a chip operation before the chip's time (U9; R571, R622). -/
  lateCalls : LateCall
  /-- What rebasing does to `end_time` (R22; R546). -/
  endTimeRebase : EndTimeRebase
deriving DecidableEq, Repr

/-- `PAGE_SIZE = 1 << PAGE_BITS` (R7). -/
def Cfg.pageSize (c : Cfg) : Nat := 2 ^ c.pageBits.val

/-- `PAGE_COUNT = 65536 >> PAGE_BITS` (R7). -/
def Cfg.pageCount (c : Cfg) : Nat := 65536 / c.pageSize

/-- The NES-style machine (R88): NESAPU writes at `0x4000..0x4017`, its status read at `0x4015`. The values of the OPEN
parameters are the model's choice (log entry 3). -/
def Config.nesMachine : Cfg where
  family := .m6502
  pageBits := 11
  idleAddr := 0x5FF6
  unmappedFill := 0xFF
  cyc := Config.cycM6502
  extra := Config.extraCycles
  illegal := Config.illegalCosts
  initSp := 0x00FF
  entryInit := [⟨.mA, .track⟩]
  entryPlay := []
  playPeriod := 29830
  initBudget := none
  readRanges := [⟨0x4015, 0x4015, .nesStatus⟩]
  writeRanges := [⟨0x4000, 0x4017, .nesWrite⟩]
  portOut := none
  portIn := ⟨0xFF, none⟩
  chips := [.nesApu]
  nesConsts := Config.nesConsts
  ayConsts := Config.ayConsts
  pokeyConsts := Config.pokeyConsts
  lateCalls := .atChipTime
  endTimeRebase := .kept

/-- The Atari-style machine (R88): POKEY writes at `0xD200..0xD20F`, no read range. -/
def Config.atariMachine : Cfg :=
  { Config.nesMachine with
    idleAddr := 0xD2D2
    readRanges := []
    writeRanges := [⟨0xD200, 0xD20F, .pokeyWrite⟩]
    chips := [.pokey] }

/-- The Z80 machine (R89): the AY and the beeper on the ports, `0xFF` from every port read, no memory-mapped range. -/
def Config.ayMachine : Cfg :=
  { Config.nesMachine with
    family := .z80
    pageBits := 10
    idleAddr := 0xFFFF
    cyc := Config.cycZ80
    initSp := 0xFFFF
    entryInit := [⟨.zR8 .a, .track⟩]
    readRanges := []
    writeRanges := []
    portOut := some .ayPort
    chips := [.ay] }

/-- The machine of a family that the model takes when it is given only the family (log entry 3). -/
def Config.machineOf : Family → Cfg
  | .m6502 => Config.nesMachine
  | .z80 => Config.ayMachine

/-! ### Constant tables of the NESAPU (R421) -/

/-- `LENGTH_TABLE`. -/
def Config.lengthTable : List Nat :=
  [10, 254, 20, 2, 40, 4, 80, 6, 160, 8, 60, 10, 14, 12, 26, 14]
    ++ [12, 16, 24, 18, 48, 20, 96, 22, 192, 24, 72, 26, 16, 28, 32, 30]

/-- `DUTY`: one row of eight levels per duty setting. -/
def Config.dutyTable : List (List Nat) :=
  [[0, 1, 0, 0, 0, 0, 0, 0],
   [0, 1, 1, 0, 0, 0, 0, 0],
   [0, 1, 1, 1, 1, 0, 0, 0],
   [1, 0, 0, 1, 1, 1, 1, 1]]

/-- `TRI_SEQ`. -/
def Config.triSeq : List Nat :=
  [15, 14, 13, 12, 11, 10, 9, 8, 7, 6, 5, 4, 3, 2, 1, 0]
    ++ [0, 1, 2, 3, 4, 5, 6, 7, 8, 9, 10, 11, 12, 13, 14, 15]

/-- `NOISE_PERIOD`. -/
def Config.noisePeriod : List Nat :=
  [4, 8, 16, 32, 64, 96, 128, 160, 202, 254, 380, 508, 762, 1016, 2034, 4068]

/-- `DMC_RATE`. -/
def Config.dmcRate : List Nat :=
  [428, 380, 340, 320, 286, 254, 226, 214, 190, 160, 142, 128, 106, 84, 72, 54]

end Sys2Proof
end

