-- ==== Sys2Proof/Machine/State.lean ====
section
/-! DEFINITION. Everything one machine owns (R20): the CPU core of either family, the interconnect, the sound chips, the
driver, the pending calls of the host, and the model's own control fields; the fault and refusal reasons; reset. -/

namespace Sys2Proof.Machine

/-! ### Reasons a step could stop -/

/-- The faults of the machine: there are none. No event of this hardware stops it: "Nothing in this core is fatal to the
host process" (R570, R573, R168), so this type has no constructor and no step can answer one. Safe. -/
inductive Fault where
deriving DecidableEq, Repr

/-- The refusals of a step. Refusals of a HOST CALL (R578, R579) are no refusals of a step: they are results and records in
the state (`CallRefusal`). -/
inductive Refusal where
  /-- Raised by an arm of `exec` for an instruction that has no meaning yet. Safe: the model stops. No arm raises it. -/
  | notModelled (mnemonic : String)
deriving DecidableEq, Repr

/-! ### The CPU core -/

/-- `phase` (R27). -/
inductive CpuPhase where
  | reset | running | haltedAtIdle | haltedElsewhere
deriving DecidableEq, Repr

/-- Why `run` returned (R161). -/
inductive StopReason where
  | timeUp | haltedAtIdle | haltedElsewhere
deriving DecidableEq, Repr

/-- The six stored flags of the M6502 status register P (R29); bits 5 and 4 of a pushed byte are not state. -/
structure MFlags where
  n : Bool
  v : Bool
  d : Bool
  i : Bool
  z : Bool
  c : Bool
deriving DecidableEq, Repr

/-- The M6502 register file (R28, R29). -/
structure M6502Regs where
  a : Byte
  x : Byte
  y : Byte
  sp : Byte
  p : MFlags
deriving DecidableEq, Repr

/-- The eight bits of the Z80 flag register F, from bit 7 to bit 0 (R35). -/
structure ZFlags where
  s : Bool
  z : Bool
  f5 : Bool
  h : Bool
  f3 : Bool
  pv : Bool
  n : Bool
  c : Bool
deriving DecidableEq, Repr

/-- The Z80 register file (R32 to R38). `AF` and `AF'` are held as the accumulator and the eight flag bits (log entry 6). -/
structure Z80Regs where
  a : Byte
  f : ZFlags
  bc : Word
  de : Word
  hl : Word
  aAlt : Byte
  fAlt : ZFlags
  bcAlt : Word
  deAlt : Word
  hlAlt : Word
  ix : Word
  iy : Word
  sp : Word
  i : Byte
  r : Byte
  iff1 : Bool
  iff2 : Bool
  im : ImMode
deriving DecidableEq, Repr

/-- The M6502 registers after `reset` (R63). -/
def MFlags.reset : MFlags := ⟨false, false, false, false, false, false⟩

/-- The M6502 registers after `reset` (R63). -/
def M6502Regs.reset : M6502Regs := ⟨0, 0, 0, 0, MFlags.reset⟩

/-- The Z80 flags after `reset` (R64). -/
def ZFlags.reset : ZFlags := ⟨false, false, false, false, false, false, false, false⟩

/-- The Z80 registers after `reset` (R64). -/
def Z80Regs.reset : Z80Regs :=
  ⟨0, ZFlags.reset, 0, 0, 0, 0, ZFlags.reset, 0, 0, 0, 0, 0, 0, 0, 0, false, false, .im0⟩

/-! ### The interconnect -/

/-- The backing array a page-table entry points into (R40, R41); `zeroFill` is the zero-filled memory a missing bank may
show, `PAGE_SIZE` bytes that are 0 and are never written (R570 b, U17; log entry 12). -/
inductive RegionRef where
  | unmappedRead
  | unmappedWrite
  | zeroFill
  | region (i : Nat)
deriving DecidableEq, Repr, Inhabited

/-- A page-table entry, and equally the location one address resolves to: a region and a byte offset into it (R40, R72). -/
structure PageEntry where
  region : RegionRef
  offset : Nat
deriving DecidableEq, Repr, Inhabited

/-- A backing array (R41): its length, and the cells that do not hold 0, in rising order of offset. An unlisted byte
reads 0: RAM regions start zero-filled (R68). -/
structure Region where
  size : Nat
  cells : List Host.Cell
deriving DecidableEq, Repr, Inhabited

/-! ### The sink (R96) -/

/-- One call the machine makes on the external synthesis buffer. -/
inductive SinkCall where
  | offset (ch : Channel) (t : Int) (delta : Int)
  | endFrame (t : Int)
deriving DecidableEq, Repr

/-- The part every voice has (R45): the amplitude last reported, and the sink channel it feeds, if any. -/
structure VoiceOut where
  lastAmp : Int
  output : Option Channel
deriving DecidableEq, Repr

/-- A voice after a chip reset (R66): level 0, unattached. -/
def VoiceOut.reset : VoiceOut := ⟨0, none⟩

/-! ### The NESAPU (R47 to R50) -/

/-- A pulse channel (R47). -/
structure Pulse where
  period : BitVec 11
  duty : BitVec 2
  halt : Bool
  constVol : Bool
  vol : BitVec 4
  sweepEn : Bool
  sweepPeriod : BitVec 3
  sweepNeg : Bool
  sweepShift : BitVec 3
  dutyPhase : Nat
  delay : Nat
  length : Nat
  enabled : Bool
  envStart : Bool
  envDiv : Nat
  envDecay : Nat
  sweepDiv : Nat
  sweepReload : Bool
  out : VoiceOut
deriving DecidableEq, Repr

/-- The triangle channel (R48). -/
structure Triangle where
  period : BitVec 11
  control : Bool
  linearLoad : BitVec 7
  seqPhase : Nat
  delay : Nat
  length : Nat
  enabled : Bool
  linear : Nat
  linearReload : Bool
  out : VoiceOut
deriving DecidableEq, Repr

/-- The noise channel (R48). -/
structure Noise where
  halt : Bool
  constVol : Bool
  vol : BitVec 4
  mode : Bool
  periodIndex : BitVec 4
  lfsr : BitVec 15
  delay : Nat
  length : Nat
  enabled : Bool
  envStart : Bool
  envDiv : Nat
  envDecay : Nat
  out : VoiceOut
deriving DecidableEq, Repr

/-- The DMC channel (R49). -/
structure Dmc where
  irqEnable : Bool
  loop : Bool
  rateIndex : BitVec 4
  dac : BitVec 7
  addrReg : Byte
  lenReg : Byte
  curAddr : Word
  bytesLeft : Nat
  buffer : Option Byte
  shift : Byte
  bitsLeft : Nat
  silence : Bool
  delay : Nat
  irqFlag : Bool
  out : VoiceOut
deriving DecidableEq, Repr

/-- The NESAPU: its five voices, the frame sequencer (R50) and `last_time` (R46). -/
structure Nes where
  pulse1 : Pulse
  pulse2 : Pulse
  triangle : Triangle
  noise : Noise
  dmc : Dmc
  frameMode : Bool
  irqInhibit : Bool
  frameStep : Nat
  frameDelay : Nat
  frameIrqFlag : Bool
  lastTime : Int
deriving DecidableEq, Repr

/-- A pulse channel after a chip reset (R66). -/
def Pulse.reset : Pulse where
  period := 0
  duty := 0
  halt := false
  constVol := false
  vol := 0
  sweepEn := false
  sweepPeriod := 0
  sweepNeg := false
  sweepShift := 0
  dutyPhase := 0
  delay := 0
  length := 0
  enabled := false
  envStart := false
  envDiv := 0
  envDecay := 0
  sweepDiv := 0
  sweepReload := false
  out := VoiceOut.reset

/-- The triangle channel after a chip reset (R66). -/
def Triangle.reset : Triangle where
  period := 0
  control := false
  linearLoad := 0
  seqPhase := 0
  delay := 0
  length := 0
  enabled := false
  linear := 0
  linearReload := false
  out := VoiceOut.reset

/-- The noise channel after a chip reset: `lfsr = 1` (R66). -/
def Noise.reset : Noise where
  halt := false
  constVol := false
  vol := 0
  mode := false
  periodIndex := 0
  lfsr := 1
  delay := 0
  length := 0
  enabled := false
  envStart := false
  envDiv := 0
  envDecay := 0
  out := VoiceOut.reset

/-- The DMC after a chip reset: `bits_left = 8`, `silence = 1`, `cur_addr = 0xC000` (R66). -/
def Dmc.reset : Dmc where
  irqEnable := false
  loop := false
  rateIndex := 0
  dac := 0
  addrReg := 0
  lenReg := 0
  curAddr := 0xC000
  bytesLeft := 0
  buffer := none
  shift := 0
  bitsLeft := 8
  silence := true
  delay := 0
  irqFlag := false
  out := VoiceOut.reset

/-- The NESAPU after a chip reset: `frame_step = 1`, `frame_delay = FRAME_STEP_PERIOD` (R66). -/
def Nes.reset (p : NesConsts) : Nes where
  pulse1 := Pulse.reset
  pulse2 := Pulse.reset
  triangle := Triangle.reset
  noise := Noise.reset
  dmc := Dmc.reset
  frameMode := false
  irqInhibit := false
  frameStep := 1
  frameDelay := p.frameStepPeriod
  frameIrqFlag := false
  lastTime := 0

/-! ### The AY-3-8910 and the beeper (R51, R52) -/

/-- `ay_mode` (R52). -/
inductive AyMode where
  | undetected | spectrum | cpc
deriving DecidableEq, Repr

/-- A tone channel of the AY (R51). -/
structure AyTone where
  delay : Nat
  phase : Bool
  out : VoiceOut
deriving DecidableEq, Repr

/-- The AY and the beeper (R51, R52). `regs` holds the sixteen registers in order. -/
structure Ay where
  regs : List Byte
  addrLatch : BitVec 4
  toneA : AyTone
  toneB : AyTone
  toneC : AyTone
  noiseDelay : Nat
  noiseLfsr : BitVec 17
  envDelay : Nat
  envStep : Nat
  envHold : Bool
  mode : AyMode
  cpcLatch : Byte
  beeperBit : Bool
  beeper : VoiceOut
  lastTime : Int
deriving DecidableEq, Repr

/-- A tone channel after a chip reset: its delay is the reload period of period 0 (R66, R475). -/
def AyTone.reset (p : AyConsts) : AyTone := ⟨p.tick, false, VoiceOut.reset⟩

/-- The AY after a chip reset: every register 0 but `reg[7] = 0xFF`; `noise_lfsr = 1` (R66). -/
def Ay.reset (p : AyConsts) : Ay where
  regs := [0, 0, 0, 0, 0, 0, 0, 0xFF, 0, 0, 0, 0, 0, 0, 0, 0]
  addrLatch := 0
  toneA := AyTone.reset p
  toneB := AyTone.reset p
  toneC := AyTone.reset p
  noiseDelay := 2 * p.tick
  noiseLfsr := 1
  envDelay := 2 * p.tick
  envStep := 0
  envHold := false
  mode := .undetected
  cpcLatch := 0
  beeperBit := false
  beeper := VoiceOut.reset
  lastTime := 0

/-! ### The POKEY (R54, R55) -/

/-- A channel of the POKEY (R54). -/
structure PokeyCh where
  audf : Byte
  audc : Byte
  delay : Nat
  ff : Bool
  out : VoiceOut
deriving DecidableEq, Repr

/-- The POKEY: four channels, the high-pass latches of channels 1 and 2, and the global fields (R54, R55). -/
structure Pokey where
  ch1 : PokeyCh
  ch2 : PokeyCh
  ch3 : PokeyCh
  ch4 : PokeyCh
  hp1 : Bool
  hp2 : Bool
  audctl : Byte
  polyPos : Nat
  lastTime : Int
deriving DecidableEq, Repr

/-- A POKEY channel after a chip reset (R66). -/
def PokeyCh.reset : PokeyCh := ⟨0, 0, 0, false, VoiceOut.reset⟩

/-- The POKEY after a chip reset (R66). -/
def Pokey.reset : Pokey :=
  ⟨PokeyCh.reset, PokeyCh.reset, PokeyCh.reset, PokeyCh.reset, false, false, 0, 0, 0⟩

/-! ### The driver and the host -/

/-- The register snapshot of a suspended routine: every CPU register including `pc` (R57, R541). -/
structure Snapshot where
  pc : Word
  m : M6502Regs
  z : Z80Regs
deriving DecidableEq, Repr

/-- One call of the mapping plan (R75, R76, R531). -/
inductive MapCall where
  | mapCode (start size : Nat) (data : PageEntry) (mirror : Option Nat)
  | mapMem (start size : Nat) (writeTo readFrom : PageEntry)
deriving DecidableEq, Repr

/-- A region the driver builds: its size, and the blocks copied in at offsets (R531; log entry 9). -/
structure RegionImage where
  size : Nat
  blocks : List (Nat × List Byte)
deriving DecidableEq, Repr

/-- The loader's output (R531), the launch parameters among it (R19): the entry points, and the play period where the loader
gives one; `none` leaves the period to the configuration (R7; log entry 30). -/
structure Image where
  regions : List RegionImage
  plan : List MapCall
  initAddr : Word
  playAddr : Word
  trackCount : Nat
  playPeriod : Option Nat
deriving DecidableEq, Repr

/-- The image of a machine that has played no track. -/
def Image.empty : Image := ⟨[], [], 0, 0, 0, none⟩

/-- The reasons a call is refused (R579), and one for `run` and `start_track` from inside a callback, which U15 refuses
without naming a reason (log entry 17). -/
inductive CallRefusal where
  | misalignedMap
  | badDuration
  | badTempo
  | noTrack
  | setTimeInCallback
  | callInCallback
deriving DecidableEq, Repr

/-- The operations of the CPU core, as calls (R150); `readRegs` and `writeRegs` are the direct access to its registers
between slices. -/
inductive CoreCall where
  | reset (fill : Byte)
  | map (c : MapCall)
  | setEndTime (t : Int)
  | setTime (t : Int)
  | readTime
  | run (endTime : Int)
  | jsrThenStop (addr : Word)
  | readRegs
  | writeRegs (p : Snapshot)
deriving DecidableEq, Repr

/-- The calls of the host on the machine (R15, R531, R540, R548 to R550, R574), the AY's
chip-level entry that is open to the driver (R470), and the core's own operations. -/
inductive HostCall where
  | startTrack (track : Nat) (image : Image)
  | endFrame (target : Int)
  | setTempo (m : Rat)
  | setVoiceMute (mask : Nat)
  | takeWarning
  | warn (text : String)
  | ayWrite (t : Int) (r : Nat) (v : Byte)
  | core (c : CoreCall)
deriving DecidableEq, Repr

/-- What a finished call returned. -/
inductive HostResult where
  | done
  | success
  | failure (text : String)
  | duration (cycles : Int)
  | warningWas (w : Option String)
  | timeWas (t : Int)
  | regsWere (p : Snapshot)
  | stopped (r : StopReason)
  | refused (r : CallRefusal)
deriving DecidableEq, Repr

/-- Who called the `run` that is in progress, and what it needs when the slice ends: the init phase of `start_track`
(R531), a pass of `end_frame` with its target, the error count at its start and its bound (R540), or the host itself
(R591). -/
inductive Caller where
  | initPhase
  | frame (target : Int) (errors : Nat) (bound : Int)
  | direct
deriving DecidableEq, Repr

/-- Which agent moves next (R15): the host (between calls), the driver at the top of a pass of `end_frame`, or the CPU core
inside a slice. -/
inductive Control where
  | host
  | frame (target : Int) (errors : Nat)
  | slice (caller : Caller)
deriving DecidableEq, Repr

/-! ### The whole machine -/

/-- The state of one machine instance (R20). -/
structure State where
  /-- The configuration record `Cfg`; no step changes it (R7). -/
  cfg : Cfg
  /-- The model's own: which agent moves next. -/
  control : Control
  /-- The model's own: the host's pending calls, next first. -/
  calls : List HostCall
  /-- The model's own: what finished calls returned, newest first. -/
  results : List HostResult
  /-- The record of refused calls, newest first (R578). -/
  refusals : List CallRefusal
  /-- The model's own: how many free values have been drawn. -/
  draws : Nat
  /-- `time` (R21). -/
  time : Int
  /-- `end_time` (R22). -/
  endTime : Int
  /-- `error_count` (R23). -/
  errorCount : Nat
  /-- `pc` (R24). -/
  pc : Word
  /-- `phase` (R27). -/
  phase : CpuPhase
  /-- The M6502 registers (R28, R29). -/
  m : M6502Regs
  /-- The Z80 registers (R32 to R38). -/
  z : Z80Regs
  /-- The fill byte the last `reset` was given: every byte of `UNMAPPED_READ` (R41, R62). -/
  unmappedFill : Byte
  /-- `read_page[i]` (R40). -/
  readPage : List PageEntry
  /-- `write_page[i]` (R40). -/
  writePage : List PageEntry
  /-- The regions the driver created, by number (R41). -/
  regions : List Region
  /-- The cells of `UNMAPPED_WRITE` that do not hold 0; no rule reads them (R41, R69). -/
  unmappedWrite : List Host.Cell
  /-- The NESAPU (R47 to R50). -/
  nes : Nes
  /-- The AY and the beeper (R51, R52). -/
  ay : Ay
  /-- The POKEY (R54, R55). -/
  pokey : Pokey
  /-- The output event history, newest first (R96). -/
  sink : List SinkCall
  /-- `next_play_time` (R56). -/
  nextPlayTime : Int
  /-- `play_period` (R56). -/
  playPeriod : Nat
  /-- `suspended` (R57). -/
  suspended : Option Snapshot
  /-- `warning` (R58). -/
  warning : Option String
  /-- Whether a `start_track` has succeeded (R554). -/
  started : Bool
  /-- `init_addr` (R59). -/
  initAddr : Word
  /-- `play_addr` (R59). -/
  playAddr : Word
  /-- `track` (R59). -/
  track : Nat
  /-- The memory image of the track (R59). -/
  image : Image
  /-- `play_calls` (R60). -/
  playCalls : Nat
  /-- `voice_mute`, one bit per voice (R60). -/
  voiceMute : Nat
  /-- `tempo` (R60). -/
  tempo : Rat
deriving DecidableEq, Repr

/-- A page table with every page at one entry (R62). -/
def PageEntry.table (c : Cfg) (r : RegionRef) : List PageEntry := List.replicate c.pageCount ⟨r, 0⟩

/-- A machine of a given configuration right after `reset` of its core, its chips and its driver, before any host call
(R62 to R67, R610 to R612). -/
def State.resetOf (cfg : Cfg) : State where
  cfg := cfg
  control := .host
  calls := []
  results := []
  refusals := []
  draws := 0
  time := 0
  endTime := 0
  errorCount := 0
  pc := 0
  phase := .reset
  m := M6502Regs.reset
  z := Z80Regs.reset
  unmappedFill := cfg.unmappedFill
  readPage := PageEntry.table cfg .unmappedRead
  writePage := PageEntry.table cfg .unmappedWrite
  regions := []
  unmappedWrite := []
  nes := Nes.reset cfg.nesConsts
  ay := Ay.reset cfg.ayConsts
  pokey := Pokey.reset
  sink := []
  nextPlayTime := 0
  playPeriod := cfg.playPeriod
  suspended := none
  warning := none
  started := false
  initAddr := 0
  playAddr := 0
  track := 0
  image := Image.empty
  playCalls := 0
  voiceMute := 0
  tempo := 1

/-- The machine right after reset, for the NES-style configuration (log entry 3). -/
def State.reset : State := State.resetOf Config.nesMachine

end Sys2Proof.Machine
end

