-- ==== Sys2Proof/Machine/Bits.lean ====
section
/-! DEFINITION. Bit fields, byte order, sign extension and the packing of the two flag registers (R9, R10, R29, R35, R86). -/

namespace Sys2Proof.Machine

/-- The 16-bit quantity with low byte `lo` and high byte `hi`: `hi ++ lo` (R9, R86). -/
def word (lo hi : Byte) : Word := hi ++ lo

/-- Bits 15 to 8 (R10). -/
def hi8 (w : Word) : Byte := w.extractLsb' 8 8

/-- Bits 7 to 0 (R10). -/
def lo8 (w : Word) : Byte := w.extractLsb' 0 8

/-- `zext_16` (R9). -/
def zext (b : Byte) : Word := b.setWidth 16

/-- `sext_8`, as the 16-bit number it adds (R9). -/
def sext (b : Byte) : Word := b.signExtend 16

/-- Write the high half of a pair and leave the low half (R10). -/
def setHi (w : Word) (v : Byte) : Word := word (lo8 w) v

/-- Write the low half of a pair and leave the high half (R10). -/
def setLo (w : Word) (v : Byte) : Word := word v (hi8 w)

/-- Bit `i` of a byte (R9). -/
def bit (v : Byte) (i : Nat) : Bool := v.getLsbD i

/-- The byte whose bit 7 is `b7`, and so on down to bit 0. -/
def byteOfBits (b7 b6 b5 b4 b3 b2 b1 b0 : Bool) : Byte :=
  BitVec.ofNat 8 (128 * b7.toNat + 64 * b6.toNat + 32 * b5.toNat + 16 * b4.toNat
    + 8 * b3.toNat + 4 * b2.toNat + 2 * b1.toNat + b0.toNat)

/-- `Parity(v)`: whether `v` has an even number of 1 bits (R271). -/
def parity (v : Byte) : Bool :=
  !(bit v 0 ^^ bit v 1 ^^ bit v 2 ^^ bit v 3 ^^ bit v 4 ^^ bit v 5 ^^ bit v 6 ^^ bit v 7)

/-- The refresh counter after `n` more opcode fetches: bits 6 to 0 count modulo 128, bit 7 is kept (R37, R171). -/
def bumpR (n : Nat) (r : Byte) : Byte :=
  byteOfBits (bit r 7) false false false false false false false
    ||| BitVec.ofNat 8 ((r.toNat + n) % 128)

/-- The M6502 status byte as `PHP` and `BRK` push it: bits 5 and 4 both 1 (R29, R195). -/
def MFlags.toByte (p : MFlags) : Byte := byteOfBits p.n p.v true true p.d p.i p.z p.c

/-- The six flags from a pulled byte; bits 5 and 4 are discarded (R197). -/
def MFlags.ofByte (v : Byte) : MFlags :=
  ⟨bit v 7, bit v 6, bit v 3, bit v 2, bit v 1, bit v 0⟩

/-- F as a byte (R35). -/
def ZFlags.toByte (f : ZFlags) : Byte := byteOfBits f.s f.z f.f5 f.h f.f3 f.pv f.n f.c

/-- F from a byte (R35). -/
def ZFlags.ofByte (v : Byte) : ZFlags :=
  ⟨bit v 7, bit v 6, bit v 5, bit v 4, bit v 3, bit v 2, bit v 1, bit v 0⟩

end Sys2Proof.Machine
end

