-- ==== Sys2Proof/Machine/Memory.lean ====
section
/-! DEFINITION. The paging interconnect: the canonical form of a backing array, address resolution, reads and writes through
the page table, the mapping operations and the bank handler (R40 to R42, R72 to R78, R88). -/

namespace Sys2Proof.Machine

/-! ### Cells: the bytes of a backing array that are not 0 -/

/-- The byte at an offset; an unlisted byte is 0 (R68). -/
def cellsRead : List Host.Cell → Nat → Byte
  | [], _ => 0
  | c :: cs, o => if c.1 = o then c.2 else cellsRead cs o

/-- Put a cell in its place by offset. -/
def cellsInsert (o : Nat) (v : Byte) : List Host.Cell → List Host.Cell
  | [] => [(o, v)]
  | c :: cs => if o < c.1 then (o, v) :: c :: cs else c :: cellsInsert o v cs

/-- Store a byte at an offset; storing 0 removes the cell. -/
def cellsWrite (cs : List Host.Cell) (o : Nat) (v : Byte) : List Host.Cell :=
  let rest := cs.filter fun c => c.1 != o
  if v = 0 then rest else cellsInsert o v rest

/-- The canonical form: offsets strictly rising from `lo`, below `size`, and no listed byte 0. -/
def cellsWf (size : Nat) : Nat → List Host.Cell → Bool
  | _, [] => true
  | lo, c :: cs => decide (lo ≤ c.1) && decide (c.1 < size) && decide (c.2 ≠ 0) && cellsWf size (c.1 + 1) cs

/-- A region holds its canonical form. -/
def regionWf (r : Region) : Bool := cellsWf r.size 0 r.cells

/-- All memory of the machine is in canonical form. -/
def Memory.wf (s : State) : Bool :=
  s.regions.all regionWf && cellsWf s.cfg.pageSize 0 s.unmappedWrite

/-! ### Locations -/

/-- The length of a backing array; 0 for a region that does not exist (R41). -/
def regionSize (s : State) : RegionRef → Nat
  | .unmappedRead => s.cfg.pageSize
  | .unmappedWrite => s.cfg.pageSize
  | .zeroFill => s.cfg.pageSize
  | .region i => (s.regions[i]?.map Region.size).getD 0

/-- The byte at a location. Every byte of `UNMAPPED_READ` is the fill byte (R41, R62). -/
def locRead (s : State) (l : PageEntry) : Byte :=
  match l.region with
  | .unmappedRead => s.unmappedFill
  | .zeroFill => 0
  | .unmappedWrite => cellsRead s.unmappedWrite l.offset
  | .region i => (s.regions[i]?.map fun r => cellsRead r.cells l.offset).getD 0

/-- Store in a region; beyond its length there is nothing to store to. -/
def regionWrite (o : Nat) (v : Byte) (r : Region) : Region :=
  if o < r.size then { r with cells := cellsWrite r.cells o v } else r

/-- Change the region of number `i`. -/
def regionModify (f : Region → Region) : Nat → List Region → List Region
  | _, [] => []
  | 0, r :: rs => f r :: rs
  | i + 1, r :: rs => r :: regionModify f i rs

/-- Store a byte at a location. `UNMAPPED_READ` is never written (R41), nor are the zeros of a missing bank. -/
def locWrite (s : State) (l : PageEntry) (v : Byte) : State :=
  match l.region with
  | .unmappedRead => s
  | .zeroFill => s
  | .unmappedWrite =>
    if l.offset < s.cfg.pageSize then
      { s with unmappedWrite := cellsWrite s.unmappedWrite l.offset v }
    else s
  | .region i => { s with regions := regionModify (regionWrite l.offset v) i s.regions }

/-! ### Resolution (R72) -/

/-- `page = addr >> PAGE_BITS`. -/
def pageIndex (s : State) (a : Word) : Nat := a.toNat / s.cfg.pageSize

/-- `off = addr & (PAGE_SIZE - 1)`. -/
def pageOffset (s : State) (a : Word) : Nat := a.toNat % s.cfg.pageSize

/-- The read location of an address (R72). -/
def resolveRead (s : State) (a : Word) : PageEntry :=
  let e := s.readPage.getD (pageIndex s a) ⟨.unmappedRead, 0⟩
  ⟨e.region, e.offset + pageOffset s a⟩

/-- The write location of an address (R72). -/
def resolveWrite (s : State) (a : Word) : PageEntry :=
  let e := s.writePage.getD (pageIndex s a) ⟨.unmappedWrite, 0⟩
  ⟨e.region, e.offset + pageOffset s a⟩

/-- `PtRead(addr)` (R73); also `Fetch(addr)` (R79). -/
def ptRead (s : State) (a : Word) : Byte := locRead s (resolveRead s a)

/-- `PtWrite(addr, v)` (R74). -/
def ptWrite (s : State) (a : Word) (v : Byte) : State := locWrite s (resolveWrite s a) v

/-! ### Warnings and refusals (R575, R578) -/

/-- `warn(text)`: the one warning slot is overwritten (R575). -/
def warn (text : String) (s : State) : State := { s with warning := some text }

/-- `refuse(reason)`: the refusal is recorded and nothing else changes (R578). -/
def refuse (r : CallRefusal) (s : State) : State := { s with refusals := r :: s.refusals }

/-- A chip operation asked for at a time before the chip's own: the warning, and what `act` does at the chip's current time
(U9, R424 with R426) or nothing (R571, R622). Log entry 10. -/
def lateCall (act : State → State) (s : State) : State :=
  match s.cfg.lateCalls with
  | .atChipTime => warn "time went backwards" (act s)
  | .ignored => warn "time went backwards" s

/-! ### Mapping operations (R75 to R78) -/

/-- The preconditions on `start` and `size` (R75). -/
def windowOk (s : State) (start size : Nat) : Bool :=
  let ps := s.cfg.pageSize
  decide (start % ps = 0) && decide (size % ps = 0) && decide (ps ≤ size) && decide (start + size ≤ 65536)

/-- The preconditions of a mapping call (R75, R76). -/
def mapOk (s : State) : MapCall → Bool
  | .mapCode start size data mirror =>
    let ps := s.cfg.pageSize
    let m := mirror.getD size
    windowOk s start size && decide (m % ps = 0) && decide (ps ≤ m)
      && decide (data.offset + min size m ≤ regionSize s data.region)
  | .mapMem start size writeTo readFrom =>
    windowOk s start size && decide (writeTo.offset + size ≤ regionSize s writeTo.region)
      && decide (readFrom.offset + size ≤ regionSize s readFrom.region)

/-- Replace the entries `first .. first + n - 1` of a page table: entry `first + k` becomes `f k`. The table given starts
at entry `i`. -/
def setPages (first n : Nat) (f : Nat → PageEntry) : Nat → List PageEntry → List PageEntry
  | _, [] => []
  | i, e :: es => (if first ≤ i ∧ i < first + n then f (i - first) else e) :: setPages first n f (i + 1) es

/-- The effect of a mapping call whose preconditions hold (R75, R76). -/
def mapInstall (s : State) : MapCall → State
  | .mapCode start size data mirror =>
    let ps := s.cfg.pageSize
    let m := mirror.getD size
    { s with
      readPage := setPages (start / ps) (size / ps) (fun k => ⟨data.region, data.offset + k * ps % m⟩) 0 s.readPage
      writePage := setPages (start / ps) (size / ps) (fun _ => ⟨.unmappedWrite, 0⟩) 0 s.writePage }
  | .mapMem start size writeTo readFrom =>
    let ps := s.cfg.pageSize
    { s with
      readPage := setPages (start / ps) (size / ps) (fun k => ⟨readFrom.region, readFrom.offset + k * ps⟩) 0 s.readPage
      writePage := setPages (start / ps) (size / ps) (fun k => ⟨writeTo.region, writeTo.offset + k * ps⟩) 0 s.writePage }

/-- `map_code` and `map_mem`: a call that breaks a precondition is refused, with a warning (R77). -/
def applyMap (c : MapCall) (s : State) : State :=
  if mapOk s c then mapInstall s c else warn "bad page mapping" (refuse .misalignedMap s)

/-- What a window shows when its bank is missing (R88, R571; R570 b, U17). Log entry 12. -/
def missingRegion (m : MissingBank) : RegionRef :=
  match m with
  | .unmapped => .unmappedRead
  | .zeros => .zeroFill

/-- The bank handler: `map_code(window, window_size, (ROM, v * window_size))`; for a bank beyond the ROM the window shows
`UNMAPPED_READ` (R88, R571) or zeros (R570 b, U17), page by page, with a warning. Log entry 12. -/
def bankSelect (window size rom : Nat) (missing : MissingBank) (v : Byte) (s : State) : State :=
  if v.toNat * size < regionSize s (.region rom) then
    applyMap (.mapCode window size ⟨.region rom, v.toNat * size⟩ none) s
  else
    warn "bank data missing" (applyMap (.mapCode window size ⟨missingRegion missing, 0⟩ (some s.cfg.pageSize)) s)

/-! ### Placing bytes from outside the machine -/

/-- Give the page of an address a backing region of zeros if it still points at one of the two windows that no store changes;
its write entry is left alone. Log entry 11. -/
def ensureBacked (a : Word) (s : State) : State :=
  if (resolveRead s a).region = .unmappedRead ∨ (resolveRead s a).region = .zeroFill then
    { s with
      regions := s.regions ++ [⟨s.cfg.pageSize, []⟩]
      readPage := setPages (pageIndex s a) 1 (fun _ => ⟨.region s.regions.length, 0⟩) 0 s.readPage }
  else s

/-- Store a byte where reads of an address find it, whatever the write entry says. -/
def poke (a : Word) (v : Byte) (s : State) : State := locWrite s (resolveRead s a) v

/-- `ensure PtRead(IDLE_ADDR) = HALT_OPCODE` (R530, R531). Log entry 11. -/
def ensureHalt (s : State) : State :=
  if ptRead s s.cfg.idleAddr = s.cfg.family.haltOpcode then s
  else poke s.cfg.idleAddr s.cfg.family.haltOpcode (ensureBacked s.cfg.idleAddr s)

end Sys2Proof.Machine
end

