-- ==== Sys2Proof/Machine/Nes.lean ====
section
/-! DEFINITION. The NESAPU: amplitudes and deltas, the voice timers, the frame sequencer, the register writes and the status
read (R420 to R456); and the part all chips share, the delta-encoded output (R423, R455). -/

namespace Sys2Proof.Machine

/-! ### The output of a voice, for every chip -/

/-- `Emit`: report amplitude `a` at time `t`, as a delta, if it changed and the voice has an output (R423). The calls on the
sink are held newest first. -/
def VoiceOut.emit (t a : Int) (v : VoiceOut) (k : List SinkCall) : VoiceOut × List SinkCall :=
  match v.output with
  | none => (v, k)
  | some ch => if a = v.lastAmp then (v, k) else ({ v with lastAmp := a }, .offset ch t (a - v.lastAmp) :: k)

/-- `set_output` (R455): `t` is the chip's `last_time`, `a` the voice's amplitude. -/
def VoiceOut.set (t a : Int) (o : Option Channel) (v : VoiceOut) (k : List SinkCall) : VoiceOut × List SinkCall :=
  match o, v.output with
  | none, none => (v, k)
  | none, some ch => (⟨0, none⟩, if v.lastAmp = 0 then k else .offset ch t (-v.lastAmp) :: k)
  | some ch, none => VoiceOut.emit t a ⟨0, some ch⟩ k
  | some ch, some _ => VoiceOut.emit t a { v with output := some ch } k

/-- Run a timer up to `stop`: `tick` at each due time, `period` read afresh after each tick (R425). The first argument is
fuel, the second the next due time; the result holds the first due time not before `stop`. -/
def runTimer {α : Type} (tick : Int → α → α) (period : α → Nat) (stop : Int) : Nat → Int → α → Int × α
  | 0, tt, x => (tt, x)
  | n + 1, tt, x =>
    if tt < stop then
      let y := tick tt x
      runTimer tick period stop n (tt + period y) y
    else (tt, x)

/-! ### Amplitudes (R422) -/

/-- `Target(p)`; `first` says that the pulse is pulse 1, which subtracts one more (R446). -/
def Pulse.target (first : Bool) (p : Pulse) : Int :=
  let shifted : Int := p.period.toNat / 2 ^ p.sweepShift.toNat
  if p.sweepNeg then p.period.toNat - shifted - (if first then 1 else 0) else p.period.toNat + shifted

/-- `SweepMute(p)` (R446). -/
def Pulse.mute (first : Bool) (p : Pulse) : Bool :=
  decide (p.period.toNat < 8) || (!p.sweepNeg && decide (0x7FF < p.target first))

/-- `vol(ch)` of a pulse (R422). -/
def Pulse.level (p : Pulse) : Nat := if p.constVol then p.vol.toNat else p.envDecay

/-- The amplitude of a pulse (R422). -/
def Pulse.amp (first : Bool) (p : Pulse) : Int :=
  if p.length = 0 ∨ p.mute first then 0
  else ((Config.dutyTable.getD p.duty.toNat []).getD p.dutyPhase 0) * p.level

/-- The amplitude of the triangle (R422). -/
def Triangle.amp (c : Triangle) : Int := Config.triSeq.getD c.seqPhase 0

/-- `vol(noise)` (R422). -/
def Noise.level (c : Noise) : Nat := if c.constVol then c.vol.toNat else c.envDecay

/-- The amplitude of the noise channel (R422). -/
def Noise.amp (c : Noise) : Int := if c.length = 0 ∨ c.lfsr.getLsbD 0 then 0 else c.level

/-- The amplitude of the DMC (R422). -/
def Dmc.amp (c : Dmc) : Int := c.dac.toNat

/-! ### `Emit` per voice (R423) -/

/-- `Emit` of a pulse. -/
def Pulse.emit (first : Bool) (t : Int) (x : Pulse × List SinkCall) : Pulse × List SinkCall :=
  let o := VoiceOut.emit t (x.1.amp first) x.1.out x.2
  ({ x.1 with out := o.1 }, o.2)

/-- `Emit` of the triangle. -/
def Triangle.emit (t : Int) (x : Triangle × List SinkCall) : Triangle × List SinkCall :=
  let o := VoiceOut.emit t x.1.amp x.1.out x.2
  ({ x.1 with out := o.1 }, o.2)

/-- `Emit` of the noise channel. -/
def Noise.emit (t : Int) (x : Noise × List SinkCall) : Noise × List SinkCall :=
  let o := VoiceOut.emit t x.1.amp x.1.out x.2
  ({ x.1 with out := o.1 }, o.2)

/-- `Emit` of the DMC. -/
def Dmc.emit (t : Int) (x : Dmc × List SinkCall) : Dmc × List SinkCall :=
  let o := VoiceOut.emit t x.1.amp x.1.out x.2
  ({ x.1 with out := o.1 }, o.2)

/-! ### The DMC's sample reader (R453) -/

/-- `DmcStart()`. -/
def Dmc.start (c : Dmc) : Dmc :=
  { c with
    curAddr := 0xC000 + BitVec.ofNat 16 (c.addrReg.toNat * 64)
    bytesLeft := c.lenReg.toNat * 16 + 1 }

/-- `DmcFill()`; `rd` reads the page table (R453). -/
def Dmc.fill (rd : Word → Byte) (c : Dmc) : Dmc :=
  if c.buffer.isNone ∧ 0 < c.bytesLeft then
    let c' := { c with
      buffer := some (rd c.curAddr)
      curAddr := if c.curAddr = 0xFFFF then 0x8000 else c.curAddr + 1
      bytesLeft := c.bytesLeft - 1 }
    if c'.bytesLeft = 0 then
      if c'.loop then c'.start
      else if c'.irqEnable then { c' with irqFlag := true } else c'
    else c'
  else c

/-! ### Ticks (R449 to R452) -/

/-- A pulse tick (R449). -/
def Pulse.tick (p : Pulse) : Pulse := { p with dutyPhase := (p.dutyPhase + 1) % 8 }

/-- A triangle tick (R450). -/
def Triangle.tick (c : Triangle) : Triangle :=
  if 0 < c.length ∧ 0 < c.linear then { c with seqPhase := (c.seqPhase + 1) % 32 } else c

/-- A noise tick (R451). -/
def Noise.tick (c : Noise) : Noise :=
  let fb := c.lfsr.getLsbD 0 ^^ (if c.mode then c.lfsr.getLsbD 6 else c.lfsr.getLsbD 1)
  { c with lfsr := (c.lfsr >>> 1) ||| (if fb then 0x4000 else 0) }

/-- The change of the level counter at a DMC tick (R452). -/
def Dmc.step (c : Dmc) : Dmc :=
  if c.silence then c
  else if bit c.shift 0 then
    (if c.dac.toNat ≤ 125 then { c with dac := c.dac + 2 } else c)
  else
    (if 2 ≤ c.dac.toNat then { c with dac := c.dac - 2 } else c)

/-- A DMC tick (R452). -/
def Dmc.tick (rd : Word → Byte) (c : Dmc) : Dmc :=
  let d := { c.step with shift := c.step.shift >>> 1, bitsLeft := c.step.bitsLeft - 1 }
  if d.bitsLeft = 0 then
    match d.buffer with
    | none => { d with bitsLeft := 8, silence := true }
    | some b => Dmc.fill rd { d with bitsLeft := 8, silence := false, shift := b, buffer := none }
  else d

/-! ### `AdvanceVoice` (R425) -/

/-- `TimerPeriod` of a pulse. -/
def Pulse.timerPeriod (p : Pulse) : Nat := (p.period.toNat + 1) * 2

/-- `TimerPeriod` of the triangle. -/
def Triangle.timerPeriod (c : Triangle) : Nat := c.period.toNat + 1

/-- `TimerPeriod` of the noise channel. -/
def Noise.timerPeriod (c : Noise) : Nat := Config.noisePeriod.getD c.periodIndex.toNat 1

/-- `TimerPeriod` of the DMC. -/
def Dmc.timerPeriod (c : Dmc) : Nat := Config.dmcRate.getD c.rateIndex.toNat 1

/-- Advance a pulse. -/
def Pulse.advance (first : Bool) (fr stop : Int) (x : Pulse × List SinkCall) : Pulse × List SinkCall :=
  let r := runTimer (fun t y => Pulse.emit first t (y.1.tick, y.2)) (fun y => y.1.timerPeriod) stop
    ((stop - fr).toNat + 1) (fr + x.1.delay) x
  ({ r.2.1 with delay := (r.1 - stop).toNat }, r.2.2)

/-- Advance the triangle. -/
def Triangle.advance (fr stop : Int) (x : Triangle × List SinkCall) : Triangle × List SinkCall :=
  let r := runTimer (fun t y => Triangle.emit t (y.1.tick, y.2)) (fun y => y.1.timerPeriod) stop
    ((stop - fr).toNat + 1) (fr + x.1.delay) x
  ({ r.2.1 with delay := (r.1 - stop).toNat }, r.2.2)

/-- Advance the noise channel. -/
def Noise.advance (fr stop : Int) (x : Noise × List SinkCall) : Noise × List SinkCall :=
  let r := runTimer (fun t y => Noise.emit t (y.1.tick, y.2)) (fun y => y.1.timerPeriod) stop
    ((stop - fr).toNat + 1) (fr + x.1.delay) x
  ({ r.2.1 with delay := (r.1 - stop).toNat }, r.2.2)

/-- Advance the DMC. -/
def Dmc.advance (rd : Word → Byte) (fr stop : Int) (x : Dmc × List SinkCall) : Dmc × List SinkCall :=
  let r := runTimer (fun t y => Dmc.emit t (y.1.tick rd, y.2)) (fun y => y.1.timerPeriod) stop
    ((stop - fr).toNat + 1) (fr + x.1.delay) x
  ({ r.2.1 with delay := (r.1 - stop).toNat }, r.2.2)

/-! ### All voices -/

/-- Advance the five voices in order (R424). -/
def Nes.advance (rd : Word → Byte) (fr stop : Int) (x : Nes × List SinkCall) : Nes × List SinkCall :=
  let p1 := Pulse.advance true fr stop (x.1.pulse1, x.2)
  let p2 := Pulse.advance false fr stop (x.1.pulse2, p1.2)
  let tr := Triangle.advance fr stop (x.1.triangle, p2.2)
  let no := Noise.advance fr stop (x.1.noise, tr.2)
  let dm := Dmc.advance rd fr stop (x.1.dmc, no.2)
  ({ x.1 with pulse1 := p1.1, pulse2 := p2.1, triangle := tr.1, noise := no.1, dmc := dm.1 }, dm.2)

/-- `Emit` of pulse 1. -/
def Nes.emitPulse1 (t : Int) (x : Nes × List SinkCall) : Nes × List SinkCall :=
  let o := Pulse.emit true t (x.1.pulse1, x.2)
  ({ x.1 with pulse1 := o.1 }, o.2)

/-- `Emit` of pulse 2. -/
def Nes.emitPulse2 (t : Int) (x : Nes × List SinkCall) : Nes × List SinkCall :=
  let o := Pulse.emit false t (x.1.pulse2, x.2)
  ({ x.1 with pulse2 := o.1 }, o.2)

/-- `Emit` of the triangle. -/
def Nes.emitTriangle (t : Int) (x : Nes × List SinkCall) : Nes × List SinkCall :=
  let o := Triangle.emit t (x.1.triangle, x.2)
  ({ x.1 with triangle := o.1 }, o.2)

/-- `Emit` of the noise channel. -/
def Nes.emitNoise (t : Int) (x : Nes × List SinkCall) : Nes × List SinkCall :=
  let o := Noise.emit t (x.1.noise, x.2)
  ({ x.1 with noise := o.1 }, o.2)

/-- `Emit` of the DMC. -/
def Nes.emitDmc (t : Int) (x : Nes × List SinkCall) : Nes × List SinkCall :=
  let o := Dmc.emit t (x.1.dmc, x.2)
  ({ x.1 with dmc := o.1 }, o.2)

/-- `Emit` of all five voices, in order. -/
def Nes.emitAll (t : Int) (x : Nes × List SinkCall) : Nes × List SinkCall :=
  Nes.emitDmc t (Nes.emitNoise t (Nes.emitTriangle t (Nes.emitPulse2 t (Nes.emitPulse1 t x))))

/-! ### The frame sequencer (R444 to R448) -/

/-- `ClockLength()` of a counter that a flag halts (R445). -/
def clockLength (halted : Bool) (n : Nat) : Nat := if !halted ∧ 0 < n then n - 1 else n

/-- `ClockSweep()` of a pulse (R446). -/
def Pulse.clockSweep (first : Bool) (p : Pulse) : Pulse :=
  let q := if p.sweepDiv = 0 ∧ p.sweepEn ∧ p.sweepShift ≠ 0 ∧ !p.mute first then
      { p with period := BitVec.ofNat 11 (p.target first).toNat }
    else p
  if q.sweepDiv = 0 ∨ q.sweepReload then { q with sweepDiv := q.sweepPeriod.toNat, sweepReload := false }
  else { q with sweepDiv := q.sweepDiv - 1 }

/-- The envelope unit of pulses and noise (R447), on `env_start`, `env_div`, `env_decay`. -/
def clockEnvelope (halt : Bool) (vol : Nat) : Bool × Nat × Nat → Bool × Nat × Nat
  | (true, _, _) => (false, vol, 15)
  | (false, 0, decay) => (false, vol, if 0 < decay then decay - 1 else if halt then 15 else decay)
  | (false, div + 1, decay) => (false, div, decay)

/-- `ClockEnvelopes()` of a pulse (R447). -/
def Pulse.clockEnv (p : Pulse) : Pulse :=
  let e := clockEnvelope p.halt p.vol.toNat (p.envStart, p.envDiv, p.envDecay)
  { p with envStart := e.1, envDiv := e.2.1, envDecay := e.2.2 }

/-- `ClockEnvelopes()` of the noise channel (R447). -/
def Noise.clockEnv (c : Noise) : Noise :=
  let e := clockEnvelope c.halt c.vol.toNat (c.envStart, c.envDiv, c.envDecay)
  { c with envStart := e.1, envDiv := e.2.1, envDecay := e.2.2 }

/-- `ClockLinear()` (R448). -/
def Triangle.clockLinear (c : Triangle) : Triangle :=
  { c with
    linear := if c.linearReload then c.linearLoad.toNat else c.linear - 1
    linearReload := c.control && c.linearReload }

/-- `ClockLength(); ClockSweep()` (R445, R446). -/
def Nes.clockHalf (n : Nes) : Nes :=
  { n with
    pulse1 := Pulse.clockSweep true { n.pulse1 with length := clockLength n.pulse1.halt n.pulse1.length }
    pulse2 := Pulse.clockSweep false { n.pulse2 with length := clockLength n.pulse2.halt n.pulse2.length }
    triangle := { n.triangle with length := clockLength n.triangle.control n.triangle.length }
    noise := { n.noise with length := clockLength n.noise.halt n.noise.length } }

/-- `ClockEnvelopes(); ClockLinear()` (R447, R448). -/
def Nes.clockQuarter (n : Nes) : Nes :=
  { n with
    pulse1 := n.pulse1.clockEnv
    pulse2 := n.pulse2.clockEnv
    triangle := n.triangle.clockLinear
    noise := n.noise.clockEnv }

/-- `FrameStep(tf)` (R444); its two constants are R421's. -/
def Nes.frameTick (p : NesConsts) (tf : Int) (x : Nes × List SinkCall) : Nes × List SinkCall :=
  let s := x.1.frameStep
  let n1 := if s = 0 ∧ !x.1.frameMode ∧ !x.1.irqInhibit then { x.1 with frameIrqFlag := true } else x.1
  let n2 := if s = 0 ∨ s = 2 then n1.clockHalf else n1
  let n3 := n2.clockQuarter
  Nes.emitAll tf
    ({ n3 with
      frameDelay := p.frameStepPeriod + (if s = 3 ∧ n3.frameMode then p.frameLongExtra else 0)
      frameStep := (s + 1) % 4 }, x.2)

/-- The loop of `run_until` (R424); the first number is fuel. -/
def Nes.runLoop (p : NesConsts) (rd : Word → Byte) (t : Int) : Nat → Nes × List SinkCall → Nes × List SinkCall
  | 0, x => x
  | n + 1, x =>
    let tf := x.1.lastTime + x.1.frameDelay
    let stop := min t tf
    let y := Nes.advance rd x.1.lastTime stop x
    let z : Nes × List SinkCall :=
      ({ y.1 with frameDelay := y.1.frameDelay - (stop - y.1.lastTime).toNat, lastTime := stop }, y.2)
    if stop = t then z else Nes.runLoop p rd t n (Nes.frameTick p stop z)

/-- `run_until(t)` for `t >= last_time` (R424). -/
def Nes.runUntil (p : NesConsts) (rd : Word → Byte) (t : Int) (x : Nes × List SinkCall) : Nes × List SinkCall :=
  Nes.runLoop p rd t ((t - x.1.lastTime).toNat + 2) x

/-! ### Register writes (R426 to R443) -/

/-- R427. -/
def Pulse.write0 (v : Byte) (p : Pulse) : Pulse :=
  { p with duty := v.extractLsb' 6 2, halt := bit v 5, constVol := bit v 4, vol := v.extractLsb' 0 4 }

/-- R428. -/
def Pulse.write1 (v : Byte) (p : Pulse) : Pulse :=
  { p with
    sweepEn := bit v 7
    sweepPeriod := v.extractLsb' 4 3
    sweepNeg := bit v 3
    sweepShift := v.extractLsb' 0 3
    sweepReload := true }

/-- The low eight bits of a period (R429, R432). -/
def periodLow (v : Byte) (p : BitVec 11) : BitVec 11 := p.extractLsb' 8 3 ++ v

/-- The high three bits of a period (R430, R433). -/
def periodHigh (v : Byte) (p : BitVec 11) : BitVec 11 := v.extractLsb' 0 3 ++ p.extractLsb' 0 8

/-- `LENGTH_TABLE[v[7:3]]`. -/
def lengthEntry (v : Byte) : Nat := Config.lengthTable.getD (v.extractLsb' 3 5).toNat 0

/-- R429. -/
def Pulse.write2 (v : Byte) (p : Pulse) : Pulse := { p with period := periodLow v p.period }

/-- R430. -/
def Pulse.write3 (v : Byte) (p : Pulse) : Pulse :=
  { p with
    period := periodHigh v p.period
    length := if p.enabled then lengthEntry v else p.length
    envStart := true
    dutyPhase := 0 }

/-- R431. -/
def Triangle.write0 (v : Byte) (c : Triangle) : Triangle :=
  { c with control := bit v 7, linearLoad := v.extractLsb' 0 7 }

/-- R432. -/
def Triangle.write2 (v : Byte) (c : Triangle) : Triangle := { c with period := periodLow v c.period }

/-- R433. -/
def Triangle.write3 (v : Byte) (c : Triangle) : Triangle :=
  { c with
    period := periodHigh v c.period
    length := if c.enabled then lengthEntry v else c.length
    linearReload := true }

/-- R434. -/
def Noise.write0 (v : Byte) (c : Noise) : Noise :=
  { c with halt := bit v 5, constVol := bit v 4, vol := v.extractLsb' 0 4 }

/-- R435. -/
def Noise.write2 (v : Byte) (c : Noise) : Noise := { c with mode := bit v 7, periodIndex := v.extractLsb' 0 4 }

/-- R436. -/
def Noise.write3 (v : Byte) (c : Noise) : Noise :=
  { c with length := if c.enabled then lengthEntry v else c.length, envStart := true }

/-- R437. -/
def Dmc.write0 (v : Byte) (c : Dmc) : Dmc :=
  { c with
    irqEnable := bit v 7
    loop := bit v 6
    rateIndex := v.extractLsb' 0 4
    irqFlag := bit v 7 && c.irqFlag }

/-- R438. -/
def Dmc.write1 (v : Byte) (c : Dmc) : Dmc := { c with dac := v.extractLsb' 0 7 }

/-- The DMC's part of a write of `0x4015` (R440). -/
def Dmc.enable (rd : Word → Byte) (on : Bool) (c : Dmc) : Dmc :=
  let c' := { c with irqFlag := false }
  if !on then { c' with bytesLeft := 0 }
  else if c'.bytesLeft = 0 then Dmc.fill rd c'.start else c'

/-- Write `0x4015` (R440). -/
def Nes.writeEnable (rd : Word → Byte) (v : Byte) (n : Nes) : Nes :=
  { n with
    pulse1 := { n.pulse1 with enabled := bit v 0, length := if bit v 0 then n.pulse1.length else 0 }
    pulse2 := { n.pulse2 with enabled := bit v 1, length := if bit v 1 then n.pulse2.length else 0 }
    triangle := { n.triangle with enabled := bit v 2, length := if bit v 2 then n.triangle.length else 0 }
    noise := { n.noise with enabled := bit v 3, length := if bit v 3 then n.noise.length else 0 }
    dmc := Dmc.enable rd (bit v 4) n.dmc }

/-- Write `0x4017` (R442). -/
def Nes.writeFrame (p : NesConsts) (v : Byte) (n : Nes) : Nes :=
  { n with
    frameMode := bit v 7
    irqInhibit := bit v 6
    frameIrqFlag := !bit v 6 && n.frameIrqFlag
    frameStep := if bit v 7 then 0 else 1
    frameDelay := if bit v 7 then 0 else p.frameStepPeriod }

/-- What a register write does after `run_until(t)`, with the voices it re-emits (the table of R426). -/
def Nes.applyWrite (p : NesConsts) (rd : Word → Byte) (t : Int) (a : Nat) (v : Byte)
    (x : Nes × List SinkCall) : Nes × List SinkCall :=
  let n := x.1
  match a with
  | 0x4000 => Nes.emitPulse1 t ({ n with pulse1 := n.pulse1.write0 v }, x.2)
  | 0x4001 => Nes.emitPulse1 t ({ n with pulse1 := n.pulse1.write1 v }, x.2)
  | 0x4002 => Nes.emitPulse1 t ({ n with pulse1 := n.pulse1.write2 v }, x.2)
  | 0x4003 => Nes.emitPulse1 t ({ n with pulse1 := n.pulse1.write3 v }, x.2)
  | 0x4004 => Nes.emitPulse2 t ({ n with pulse2 := n.pulse2.write0 v }, x.2)
  | 0x4005 => Nes.emitPulse2 t ({ n with pulse2 := n.pulse2.write1 v }, x.2)
  | 0x4006 => Nes.emitPulse2 t ({ n with pulse2 := n.pulse2.write2 v }, x.2)
  | 0x4007 => Nes.emitPulse2 t ({ n with pulse2 := n.pulse2.write3 v }, x.2)
  | 0x4008 => Nes.emitTriangle t ({ n with triangle := n.triangle.write0 v }, x.2)
  | 0x400A => Nes.emitTriangle t ({ n with triangle := n.triangle.write2 v }, x.2)
  | 0x400B => Nes.emitTriangle t ({ n with triangle := n.triangle.write3 v }, x.2)
  | 0x400C => Nes.emitNoise t ({ n with noise := n.noise.write0 v }, x.2)
  | 0x400E => Nes.emitNoise t ({ n with noise := n.noise.write2 v }, x.2)
  | 0x400F => Nes.emitNoise t ({ n with noise := n.noise.write3 v }, x.2)
  | 0x4010 => Nes.emitDmc t ({ n with dmc := n.dmc.write0 v }, x.2)
  | 0x4011 => Nes.emitDmc t ({ n with dmc := n.dmc.write1 v }, x.2)
  | 0x4012 => ({ n with dmc := { n.dmc with addrReg := v } }, x.2)
  | 0x4013 => ({ n with dmc := { n.dmc with lenReg := v } }, x.2)
  | 0x4015 => Nes.emitAll t (n.writeEnable rd v, x.2)
  | 0x4017 => (n.writeFrame p v, x.2)
  | _ => x

/-- `run_until(t)` for `t >= last_time` (R424). -/
def nesAdvance (t : Int) (s : State) : State :=
  let x := Nes.runUntil s.cfg.nesConsts (ptRead s) t (s.nes, s.sink)
  { s with nes := x.1, sink := x.2 }

/-- What a register write does once the chip has reached its time `t` (the table of R426). -/
def nesStore (t : Int) (a : Word) (v : Byte) (s : State) : State :=
  let y := Nes.applyWrite s.cfg.nesConsts (ptRead s) t a.toNat v (s.nes, s.sink)
  { s with nes := y.1, sink := y.2 }

/-- `write_register(t, addr, v)` (R426). For a `t` before the chip's time see `lateCall` (R424, U9; log entry 10). -/
def nesWrite (t : Int) (a : Word) (v : Byte) (s : State) : State :=
  if t < s.nes.lastTime then lateCall (nesStore s.nes.lastTime a v) s else nesStore t a v (nesAdvance t s)

/-- The byte `read_status` returns (R441). -/
def Nes.status (n : Nes) : Byte :=
  byteOfBits n.dmc.irqFlag n.frameIrqFlag false (decide (0 < n.dmc.bytesLeft)) (decide (0 < n.noise.length))
    (decide (0 < n.triangle.length)) (decide (0 < n.pulse2.length)) (decide (0 < n.pulse1.length))

/-- The status byte and the clearing of the frame flag, once the chip has reached the time of the read (R441). -/
def nesStatusRead (s : State) : Byte × State :=
  (s.nes.status, { s with nes := { s.nes with frameIrqFlag := false } })

/-- `read_status(t)` (R441). A read at a time before the chip's is done at the chip's time with a warning (R424, U9), or is
ignored with a warning (R571, R622); the byte an ignored read returns is stated nowhere and is a free value (log entry
10). -/
def nesReadStatus (t : Int) (s : State) : Byte × State :=
  if t < s.nes.lastTime then
    match s.cfg.lateCalls with
    | .atChipTime => nesStatusRead (warn "time went backwards" s)
    | .ignored => (Config.freeByte s.draws, warn "time went backwards" { s with draws := s.draws + 1 })
  else nesStatusRead (nesAdvance t s)

/-- `NESAPU.end_frame(t)` (R454). -/
def nesEndFrame (t : Int) (s : State) : State :=
  let u := if s.nes.lastTime < t then nesAdvance t s else s
  { u with nes := { u.nes with lastTime := u.nes.lastTime - t } }

/-- `NESAPU.set_output(voice, s)` (R455); voices beyond the fifth do not exist (U2). -/
def Nes.setOutput (voice : Nat) (o : Option Channel) (x : Nes × List SinkCall) : Nes × List SinkCall :=
  let n := x.1
  match voice with
  | 0 => let r := VoiceOut.set n.lastTime (n.pulse1.amp true) o n.pulse1.out x.2
         ({ n with pulse1 := { n.pulse1 with out := r.1 } }, r.2)
  | 1 => let r := VoiceOut.set n.lastTime (n.pulse2.amp false) o n.pulse2.out x.2
         ({ n with pulse2 := { n.pulse2 with out := r.1 } }, r.2)
  | 2 => let r := VoiceOut.set n.lastTime n.triangle.amp o n.triangle.out x.2
         ({ n with triangle := { n.triangle with out := r.1 } }, r.2)
  | 3 => let r := VoiceOut.set n.lastTime n.noise.amp o n.noise.out x.2
         ({ n with noise := { n.noise with out := r.1 } }, r.2)
  | 4 => let r := VoiceOut.set n.lastTime n.dmc.amp o n.dmc.out x.2
         ({ n with dmc := { n.dmc with out := r.1 } }, r.2)
  | _ => x

end Sys2Proof.Machine
end

