-- ==== Sys2Proof/Machine/Ay.lean ====
section
/-! DEFINITION. The AY-3-8910 with the beeper: tone, noise and envelope generators, register writes, the port decoder
(R470 to R493). -/

namespace Sys2Proof.Machine

/-! ### Registers (R471) -/

/-- `reg[r]`. -/
def Ay.reg (c : Ay) (r : Nat) : Byte := c.regs.getD r 0

/-- The bits kept on a write of register `r` (R471). -/
def ayMask (r : Nat) : Byte := [0xFF, 0x0F, 0xFF, 0x0F, 0xFF, 0x0F, 0x1F, 0xFF, 0x1F, 0x1F, 0x1F, 0xFF, 0xFF, 0x0F, 0xFF, 0xFF].getD r 0

/-- `TP(i)` (R473). -/
def Ay.tonePeriod (c : Ay) (i : Nat) : Nat := (c.reg (2 * i + 1)).toNat * 256 + (c.reg (2 * i)).toNat

/-- The reload period of tone `i` (R475). -/
def Ay.toneReload (p : AyConsts) (c : Ay) (i : Nat) : Nat := max (c.tonePeriod i) 1 * p.tick

/-- The reload period of the noise generator (R475). -/
def Ay.noiseReload (p : AyConsts) (c : Ay) : Nat := max (c.reg 6).toNat 1 * 2 * p.tick

/-- The reload period of the envelope generator (R475). -/
def Ay.envReload (p : AyConsts) (c : Ay) : Nat := max ((c.reg 12).toNat * 256 + (c.reg 11).toNat) 1 * 2 * p.tick

/-! ### Amplitudes (R473, R479) -/

/-- `EnvLevel()` (R479). -/
def Ay.envLevel (c : Ay) : Nat :=
  let cont := bit (c.reg 13) 3
  let att := bit (c.reg 13) 2
  let alt := bit (c.reg 13) 1
  if c.envHold then (if !cont then 0 else if att != alt then 15 else 0)
  else
    let k := c.envStep % 16
    if att ^^ (alt && decide (16 ≤ c.envStep)) then k else 15 - k

/-- `level(i)` (R473). -/
def Ay.level (c : Ay) (i : Nat) : Nat :=
  if bit (c.reg (8 + i)) 4 then c.envLevel else ((c.reg (8 + i)).extractLsb' 0 4).toNat

/-- `on(i)`, given the phase of the tone (R473). -/
def Ay.isOn (c : Ay) (i : Nat) (phase : Bool) : Bool :=
  (phase || bit (c.reg 7) i) && (c.noiseLfsr.getLsbD 0 || bit (c.reg 7) (3 + i))

/-- `amp(i)` (R473). -/
def Ay.amp (p : AyConsts) (c : Ay) (i : Nat) (phase : Bool) : Int :=
  if c.isOn i phase then p.amp.getD (c.level i) 0 else 0

/-- The amplitude of the beeper (R473). -/
def Ay.beeperAmp (p : AyConsts) (c : Ay) : Int := if c.beeperBit then p.beeperAmp else 0

/-- `Emit(i, t)` for `i` in 0, 1, 2. -/
def Ay.emitAll (p : AyConsts) (t : Int) (x : Ay × List SinkCall) : Ay × List SinkCall :=
  let c := x.1
  let a := VoiceOut.emit t (c.amp p 0 c.toneA.phase) c.toneA.out x.2
  let b := VoiceOut.emit t (c.amp p 1 c.toneB.phase) c.toneB.out a.2
  let d := VoiceOut.emit t (c.amp p 2 c.toneC.phase) c.toneC.out b.2
  ({ c with
     toneA := { c.toneA with out := a.1 }
     toneB := { c.toneB with out := b.1 }
     toneC := { c.toneC with out := d.1 } }, d.2)

/-! ### Advancing time (R474 to R478) -/

/-- Subtract from all five delays and move `last_time` (R474). -/
def Ay.elapse (d : Nat) (c : Ay) : Ay :=
  { c with
    toneA := { c.toneA with delay := c.toneA.delay - d }
    toneB := { c.toneB with delay := c.toneB.delay - d }
    toneC := { c.toneC with delay := c.toneC.delay - d }
    noiseDelay := c.noiseDelay - d
    envDelay := c.envDelay - d
    lastTime := c.lastTime + d }

/-- The least of the five delays (R474). -/
def Ay.nextDelay (c : Ay) : Nat :=
  min c.toneA.delay (min c.toneB.delay (min c.toneC.delay (min c.noiseDelay c.envDelay)))

/-- A tone timer whose delay is 0 ticks and reloads (R474, R476). -/
def AyTone.due (reload : Nat) (v : AyTone) : AyTone :=
  if v.delay = 0 then { v with phase := !v.phase, delay := reload } else v

/-- The noise timer (R474, R477). -/
def Ay.noiseDue (p : AyConsts) (c : Ay) : Ay :=
  if c.noiseDelay = 0 then
    { c with
      noiseLfsr := (c.noiseLfsr >>> 1) ||| (if c.noiseLfsr.getLsbD 0 ^^ c.noiseLfsr.getLsbD 3 then 0x10000 else 0)
      noiseDelay := c.noiseReload p }
  else c

/-- An envelope tick (R478). -/
def Ay.envTick (c : Ay) : Ay :=
  if c.envHold then c
  else
    let s := c.envStep + 1
    if s = 16 then
      if !bit (c.reg 13) 3 || bit (c.reg 13) 0 then { c with envStep := s, envHold := true }
      else if !bit (c.reg 13) 1 then { c with envStep := 0 }
      else { c with envStep := s }
    else if s = 32 then { c with envStep := 0 }
    else { c with envStep := s }

/-- The envelope timer (R474). -/
def Ay.envDue (p : AyConsts) (c : Ay) : Ay := if c.envDelay = 0 then { c.envTick with envDelay := c.envReload p } else c

/-- Tick every timer whose delay is 0, in the order of R474. -/
def Ay.due (p : AyConsts) (c : Ay) : Ay :=
  Ay.envDue p (Ay.noiseDue p
    { c with
      toneA := c.toneA.due (c.toneReload p 0)
      toneB := c.toneB.due (c.toneReload p 1)
      toneC := c.toneC.due (c.toneReload p 2) })

/-- The loop of `AY.run_until` (R474); the first number is fuel. -/
def Ay.runLoop (p : AyConsts) (t : Int) : Nat → Ay × List SinkCall → Ay × List SinkCall
  | 0, x => x
  | n + 1, x =>
    let d := x.1.nextDelay
    if t ≤ x.1.lastTime + d then x
    else
      let c := (x.1.elapse d).due p
      Ay.runLoop p t n (Ay.emitAll p c.lastTime (c, x.2))

/-- `AY.run_until(t)` for `t >= last_time` (R474). -/
def Ay.runUntil (p : AyConsts) (t : Int) (x : Ay × List SinkCall) : Ay × List SinkCall :=
  let y := Ay.runLoop p t ((t - x.1.lastTime).toNat + 2) x
  (y.1.elapse (t - y.1.lastTime).toNat, y.2)

/-! ### Register writes (R480 to R487) -/

/-- The stored byte and the extra effect of a write: register 13 restarts the envelope (R471, R486). -/
def Ay.store (p : AyConsts) (r : Nat) (v : Byte) (c : Ay) : Ay :=
  let d := { c with regs := c.regs.set r (v &&& ayMask r) }
  if r = 13 then { d with envStep := 0, envHold := false, envDelay := d.envReload p } else d

/-- `AY.run_until(t)` for `t >= last_time` (R474). -/
def ayAdvance (t : Int) (s : State) : State :=
  let x := Ay.runUntil s.cfg.ayConsts t (s.ay, s.sink)
  { s with ay := x.1, sink := x.2 }

/-- What a register write does once the chip has reached its time `t` (R480). -/
def ayStore (t : Int) (r : Nat) (v : Byte) (s : State) : State :=
  let y := Ay.emitAll s.cfg.ayConsts t (s.ay.store s.cfg.ayConsts r v, s.sink)
  { s with ay := y.1, sink := y.2 }

/-- `AY.write_register(t, r, v)` (R480). For a `t` before the chip's time see `lateCall` (R474, U9; log entry 10). -/
def ayWrite (t : Int) (r : Nat) (v : Byte) (s : State) : State :=
  if 15 < r then s
  else if t < s.ay.lastTime then lateCall (ayStore s.ay.lastTime r v) s
  else ayStore t r v (ayAdvance t s)

/-- `BeeperWrite(t, v)` (R491). -/
def ayBeeper (t : Int) (v : Byte) (s : State) : State :=
  let c := { s.ay with beeperBit := bit v 4 }
  let o := VoiceOut.emit t (c.beeperAmp s.cfg.ayConsts) c.beeper s.sink
  { s with ay := { c with beeper := o.1 }, sink := o.2 }

/-- `ay_mode <- m`. -/
def aySetMode (m : AyMode) (s : State) : State := { s with ay := { s.ay with mode := m } }

/-- `addr_latch <- v & 0x0F`. -/
def ayLatch (v : Byte) (s : State) : State := { s with ay := { s.ay with addrLatch := v.extractLsb' 0 4 } }

/-- The CPC half of `AY.port_write` (R490). -/
def ayPortCpc (t : Int) (port : Word) (v : Byte) (s : State) : State :=
  if hi8 port = 0xF6 then
    let s := aySetMode .cpc s
    if v &&& 0xC0 = 0xC0 then ayLatch s.ay.cpcLatch s
    else if v &&& 0xC0 = 0x80 then ayWrite t s.ay.addrLatch.toNat s.ay.cpcLatch s
    else s
  else if hi8 port = 0xF4 then
    let s := aySetMode .cpc s
    { s with ay := { s.ay with cpcLatch := v } }
  else s

/-- `AY.port_write(t, port, v)` (R490). -/
def ayPortWrite (t : Int) (port : Word) (v : Byte) (s : State) : State :=
  if s.ay.mode ≠ .cpc ∧ port &&& 0x00FF = 0x00FE then ayBeeper t v (aySetMode .spectrum s)
  else if s.ay.mode ≠ .cpc ∧ port &&& 0xFEFF = 0xFEFD then ayLatch v (aySetMode .spectrum s)
  else if s.ay.mode ≠ .cpc ∧ port &&& 0xFEFF = 0xBEFD then ayWrite t s.ay.addrLatch.toNat v (aySetMode .spectrum s)
  else if s.ay.mode ≠ .spectrum then ayPortCpc t port v s
  else s

/-- `AY.end_frame(t)` (R488). -/
def ayEndFrame (t : Int) (s : State) : State :=
  let u := if s.ay.lastTime < t then ayAdvance t s else s
  { u with ay := { u.ay with lastTime := u.ay.lastTime - t } }

/-- `AY.set_output(voice, s)` (R489); voices beyond the fourth do not exist (U2). -/
def Ay.setOutput (p : AyConsts) (voice : Nat) (o : Option Channel) (x : Ay × List SinkCall) : Ay × List SinkCall :=
  let c := x.1
  match voice with
  | 0 => let r := VoiceOut.set c.lastTime (c.amp p 0 c.toneA.phase) o c.toneA.out x.2
         ({ c with toneA := { c.toneA with out := r.1 } }, r.2)
  | 1 => let r := VoiceOut.set c.lastTime (c.amp p 1 c.toneB.phase) o c.toneB.out x.2
         ({ c with toneB := { c.toneB with out := r.1 } }, r.2)
  | 2 => let r := VoiceOut.set c.lastTime (c.amp p 2 c.toneC.phase) o c.toneC.out x.2
         ({ c with toneC := { c.toneC with out := r.1 } }, r.2)
  | 3 => let r := VoiceOut.set c.lastTime (c.beeperAmp p) o c.beeper x.2
         ({ c with beeper := r.1 }, r.2)
  | _ => x

end Sys2Proof.Machine
end

