-- ==== Sys2Proof/Machine/Pokey.lean ====
section
/-! DEFINITION. The POKEY: the four dividers, the polynomial counters, the high-pass latches and the register writes
(R500 to R514). -/

namespace Sys2Proof.Machine

/-! ### Periods (R502) -/

/-- `div` (R502). -/
def Pokey.baseDiv (p : PokeyConsts) (c : Pokey) : Nat := if bit c.audctl 0 then p.div15k else p.div64k

/-- The period of a low channel (1 or 3), given the bit of `AUDCTL` that puts it on the CPU clock. -/
def Pokey.lowPeriod (p : PokeyConsts) (c : Pokey) (audf : Byte) (fast : Bool) : Nat :=
  if fast then audf.toNat + 4 else (audf.toNat + 1) * c.baseDiv p

/-- The period of a high channel (2 or 4): `lo` is the `audf` of the channel below, `join` the bit that joins the pair,
`fast` the clock of the channel below. -/
def Pokey.highPeriod (p : PokeyConsts) (c : Pokey) (audf lo : Byte) (join fast : Bool) : Nat :=
  if !join then (audf.toNat + 1) * c.baseDiv p
  else if fast then audf.toNat * 256 + lo.toNat + 7
  else (audf.toNat * 256 + lo.toNat + 1) * c.baseDiv p

/-- `Period(1)`. -/
def Pokey.period1 (p : PokeyConsts) (c : Pokey) : Nat := c.lowPeriod p c.ch1.audf (bit c.audctl 6)

/-- `Period(2)`. -/
def Pokey.period2 (p : PokeyConsts) (c : Pokey) : Nat := c.highPeriod p c.ch2.audf c.ch1.audf (bit c.audctl 4) (bit c.audctl 6)

/-- `Period(3)`. -/
def Pokey.period3 (p : PokeyConsts) (c : Pokey) : Nat := c.lowPeriod p c.ch3.audf (bit c.audctl 5)

/-- `Period(4)`. -/
def Pokey.period4 (p : PokeyConsts) (c : Pokey) : Nat := c.highPeriod p c.ch4.audf c.ch3.audf (bit c.audctl 3) (bit c.audctl 5)

/-! ### Amplitudes (R511) -/

/-- `amp(i)`, given the high-pass latch and whether the filter is on. -/
def PokeyCh.amp (filt hp : Bool) (v : PokeyCh) : Int :=
  if bit v.audc 4 || (if filt then v.ff ^^ hp else v.ff) then (v.audc.extractLsb' 0 4).toNat else 0

/-- `amp(1)`. -/
def Pokey.amp1 (c : Pokey) : Int := c.ch1.amp (bit c.audctl 2) c.hp1

/-- `amp(2)`. -/
def Pokey.amp2 (c : Pokey) : Int := c.ch2.amp (bit c.audctl 1) c.hp2

/-- `amp(3)`. -/
def Pokey.amp3 (c : Pokey) : Int := c.ch3.amp false false

/-- `amp(4)`. -/
def Pokey.amp4 (c : Pokey) : Int := c.ch4.amp false false

/-- `Emit(i, t)` for `i = 1..4`. -/
def Pokey.emitAll (t : Int) (x : Pokey × List SinkCall) : Pokey × List SinkCall :=
  let c := x.1
  let o1 := VoiceOut.emit t c.amp1 c.ch1.out x.2
  let o2 := VoiceOut.emit t c.amp2 c.ch2.out o1.2
  let o3 := VoiceOut.emit t c.amp3 c.ch3.out o2.2
  let o4 := VoiceOut.emit t c.amp4 c.ch4.out o3.2
  ({ c with
     ch1 := { c.ch1 with out := o1.1 }
     ch2 := { c.ch2 with out := o2.1 }
     ch3 := { c.ch3 with out := o3.1 }
     ch4 := { c.ch4 with out := o4.1 } }, o4.2)

/-! ### Advancing time (R503, R504) -/

/-- The flip-flop after an underflow (R504). -/
def Pokey.flip (p : PokeyConsts) (c : Pokey) (v : PokeyCh) : Bool :=
  if bit v.audc 7 || p.poly5.bit c.polyPos then
    if bit v.audc 5 then !v.ff
    else if bit v.audc 6 then p.poly4.bit c.polyPos
    else if bit c.audctl 7 then p.poly9.bit c.polyPos
    else p.poly17.bit c.polyPos
  else v.ff

/-- Channel 1 underflows if its delay is 0 (R503, R504). -/
def Pokey.due1 (p : PokeyConsts) (c : Pokey) : Pokey :=
  if c.ch1.delay = 0 then { c with ch1 := { c.ch1 with ff := c.flip p c.ch1, delay := c.period1 p } } else c

/-- Channel 2 underflows if its delay is 0 (R503, R504). -/
def Pokey.due2 (p : PokeyConsts) (c : Pokey) : Pokey :=
  if c.ch2.delay = 0 then { c with ch2 := { c.ch2 with ff := c.flip p c.ch2, delay := c.period2 p } } else c

/-- Channel 3, which also clocks channel 1's high-pass latch (R503, R504). -/
def Pokey.due3 (p : PokeyConsts) (c : Pokey) : Pokey :=
  if c.ch3.delay = 0 then
    { c with
      ch3 := { c.ch3 with ff := c.flip p c.ch3, delay := c.period3 p }
      hp1 := if bit c.audctl 2 then c.ch1.ff else c.hp1 }
  else c

/-- Channel 4, which also clocks channel 2's high-pass latch (R503, R504). -/
def Pokey.due4 (p : PokeyConsts) (c : Pokey) : Pokey :=
  if c.ch4.delay = 0 then
    { c with
      ch4 := { c.ch4 with ff := c.flip p c.ch4, delay := c.period4 p }
      hp2 := if bit c.audctl 1 then c.ch2.ff else c.hp2 }
  else c

/-- Subtract from the four delays; move `poly_pos` and `last_time` (R503). -/
def Pokey.elapse (d : Nat) (c : Pokey) : Pokey :=
  { c with
    ch1 := { c.ch1 with delay := c.ch1.delay - d }
    ch2 := { c.ch2 with delay := c.ch2.delay - d }
    ch3 := { c.ch3 with delay := c.ch3.delay - d }
    ch4 := { c.ch4 with delay := c.ch4.delay - d }
    polyPos := c.polyPos + d
    lastTime := c.lastTime + d }

/-- The least of the four delays (R503). -/
def Pokey.nextDelay (c : Pokey) : Nat :=
  min c.ch1.delay (min c.ch2.delay (min c.ch3.delay c.ch4.delay))

/-- The loop of `POKEY.run_until` (R503); the first number is fuel. -/
def Pokey.runLoop (p : PokeyConsts) (t : Int) : Nat → Pokey × List SinkCall → Pokey × List SinkCall
  | 0, x => x
  | n + 1, x =>
    let d := x.1.nextDelay
    if t ≤ x.1.lastTime + d then x
    else
      let c := ((((x.1.elapse d).due1 p).due2 p).due3 p).due4 p
      Pokey.runLoop p t n (Pokey.emitAll c.lastTime (c, x.2))

/-- `POKEY.run_until(t)` for `t >= last_time` (R503). -/
def Pokey.runUntil (p : PokeyConsts) (t : Int) (x : Pokey × List SinkCall) : Pokey × List SinkCall :=
  let y := Pokey.runLoop p t ((t - x.1.lastTime).toNat + 2) x
  (y.1.elapse (t - y.1.lastTime).toNat, y.2)

/-! ### Register writes (R505 to R510) -/

/-- `STIMER`: every divider reloads (R509). -/
def Pokey.restart (p : PokeyConsts) (c : Pokey) : Pokey :=
  { c with
    ch1 := { c.ch1 with delay := c.period1 p }
    ch2 := { c.ch2 with delay := c.period2 p }
    ch3 := { c.ch3 with delay := c.period3 p }
    ch4 := { c.ch4 with delay := c.period4 p } }

/-- What a write of register `r` stores (the table of R505). -/
def Pokey.store (p : PokeyConsts) (r : Nat) (v : Byte) (c : Pokey) : Pokey :=
  match r with
  | 0 => { c with ch1 := { c.ch1 with audf := v } }
  | 1 => { c with ch1 := { c.ch1 with audc := v } }
  | 2 => { c with ch2 := { c.ch2 with audf := v } }
  | 3 => { c with ch2 := { c.ch2 with audc := v } }
  | 4 => { c with ch3 := { c.ch3 with audf := v } }
  | 5 => { c with ch3 := { c.ch3 with audc := v } }
  | 6 => { c with ch4 := { c.ch4 with audf := v } }
  | 7 => { c with ch4 := { c.ch4 with audc := v } }
  | 8 => { c with audctl := v }
  | 9 => c.restart p
  | _ => c

/-- `POKEY.run_until(t)` for `t >= last_time` (R503). -/
def pokeyAdvance (t : Int) (s : State) : State :=
  let x := Pokey.runUntil s.cfg.pokeyConsts t (s.pokey, s.sink)
  { s with pokey := x.1, sink := x.2 }

/-- What a write of register `r` does once the chip has reached its time `t` (R505). -/
def pokeyStore (t : Int) (r : Nat) (v : Byte) (s : State) : State :=
  let y := Pokey.emitAll t (s.pokey.store s.cfg.pokeyConsts r v, s.sink)
  { s with pokey := y.1, sink := y.2 }

/-- `POKEY.write_register(t, addr, v)` (R505). For a `t` before the chip's time see `lateCall` (R503, U9; log entry 10). -/
def pokeyWrite (t : Int) (a : Word) (v : Byte) (s : State) : State :=
  if a.toNat < 0xD200 ∨ 0xD20F < a.toNat then s
  else if t < s.pokey.lastTime then lateCall (pokeyStore s.pokey.lastTime (a.toNat - 0xD200) v) s
  else pokeyStore t (a.toNat - 0xD200) v (pokeyAdvance t s)

/-- `POKEY.end_frame(t)` (R512). -/
def pokeyEndFrame (t : Int) (s : State) : State :=
  let u := if s.pokey.lastTime < t then pokeyAdvance t s else s
  { u with pokey := { u.pokey with lastTime := u.pokey.lastTime - t } }

/-- `POKEY.set_output(voice, s)` (R513); voices beyond the fourth do not exist (U2). -/
def Pokey.setOutput (voice : Nat) (o : Option Channel) (x : Pokey × List SinkCall) : Pokey × List SinkCall :=
  let c := x.1
  match voice with
  | 0 => let r := VoiceOut.set c.lastTime c.amp1 o c.ch1.out x.2
         ({ c with ch1 := { c.ch1 with out := r.1 } }, r.2)
  | 1 => let r := VoiceOut.set c.lastTime c.amp2 o c.ch2.out x.2
         ({ c with ch2 := { c.ch2 with out := r.1 } }, r.2)
  | 2 => let r := VoiceOut.set c.lastTime c.amp3 o c.ch3.out x.2
         ({ c with ch3 := { c.ch3 with out := r.1 } }, r.2)
  | 3 => let r := VoiceOut.set c.lastTime c.amp4 o c.ch4.out x.2
         ({ c with ch4 := { c.ch4 with out := r.1 } }, r.2)
  | _ => x

end Sys2Proof.Machine
end

