-- ==== Sys2Proof/Machine/Ops.lean ====
section
/-! DEFINITION. The named operations every instruction is written in: data and port accesses with their handlers, the two
stacks, the frame of one instruction (R153), the illegal-opcode path (R158), the halts (R159, R160), and the preemption and
resumption of a guest routine (R541, R584). -/

namespace Sys2Proof.Machine

/-! ### Data and port accesses (R80 to R85) -/

/-- The read handler whose range contains an address, if any (R80). -/
def readHandler (c : Cfg) (a : Word) : Option ReadHandler :=
  (c.readRanges.find? fun r => decide (r.lo ≤ a.toNat) && decide (a.toNat ≤ r.hi)).map ReadRange.handler

/-- The write handler whose range contains an address, if any (R81). -/
def writeHandler (c : Cfg) (a : Word) : Option WriteHandler :=
  (c.writeRanges.find? fun r => decide (r.lo ≤ a.toNat) && decide (a.toNat ≤ r.hi)).map WriteRange.handler

/-- What a callback does to the CPU core: it may set `end_time` (R165); `set_time`, `run` and `start_track` are refused
(R169, R579, U15; log entry 17). -/
def runCallback (c : Callback) (s : State) : State :=
  match c with
  | .setEndTime t => { s with endTime := t }
  | .setTime _ => refuse .setTimeInCallback s
  | .run => refuse .callInCallback s
  | .startTrack => refuse .callInCallback s

/-- `MemRead(addr, 1)`: the byte and the state after the access (R80). -/
def memRead (a : Word) (s : State) : Byte × State :=
  match readHandler s.cfg a with
  | some .nesStatus => nesReadStatus s.time s
  | some (.callback c answer) => (answer, runCallback c s)
  | none => (ptRead s a, s)

/-- `MemWrite(addr, 1, v)` (R81, R88). -/
def memWrite (a : Word) (v : Byte) (s : State) : State :=
  match writeHandler s.cfg a with
  | some .nesWrite => nesWrite s.time a v s
  | some .pokeyWrite => ptWrite (pokeyWrite s.time a v s) a v
  | some (.bank window size rom missing) => bankSelect window size rom missing v s
  | some (.callback c) => runCallback c s
  | none => ptWrite s a v

/-- `MemRead(addr, 2)`: low byte first, the second byte at `(addr + 1) & 0xFFFF` (R11). -/
def memRead16 (a : Word) (s : State) : Word × State :=
  let lo := memRead a s
  let hi := memRead (a + 1) lo.2
  (word lo.1 hi.1, hi.2)

/-- `MemWrite(addr, 2, v)`: low byte first (R11). -/
def memWrite16 (a v : Word) (s : State) : State := memWrite (a + 1) (hi8 v) (memWrite a (lo8 v) s)

/-- `PortIn(port)` (R84, R89). -/
def portIn (_port : Word) (s : State) : Byte × State :=
  (s.cfg.portIn.byte,
    match s.cfg.portIn.call with
    | some c => runCallback c s
    | none => s)

/-- `PortOut(port, v)` (R85, R89). -/
def portOut (port : Word) (v : Byte) (s : State) : State :=
  match s.cfg.portOut with
  | some .ayPort => ayPortWrite s.time port v s
  | some (.callback c) => runCallback c s
  | none => s

/-! ### The stacks (R30, R34) -/

/-- The address the M6502 stack pointer names: `0x0100 + SP`. -/
def stackAddr (sp : Byte) : Word := word sp 0x01

/-- `Push(v)` of the M6502 (R30). -/
def push (v : Byte) (s : State) : State :=
  let t := memWrite (stackAddr s.m.sp) v s
  { t with m := { t.m with sp := t.m.sp - 1 } }

/-- `Pull()` of the M6502 (R30). -/
def pull (s : State) : Byte × State :=
  memRead (stackAddr (s.m.sp + 1)) { s with m := { s.m with sp := s.m.sp + 1 } }

/-- `Push16(v)` of the Z80 (R34): the high byte first, each after a decrement of SP. -/
def push16 (v : Word) (s : State) : State :=
  let t := { s with z := { s.z with sp := s.z.sp - 1 } }
  let t := memWrite t.z.sp (hi8 v) t
  let t := { t with z := { t.z with sp := t.z.sp - 1 } }
  memWrite t.z.sp (lo8 v) t

/-- `Pop16()` of the Z80 (R34). -/
def pop16 (s : State) : Word × State :=
  let lo := memRead s.z.sp s
  let t := { lo.2 with z := { lo.2.z with sp := lo.2.z.sp + 1 } }
  let hi := memRead t.z.sp t
  (word lo.1 hi.1, { hi.2 with z := { hi.2.z with sp := hi.2.z.sp + 1 } })

/-! ### The frame of one instruction (R153, R154, R157) -/

/-- `CYC[row]` (R153), from the machine's own table (R630); the row is named by its opcode map and its opcode byte. -/
def cyc (m : OpMap) (op : Byte) (s : State) : Nat := s.cfg.cyc.cost m op

/-- What the encoding of an instruction costs: its length in bytes, `CYC`, and how many of its bytes the refresh counter
counts (R111, R171). -/
structure Cost where
  len : Nat
  cyc : Nat
  fetches : Nat
deriving DecidableEq, Repr

/-- The part of R153 before the body of an M6502 instruction: `pc` past its bytes, `CYC` added. -/
def beginM (len cyc : Nat) (s : State) : State :=
  { s with pc := s.pc + BitVec.ofNat 16 len, time := s.time + cyc }

/-- The part of R153 before the body of a Z80 instruction; the refresh counter has counted its opcode bytes (R171). -/
def beginZ (k : Cost) (s : State) : State :=
  { s with
    pc := s.pc + BitVec.ofNat 16 k.len
    time := s.time + k.cyc
    z := { s.z with r := bumpR k.fetches s.z.r } }

/-- Add `EXTRA` (R157). -/
def charge (n : Nat) (s : State) : State := { s with time := s.time + n }

/-- The refresh counter counts `n` opcode bytes (R171). -/
def countFetches (n : Nat) (s : State) : State := { s with z := { s.z with r := bumpR n s.z.r } }

/-! ### Illegal opcodes (R126, R137, R158) -/

/-- How many bytes of an illegal opcode the refresh counter counts (R137, R171). -/
def illegalFetches : Illegal → Nat
  | .m6502 => 0
  | .z80Cb => 2
  | .z80Ed => 2
  | .z80Prefix => 1
  | .z80IndexCb => 2

/-- An illegal opcode: counted and skipped by `ILLEGAL_LEN` and `ILLEGAL_CYC`; no register, flag or memory byte changes but
the counts of its fetches in R (R126, R137, R158, R572). -/
def takeIllegal (k : Illegal) (s : State) : State :=
  let t := { s with
    errorCount := s.errorCount + 1
    pc := s.pc + BitVec.ofNat 16 (s.cfg.illegal.entry k).len
    time := s.time + (s.cfg.illegal.entry k).cyc }
  match k with
  | .m6502 => t
  | _ => countFetches (illegalFetches k) t

/-! ### Halts (R159, R160) -/

/-- The halt at the idle address: `pc` stays, no cost, the slice ends (R159). -/
def haltAtIdle (s : State) : State := { s with phase := .haltedAtIdle }

/-- A Z80 HALT elsewhere: `pc` stays, the rest of the slice passes (R160). -/
def haltElsewhere (s : State) : State := { s with time := max (s.time + 4) s.endTime, phase := .haltedElsewhere }

/-! ### Free values -/

/-- The bits of the value the next draw gives (R35). Log entry 1. -/
def freeBits (s : State) : Byte := Config.freeByte s.draws

/-- One more free value has been used. -/
def drawn (s : State) : State := { s with draws := s.draws + 1 }

/-! ### Preemption of a guest routine and return from it (R541, R584) -/

/-- Every CPU register including `pc` (R57). -/
def snapshot (s : State) : Snapshot := ⟨s.pc, s.m, s.z⟩

/-- `suspended <- snapshot of all CPU registers including pc` (R540). -/
def suspend (s : State) : State := { s with suspended := some (snapshot s) }

/-- `restore suspended; suspended <- none` (R541). -/
def restore (p : Snapshot) (s : State) : State := { s with pc := p.pc, m := p.m, z := p.z, suspended := none }

/-- `jsr_then_stop(addr)` (R533). -/
def jsrThenStop (addr : Word) (s : State) : State :=
  match s.cfg.family with
  | .m6502 =>
    let r := s.cfg.idleAddr - 1
    let t := push (lo8 r) (push (hi8 r) s)
    { t with pc := addr }
  | .z80 =>
    let t := push16 s.cfg.idleAddr s
    { t with pc := addr }

end Sys2Proof.Machine
end

