-- ==== Sys2Proof/Machine/Flags.lean ====
section
/-! DEFINITION. Every flag computation of both families (R181, R211 to R229; R271, R284, R307, R311, R320 to R363, R401,
R402, R408). A Z80 computation takes `u`, the bits of a free value, for the flags the spec leaves unspecified (R35). -/

namespace Sys2Proof.Machine

/-! ### M6502 -/

/-- `SetNZ(v)` (R181). -/
def setNZ (v : Byte) (p : MFlags) : MFlags := { p with n := v.msb, z := v == 0 }

/-- `ADC`: the sum and the flags (R211). Decimal mode does not exist (D8). -/
def adcM (a m : Byte) (p : MFlags) : Byte × MFlags :=
  let s := a.toNat + m.toNat + p.c.toNat
  let r := BitVec.ofNat 8 s
  (r, setNZ r { p with c := decide (0xFF < s), v := ((a ^^^ r) &&& (m ^^^ r)).msb })

/-- `SBC`: ADC of the operand's complement (R212). -/
def sbcM (a m : Byte) (p : MFlags) : Byte × MFlags := adcM a (m ^^^ 0xFF) p

/-- `CMP`, `CPX`, `CPY` (R216 to R218). -/
def cmpM (a m : Byte) (p : MFlags) : MFlags := setNZ (a - m) { p with c := decide (m.toNat ≤ a.toNat) }

/-- `BIT` (R219). -/
def bitM (a m : Byte) (p : MFlags) : MFlags := { p with z := (a &&& m) == 0, n := bit m 7, v := bit m 6 }

/-- `ASL` (R226). -/
def aslM (v : Byte) (p : MFlags) : Byte × MFlags := (v <<< 1, setNZ (v <<< 1) { p with c := bit v 7 })

/-- `LSR` (R227). -/
def lsrM (v : Byte) (p : MFlags) : Byte × MFlags := (v >>> 1, setNZ (v >>> 1) { p with c := bit v 0 })

/-- The byte with a carry in bit 0. -/
def carryLow (c : Bool) : Byte := if c then 0x01 else 0

/-- The byte with a carry in bit 7. -/
def carryHigh (c : Bool) : Byte := if c then 0x80 else 0

/-- `ROL` (R228). -/
def rolM (v : Byte) (p : MFlags) : Byte × MFlags :=
  let r := (v <<< 1) ||| carryLow p.c
  (r, setNZ r { p with c := bit v 7 })

/-- `ROR` (R229). -/
def rorM (v : Byte) (p : MFlags) : Byte × MFlags :=
  let r := (v >>> 1) ||| carryHigh p.c
  (r, setNZ r { p with c := bit v 0 })

/-- `INC` on memory (R220). -/
def incM (v : Byte) (p : MFlags) : Byte × MFlags := (v + 1, setNZ (v + 1) p)

/-- `DEC` on memory (R221). -/
def decM (v : Byte) (p : MFlags) : Byte × MFlags := (v - 1, setNZ (v - 1) p)

/-! ### Z80: helpers (R271, R320) -/

/-- `Undef35()`: F5 and F3 become free values (R35, R271). -/
def undef35 (u : Byte) (f : ZFlags) : ZFlags := { f with f5 := bit u 5, f3 := bit u 3 }

/-- `SZ(v)` (R271). -/
def setSZ (v : Byte) (f : ZFlags) : ZFlags := { f with s := v.msb, z := v == 0 }

/-- `Add8(a, b, c)` (R320). -/
def add8 (u a b : Byte) (c : Bool) (f : ZFlags) : Byte × ZFlags :=
  let s := a.toNat + b.toNat + c.toNat
  let r := BitVec.ofNat 8 s
  (r, undef35 u (setSZ r { f with
    h := decide (0x0F < a.toNat % 16 + b.toNat % 16 + c.toNat)
    pv := ((a ^^^ r) &&& (b ^^^ r)).msb
    n := false
    c := decide (0xFF < s) }))

/-- `Sub8(a, b, c)` (R320). -/
def sub8 (u a b : Byte) (c : Bool) (f : ZFlags) : Byte × ZFlags :=
  let r := a - b - BitVec.ofNat 8 c.toNat
  (r, undef35 u (setSZ r { f with
    h := decide (a.toNat % 16 < b.toNat % 16 + c.toNat)
    pv := ((a ^^^ b) &&& (a ^^^ r)).msb
    n := true
    c := decide (a.toNat < b.toNat + c.toNat) }))

/-- `Logic(r, h)` (R320). -/
def logicZ (u r : Byte) (h : Bool) (f : ZFlags) : ZFlags :=
  undef35 u (setSZ r { f with h := h, pv := parity r, n := false, c := false })

/-- `Shift(r, c)` (R320). -/
def shiftZ (u r : Byte) (c : Bool) (f : ZFlags) : ZFlags :=
  undef35 u (setSZ r { f with h := false, pv := parity r, n := false, c := c })

/-! ### Z80: increments and general-purpose arithmetic (R329 to R339) -/

/-- `INC` of a byte (R329). -/
def incZ (u v : Byte) (f : ZFlags) : Byte × ZFlags :=
  (v + 1, undef35 u (setSZ (v + 1) { f with h := decide (v.toNat % 16 = 15), pv := v == 0x7F, n := false }))

/-- `DEC` of a byte (R332). -/
def decZ (u v : Byte) (f : ZFlags) : Byte × ZFlags :=
  (v - 1, undef35 u (setSZ (v - 1) { f with h := decide (v.toNat % 16 = 0), pv := v == 0x80, n := true }))

/-- `DAA` (R335). -/
def daaZ (u a : Byte) (f : ZFlags) : Byte × ZFlags :=
  let low := f.h || decide (9 < a.toNat % 16)
  let high := f.c || decide (0x99 < a.toNat)
  let corr : Byte := (if low then 0x06 else 0) ||| (if high then 0x60 else 0)
  let r := if f.n then a - corr else a + corr
  let h := if f.n then f.h && decide (a.toNat % 16 < 6) else decide (9 < a.toNat % 16)
  (r, undef35 u (setSZ r { f with h := h, pv := parity r, c := high }))

/-- `CPL` (R336). -/
def cplZ (u : Byte) (f : ZFlags) : ZFlags := undef35 u { f with h := true, n := true }

/-- `CCF` (R338). -/
def ccfZ (u : Byte) (f : ZFlags) : ZFlags := undef35 u { f with h := f.c, c := !f.c, n := false }

/-- `SCF` (R339). -/
def scfZ (u : Byte) (f : ZFlags) : ZFlags := undef35 u { f with c := true, h := false, n := false }

/-! ### Z80: 16-bit arithmetic (R340 to R343) -/

/-- `ADD` of 16-bit operands (R340). -/
def add16 (u : Byte) (a b : Word) (f : ZFlags) : Word × ZFlags :=
  (a + b, undef35 u { f with
    h := decide (0x0FFF < a.toNat % 4096 + b.toNat % 4096)
    n := false
    c := decide (0xFFFF < a.toNat + b.toNat) })

/-- `ADC HL,ss` (R341). -/
def adc16 (u : Byte) (a b : Word) (f : ZFlags) : Word × ZFlags :=
  let s := a.toNat + b.toNat + f.c.toNat
  let r := BitVec.ofNat 16 s
  (r, undef35 u { f with
    s := r.msb
    z := r == 0
    h := decide (0x0FFF < a.toNat % 4096 + b.toNat % 4096 + f.c.toNat)
    pv := ((a ^^^ r) &&& (b ^^^ r)).msb
    n := false
    c := decide (0xFFFF < s) })

/-- `SBC HL,ss` (R342). -/
def sbc16 (u : Byte) (a b : Word) (f : ZFlags) : Word × ZFlags :=
  let r := a - b - BitVec.ofNat 16 f.c.toNat
  (r, undef35 u { f with
    s := r.msb
    z := r == 0
    h := decide (a.toNat % 4096 < b.toNat % 4096 + f.c.toNat)
    pv := ((a ^^^ b) &&& (a ^^^ r)).msb
    n := true
    c := decide (a.toNat < b.toNat + f.c.toNat) })

/-! ### Z80: rotates, shifts and bits (R348 to R363) -/

/-- The result and the carry of a rotate or shift (R352 to R358). -/
def rotZ (op : ZRot) (v : Byte) (c : Bool) : Byte × Bool :=
  match op with
  | .rlc => ((v <<< 1) ||| carryLow (bit v 7), bit v 7)
  | .rrc => ((v >>> 1) ||| carryHigh (bit v 0), bit v 0)
  | .rl => ((v <<< 1) ||| carryLow c, bit v 7)
  | .rr => ((v >>> 1) ||| carryHigh c, bit v 0)
  | .sla => (v <<< 1, bit v 7)
  | .sra => ((v >>> 1) ||| (v &&& 0x80), bit v 0)
  | .srl => (v >>> 1, bit v 0)

/-- A rotate or shift with its flags (R352 to R358). -/
def rotFlagsZ (op : ZRot) (u v : Byte) (f : ZFlags) : Byte × ZFlags :=
  let x := rotZ op v f.c
  (x.1, shiftZ u x.1 x.2 f)

/-- An accumulator rotate with its flags: S, Z and PV stay (R348 to R351). -/
def accRotZ (op : ZAccRot) (u v : Byte) (f : ZFlags) : Byte × ZFlags :=
  let x := match op with
    | .rlca => rotZ .rlc v f.c
    | .rrca => rotZ .rrc v f.c
    | .rla => rotZ .rl v f.c
    | .rra => rotZ .rr v f.c
  (x.1, undef35 u { f with h := false, n := false, c := x.2 })

/-- The flags of `RLD`, `RRD` and `IN r,(C)`: C stays (R359, R360, R401). -/
def inFlagsZ (u v : Byte) (f : ZFlags) : ZFlags :=
  undef35 u (setSZ v { f with h := false, pv := parity v, n := false })

/-- `BIT b`: S and PV become free values (R361). -/
def bitZ (u v : Byte) (b : Nat) (f : ZFlags) : ZFlags :=
  undef35 u { f with z := !bit v b, h := true, n := false, s := bit u 7, pv := bit u 2 }

/-! ### Z80: loads from special registers, block instructions (R284, R307, R311, R402) -/

/-- `LD A,I` and `LD A,R` (R284, R285). -/
def irFlagsZ (u v : Byte) (iff2 : Bool) (f : ZFlags) : ZFlags :=
  undef35 u (setSZ v { f with h := false, n := false, pv := iff2 })

/-- A block transfer step; `more` says that BC is not 0 after it (R307). -/
def ldBlockFlagsZ (u : Byte) (more : Bool) (f : ZFlags) : ZFlags :=
  undef35 u { f with h := false, n := false, pv := more }

/-- A block search step (R311). -/
def cpBlockFlagsZ (u a v : Byte) (more : Bool) (f : ZFlags) : ZFlags :=
  undef35 u (setSZ (a - v) { f with h := decide (a.toNat % 16 < v.toNat % 16), pv := more, n := true })

/-- A block input or output step: S, H and PV become free values (R402, R408). -/
def ioBlockFlagsZ (u : Byte) (b : Byte) (f : ZFlags) : ZFlags :=
  undef35 u { f with z := b == 0, n := true, s := bit u 7, h := bit u 4, pv := bit u 2 }

end Sys2Proof.Machine
end

