-- ==== Sys2Proof/Machine/Operands.lean ====
section
/-! DEFINITION. Every operand form of both families: registers and pairs, effective addresses with their page crossing, the
conditions, and the length of each form (R112 to R131, R245, R271). -/

namespace Sys2Proof

open Machine

/-! ### M6502 -/

/-- The value of a register a store names. -/
def MReg.get (r : MReg) (m : M6502Regs) : Byte :=
  match r with
  | .a => m.a
  | .x => m.x
  | .y => m.y

/-- The bytes of an instruction with this memory operand (R112). -/
def MMode.len : MMode → Nat
  | .zp _ => 2
  | .zpx _ => 2
  | .zpy _ => 2
  | .abs _ _ => 3
  | .abx _ _ => 3
  | .aby _ _ => 3
  | .izx _ => 2
  | .izy _ => 2

/-- An effective address, whether the index crossed a page (R117, R119), and the state after the pointer reads. -/
structure Ea where
  addr : Word
  crossed : Bool
  st : State

/-- `base + index`, and whether the low bytes carry (R117). -/
def indexed (base : Word) (i : Byte) (s : State) : Ea :=
  ⟨base + zext i, decide (0xFF < (lo8 base).toNat + i.toNat), s⟩

/-- A pointer in the zero page: both bytes come from there, the second address wraps (R118, R119). -/
def zpPointer (p : Byte) (s : State) : Word × State :=
  let lo := memRead (zext p) s
  let hi := memRead (zext (p + 1)) lo.2
  (word lo.1 hi.1, hi.2)

/-- The effective address of each addressing mode (R114 to R119). -/
def MMode.ea (md : MMode) (s : State) : Ea :=
  match md with
  | .zp b1 => ⟨zext b1, false, s⟩
  | .zpx b1 => ⟨zext (b1 + s.m.x), false, s⟩
  | .zpy b1 => ⟨zext (b1 + s.m.y), false, s⟩
  | .abs b1 b2 => ⟨word b1 b2, false, s⟩
  | .abx b1 b2 => indexed (word b1 b2) s.m.x s
  | .aby b1 b2 => indexed (word b1 b2) s.m.y s
  | .izx b1 => let p := zpPointer (b1 + s.m.x) s; ⟨p.1, false, p.2⟩
  | .izy b1 => let p := zpPointer b1 s; indexed p.1 p.2.m.y p.2

/-- The condition of a branch (R246 to R253). -/
def MCond.holds (k : MCond) (p : MFlags) : Bool :=
  match k with
  | .cc => !p.c
  | .cs => p.c
  | .eq => p.z
  | .ne => !p.z
  | .mi => p.n
  | .pl => !p.n
  | .vc => !p.v
  | .vs => p.v

/-! ### Z80 registers (R32, R130, R271) -/

/-- `Reg8(k)`. -/
def R8.get (r : R8) (z : Z80Regs) : Byte :=
  match r with
  | .b => hi8 z.bc
  | .c => lo8 z.bc
  | .d => hi8 z.de
  | .e => lo8 z.de
  | .h => hi8 z.hl
  | .l => lo8 z.hl
  | .a => z.a

/-- `SetReg8(k, v)`. -/
def R8.set (r : R8) (v : Byte) (z : Z80Regs) : Z80Regs :=
  match r with
  | .b => { z with bc := setHi z.bc v }
  | .c => { z with bc := setLo z.bc v }
  | .d => { z with de := setHi z.de v }
  | .e => { z with de := setLo z.de v }
  | .h => { z with hl := setHi z.hl v }
  | .l => { z with hl := setLo z.hl v }
  | .a => { z with a := v }

/-- `RP(p)`. -/
def RP.get (p : RP) (z : Z80Regs) : Word :=
  match p with
  | .bc => z.bc
  | .de => z.de
  | .hl => z.hl
  | .sp => z.sp

/-- `SetRP(p, v)`. -/
def RP.set (p : RP) (v : Word) (z : Z80Regs) : Z80Regs :=
  match p with
  | .bc => { z with bc := v }
  | .de => { z with de := v }
  | .hl => { z with hl := v }
  | .sp => { z with sp := v }

/-- `IX` or `IY`. -/
def XY.get (x : XY) (z : Z80Regs) : Word :=
  match x with
  | .ix => z.ix
  | .iy => z.iy

/-- Write `IX` or `IY`. -/
def XY.set (x : XY) (v : Word) (z : Z80Regs) : Z80Regs :=
  match x with
  | .ix => { z with ix := v }
  | .iy => { z with iy := v }

/-- `RP2(p)`; AF is the accumulator and the eight flags (R32, R35). -/
def QQ.get (q : QQ) (z : Z80Regs) : Word :=
  match q with
  | .bc => z.bc
  | .de => z.de
  | .hl => z.hl
  | .af => word z.f.toByte z.a

/-- `SetRP2(p, v)`. -/
def QQ.set (q : QQ) (v : Word) (z : Z80Regs) : Z80Regs :=
  match q with
  | .bc => { z with bc := v }
  | .de => { z with de := v }
  | .hl => { z with hl := v }
  | .af => { z with a := hi8 v, f := ZFlags.ofByte (lo8 v) }

/-- A pair of a 16-bit load. -/
def Pair.get (p : Pair) (z : Z80Regs) : Word :=
  match p with
  | .rp p => p.get z
  | .xy x => x.get z

/-- Write a pair of a 16-bit load. -/
def Pair.set (p : Pair) (v : Word) (z : Z80Regs) : Z80Regs :=
  match p with
  | .rp p => p.set v z
  | .xy x => x.set v z

/-- What PUSH pushes. -/
def StackPair.get (p : StackPair) (z : Z80Regs) : Word :=
  match p with
  | .qq q => q.get z
  | .xy x => x.get z

/-- What POP writes. -/
def StackPair.set (p : StackPair) (v : Word) (z : Z80Regs) : Z80Regs :=
  match p with
  | .qq q => q.set v z
  | .xy x => x.set v z

/-- HL, or the index register in its place. -/
def HLXY.get (p : HLXY) (z : Z80Regs) : Word :=
  match p with
  | .hl => z.hl
  | .xy x => x.get z

/-- Write HL, or the index register in its place. -/
def HLXY.set (p : HLXY) (v : Word) (z : Z80Regs) : Z80Regs :=
  match p with
  | .hl => { z with hl := v }
  | .xy x => x.set v z

/-- The second operand of `ADD XY,pp` (R343). -/
def PP.get (p : PP) (x : XY) (z : Z80Regs) : Word :=
  match p with
  | .bc => z.bc
  | .de => z.de
  | .self => x.get z
  | .sp => z.sp

/-! ### Z80 memory operands, conditions and costs -/

/-- The address of a memory operand: HL, or `IdxAddr(d)` (R131, R271). -/
def ZMem.addr (m : ZMem) (z : Z80Regs) : Word :=
  match m with
  | .hl => z.hl
  | .idx x d => x.get z + sext d

/-- One cost for `(HL)`, another for `(XY+d)`. -/
def ZMem.cost (m : ZMem) (plain idx : Cost) : Cost :=
  match m with
  | .hl => plain
  | .idx _ _ => idx

/-- One cost for HL, another for an index register. -/
def HLXY.cost (p : HLXY) (plain idx : Cost) : Cost :=
  match p with
  | .hl => plain
  | .xy _ => idx

/-- One cost for a pair of `rp`, another for an index register. -/
def Pair.cost (p : Pair) (plain idx : Cost) : Cost :=
  match p with
  | .rp _ => plain
  | .xy _ => idx

/-- One cost for a pair of `rp2`, another for an index register. -/
def StackPair.cost (p : StackPair) (plain idx : Cost) : Cost :=
  match p with
  | .qq _ => plain
  | .xy _ => idx

/-- `cc[k]` (R130, R380). -/
def CC.holds (k : CC) (f : ZFlags) : Bool :=
  match k with
  | .nz => !f.z
  | .z => f.z
  | .nc => !f.c
  | .c => f.c
  | .po => !f.pv
  | .pe => f.pv
  | .p => !f.s
  | .m => f.s

/-- One step of a pair upwards or downwards. -/
def Dir.move (d : Dir) (w : Word) : Word :=
  match d with
  | .up => w + 1
  | .down => w - 1

end Sys2Proof
end

