-- ==== Sys2Proof/Machine/M6502.lean ====
section
/-! DEFINITION. The M6502 instructions by shape: what each operation does to registers and flags, and the shapes every
meaning of the family is an instance of (R180 to R263). The argument `c` of a shape is the `CYC` of the row (R153). -/

namespace Sys2Proof

open Machine

/-- What a read-class instruction does with its operand value (R182 to R184, R211 to R219). -/
def MReadOp.apply (op : MReadOp) (v : Byte) (m : M6502Regs) : M6502Regs :=
  match op with
  | .lda => { m with a := v, p := setNZ v m.p }
  | .ldx => { m with x := v, p := setNZ v m.p }
  | .ldy => { m with y := v, p := setNZ v m.p }
  | .adc => { m with a := (adcM m.a v m.p).1, p := (adcM m.a v m.p).2 }
  | .sbc => { m with a := (sbcM m.a v m.p).1, p := (sbcM m.a v m.p).2 }
  | .and => { m with a := m.a &&& v, p := setNZ (m.a &&& v) m.p }
  | .ora => { m with a := m.a ||| v, p := setNZ (m.a ||| v) m.p }
  | .eor => { m with a := m.a ^^^ v, p := setNZ (m.a ^^^ v) m.p }
  | .cmp => { m with p := cmpM m.a v m.p }
  | .cpx => { m with p := cmpM m.x v m.p }
  | .cpy => { m with p := cmpM m.y v m.p }
  | .bit => { m with p := bitM m.a v m.p }

/-- The byte a modify-class instruction writes back, and the flags (R220, R221, R226 to R229). -/
def MModOp.apply (op : MModOp) (v : Byte) (p : MFlags) : Byte × MFlags :=
  match op with
  | .asl => aslM v p
  | .lsr => lsrM v p
  | .rol => rolM v p
  | .ror => rorM v p
  | .inc => incM v p
  | .dec => decM v p

/-- What an instruction on registers and flags alone does (R188 to R193, R222 to R225, R255 to R262). -/
def MImpl.apply (op : MImpl) (m : M6502Regs) : M6502Regs :=
  match op with
  | .tax => { m with x := m.a, p := setNZ m.a m.p }
  | .tay => { m with y := m.a, p := setNZ m.a m.p }
  | .txa => { m with a := m.x, p := setNZ m.x m.p }
  | .tya => { m with a := m.y, p := setNZ m.y m.p }
  | .tsx => { m with x := m.sp, p := setNZ m.sp m.p }
  | .txs => { m with sp := m.x }
  | .inx => { m with x := m.x + 1, p := setNZ (m.x + 1) m.p }
  | .iny => { m with y := m.y + 1, p := setNZ (m.y + 1) m.p }
  | .dex => { m with x := m.x - 1, p := setNZ (m.x - 1) m.p }
  | .dey => { m with y := m.y - 1, p := setNZ (m.y - 1) m.p }
  | .clc => { m with p := { m.p with c := false } }
  | .sec => { m with p := { m.p with c := true } }
  | .cld => { m with p := { m.p with d := false } }
  | .sed => { m with p := { m.p with d := true } }
  | .cli => { m with p := { m.p with i := false } }
  | .sei => { m with p := { m.p with i := true } }
  | .clv => { m with p := { m.p with v := false } }
  | .nop => m

end Sys2Proof

namespace Sys2Proof.Machine

/-- A read-class instruction: operand, registers, then `EXTRA` if the index crossed a page (R124, R125). -/
def runMRead (c : Nat) (op : MReadOp) (f : MForm) (s : State) : State :=
  match f with
  | .imm b1 =>
    let t := beginM 2 c s
    { t with m := op.apply b1 t.m }
  | .mem md =>
    let e := md.ea (beginM md.len c s)
    let r := memRead e.addr e.st
    charge (if e.crossed then s.cfg.extra.pageCross else 0) { r.2 with m := op.apply r.1 r.2.m }

/-- A store (R185 to R187). -/
def runMStore (c : Nat) (r : MReg) (md : MMode) (s : State) : State :=
  let e := md.ea (beginM md.len c s)
  memWrite e.addr (r.get e.st.m) e.st

/-- A modify-class instruction on memory: one read, one write (R210). -/
def runMModify (c : Nat) (op : MModOp) (md : MMode) (s : State) : State :=
  let e := md.ea (beginM md.len c s)
  let r := memRead e.addr e.st
  let y := op.apply r.1 r.2.m.p
  let t := memWrite e.addr y.1 r.2
  { t with m := { t.m with p := y.2 } }

/-- A shift of the accumulator (R122, R226 to R229). -/
def runMAcc (c : Nat) (op : MModOp) (s : State) : State :=
  let t := beginM 1 c s
  let y := op.apply t.m.a t.m.p
  { t with m := { t.m with a := y.1, p := y.2 } }

/-- An instruction on registers and flags alone. -/
def runMImplied (c : Nat) (op : MImpl) (s : State) : State :=
  let t := beginM 1 c s
  { t with m := op.apply t.m }

/-- `PHA` (R194). -/
def runMPha (c : Nat) (s : State) : State :=
  let t := beginM 1 c s
  push t.m.a t

/-- `PHP` (R195). -/
def runMPhp (c : Nat) (s : State) : State :=
  let t := beginM 1 c s
  push t.m.p.toByte t

/-- `PLA` (R196). -/
def runMPla (c : Nat) (s : State) : State :=
  let x := pull (beginM 1 c s)
  { x.2 with m := { x.2.m with a := x.1, p := setNZ x.1 x.2.m.p } }

/-- `PLP` (R197). -/
def runMPlp (c : Nat) (s : State) : State :=
  let x := pull (beginM 1 c s)
  { x.2 with m := { x.2.m with p := MFlags.ofByte x.1 } }

/-- `JMP abs` (R241). -/
def runMJmp (c : Nat) (b1 b2 : Byte) (s : State) : State := { beginM 3 c s with pc := word b1 b2 }

/-- `JMP (ind)`: the pointer's high byte comes from the same page as its low byte (R120, R241). -/
def runMJmpInd (c : Nat) (b1 b2 : Byte) (s : State) : State :=
  let lo := memRead (word b1 b2) (beginM 3 c s)
  let hi := memRead (word (b1 + 1) b2) lo.2
  { hi.2 with pc := word lo.1 hi.1 }

/-- `JSR`: the address of the instruction's last byte is pushed (R242). -/
def runMJsr (c : Nat) (b1 b2 : Byte) (s : State) : State :=
  let ret := s.pc + 2
  let t := push (lo8 ret) (push (hi8 ret) (beginM 3 c s))
  { t with pc := word b1 b2 }

/-- `RTS` (R243). -/
def runMRts (c : Nat) (s : State) : State :=
  let lo := pull (beginM 1 c s)
  let hi := pull lo.2
  { hi.2 with pc := word lo.1 hi.1 + 1 }

/-- `RTI` (R244). -/
def runMRti (c : Nat) (s : State) : State :=
  let v := pull (beginM 1 c s)
  let t := { v.2 with m := { v.2.m with p := MFlags.ofByte v.1 } }
  let lo := pull t
  let hi := pull lo.2
  { hi.2 with pc := word lo.1 hi.1 }

/-- A branch: `EXTRA` when taken, and more when it leaves the page of the next instruction (R121, R125, R245). -/
def runMBranch (c : Nat) (k : MCond) (b1 : Byte) (s : State) : State :=
  let t := beginM 2 c s
  if k.holds t.m.p then
    let target := t.pc + sext b1
    charge (s.cfg.extra.branchTaken + if hi8 target = hi8 t.pc then 0 else s.cfg.extra.branchCross) { t with pc := target }
  else t

/-- `BRK`: the byte after it is skipped (R254). -/
def runMBrk (c : Nat) (s : State) : State :=
  let ret := s.pc + 2
  let t := push (lo8 ret) (push (hi8 ret) (beginM 1 c s))
  let t := push t.m.p.toByte t
  let t := { t with m := { t.m with p := { t.m.p with i := true } } }
  let v := memRead16 0xFFFE t
  { v.2 with pc := v.1 }

/-- The byte `0x22`: the halt sentinel at the idle address, an illegal opcode anywhere else (R144, R158, R263). -/
def runMHalt (s : State) : State := if s.pc = s.cfg.idleAddr then haltAtIdle s else takeIllegal .m6502 s

end Sys2Proof.Machine
end

