-- ==== Sys2Proof/Machine/M6502Alu.lean ====
section
/-! DEFINITION. The meanings of the M6502 arithmetic, logic, compares, increments and shifts (R211 to R229), one definition per instruction over the shapes of
Sys2Proof.Machine.M6502. -/

namespace Sys2Proof.Machine

/-- `ORA (b1,X)` (R214). -/
def execMOraIzx (b1 : Byte) (s : State) : Host.Outcome State Fault Refusal :=
  .next (runMRead (cyc .main 0x01 s) .ora (.mem (.izx b1)) s)

/-- `ORA b1` (R214). -/
def execMOraZp (b1 : Byte) (s : State) : Host.Outcome State Fault Refusal :=
  .next (runMRead (cyc .main 0x05 s) .ora (.mem (.zp b1)) s)

/-- `ASL b1` (R226). -/
def execMAslZp (b1 : Byte) (s : State) : Host.Outcome State Fault Refusal :=
  .next (runMModify (cyc .main 0x06 s) .asl (.zp b1) s)

/-- `ORA #b1` (R214). -/
def execMOraImm (b1 : Byte) (s : State) : Host.Outcome State Fault Refusal :=
  .next (runMRead (cyc .main 0x09 s) .ora (.imm b1) s)

/-- `ASL A` (R226). -/
def execMAslAcc (s : State) : Host.Outcome State Fault Refusal := .next (runMAcc (cyc .main 0x0A s) .asl s)

/-- `ORA nn` (R214). -/
def execMOraAbs (b1 b2 : Byte) (s : State) : Host.Outcome State Fault Refusal :=
  .next (runMRead (cyc .main 0x0D s) .ora (.mem (.abs b1 b2)) s)

/-- `ASL nn` (R226). -/
def execMAslAbs (b1 b2 : Byte) (s : State) : Host.Outcome State Fault Refusal :=
  .next (runMModify (cyc .main 0x0E s) .asl (.abs b1 b2) s)

/-- `ORA (b1),Y` (R214). -/
def execMOraIzy (b1 : Byte) (s : State) : Host.Outcome State Fault Refusal :=
  .next (runMRead (cyc .main 0x11 s) .ora (.mem (.izy b1)) s)

/-- `ORA b1,X` (R214). -/
def execMOraZpx (b1 : Byte) (s : State) : Host.Outcome State Fault Refusal :=
  .next (runMRead (cyc .main 0x15 s) .ora (.mem (.zpx b1)) s)

/-- `ASL b1,X` (R226). -/
def execMAslZpx (b1 : Byte) (s : State) : Host.Outcome State Fault Refusal :=
  .next (runMModify (cyc .main 0x16 s) .asl (.zpx b1) s)

/-- `ORA nn,Y` (R214). -/
def execMOraAby (b1 b2 : Byte) (s : State) : Host.Outcome State Fault Refusal :=
  .next (runMRead (cyc .main 0x19 s) .ora (.mem (.aby b1 b2)) s)

/-- `ORA nn,X` (R214). -/
def execMOraAbx (b1 b2 : Byte) (s : State) : Host.Outcome State Fault Refusal :=
  .next (runMRead (cyc .main 0x1D s) .ora (.mem (.abx b1 b2)) s)

/-- `ASL nn,X` (R226). -/
def execMAslAbx (b1 b2 : Byte) (s : State) : Host.Outcome State Fault Refusal :=
  .next (runMModify (cyc .main 0x1E s) .asl (.abx b1 b2) s)

/-- `AND (b1,X)` (R213). -/
def execMAndIzx (b1 : Byte) (s : State) : Host.Outcome State Fault Refusal :=
  .next (runMRead (cyc .main 0x21 s) .and (.mem (.izx b1)) s)

/-- `BIT b1` (R219). -/
def execMBitZp (b1 : Byte) (s : State) : Host.Outcome State Fault Refusal :=
  .next (runMRead (cyc .main 0x24 s) .bit (.mem (.zp b1)) s)

/-- `AND b1` (R213). -/
def execMAndZp (b1 : Byte) (s : State) : Host.Outcome State Fault Refusal :=
  .next (runMRead (cyc .main 0x25 s) .and (.mem (.zp b1)) s)

/-- `ROL b1` (R228). -/
def execMRolZp (b1 : Byte) (s : State) : Host.Outcome State Fault Refusal :=
  .next (runMModify (cyc .main 0x26 s) .rol (.zp b1) s)

/-- `AND #b1` (R213). -/
def execMAndImm (b1 : Byte) (s : State) : Host.Outcome State Fault Refusal :=
  .next (runMRead (cyc .main 0x29 s) .and (.imm b1) s)

/-- `ROL A` (R228). -/
def execMRolAcc (s : State) : Host.Outcome State Fault Refusal := .next (runMAcc (cyc .main 0x2A s) .rol s)

/-- `BIT nn` (R219). -/
def execMBitAbs (b1 b2 : Byte) (s : State) : Host.Outcome State Fault Refusal :=
  .next (runMRead (cyc .main 0x2C s) .bit (.mem (.abs b1 b2)) s)

/-- `AND nn` (R213). -/
def execMAndAbs (b1 b2 : Byte) (s : State) : Host.Outcome State Fault Refusal :=
  .next (runMRead (cyc .main 0x2D s) .and (.mem (.abs b1 b2)) s)

/-- `ROL nn` (R228). -/
def execMRolAbs (b1 b2 : Byte) (s : State) : Host.Outcome State Fault Refusal :=
  .next (runMModify (cyc .main 0x2E s) .rol (.abs b1 b2) s)

/-- `AND (b1),Y` (R213). -/
def execMAndIzy (b1 : Byte) (s : State) : Host.Outcome State Fault Refusal :=
  .next (runMRead (cyc .main 0x31 s) .and (.mem (.izy b1)) s)

/-- `AND b1,X` (R213). -/
def execMAndZpx (b1 : Byte) (s : State) : Host.Outcome State Fault Refusal :=
  .next (runMRead (cyc .main 0x35 s) .and (.mem (.zpx b1)) s)

/-- `ROL b1,X` (R228). -/
def execMRolZpx (b1 : Byte) (s : State) : Host.Outcome State Fault Refusal :=
  .next (runMModify (cyc .main 0x36 s) .rol (.zpx b1) s)

/-- `AND nn,Y` (R213). -/
def execMAndAby (b1 b2 : Byte) (s : State) : Host.Outcome State Fault Refusal :=
  .next (runMRead (cyc .main 0x39 s) .and (.mem (.aby b1 b2)) s)

/-- `AND nn,X` (R213). -/
def execMAndAbx (b1 b2 : Byte) (s : State) : Host.Outcome State Fault Refusal :=
  .next (runMRead (cyc .main 0x3D s) .and (.mem (.abx b1 b2)) s)

/-- `ROL nn,X` (R228). -/
def execMRolAbx (b1 b2 : Byte) (s : State) : Host.Outcome State Fault Refusal :=
  .next (runMModify (cyc .main 0x3E s) .rol (.abx b1 b2) s)

/-- `EOR (b1,X)` (R215). -/
def execMEorIzx (b1 : Byte) (s : State) : Host.Outcome State Fault Refusal :=
  .next (runMRead (cyc .main 0x41 s) .eor (.mem (.izx b1)) s)

/-- `EOR b1` (R215). -/
def execMEorZp (b1 : Byte) (s : State) : Host.Outcome State Fault Refusal :=
  .next (runMRead (cyc .main 0x45 s) .eor (.mem (.zp b1)) s)

/-- `LSR b1` (R227). -/
def execMLsrZp (b1 : Byte) (s : State) : Host.Outcome State Fault Refusal :=
  .next (runMModify (cyc .main 0x46 s) .lsr (.zp b1) s)

/-- `EOR #b1` (R215). -/
def execMEorImm (b1 : Byte) (s : State) : Host.Outcome State Fault Refusal :=
  .next (runMRead (cyc .main 0x49 s) .eor (.imm b1) s)

/-- `LSR A` (R227). -/
def execMLsrAcc (s : State) : Host.Outcome State Fault Refusal := .next (runMAcc (cyc .main 0x4A s) .lsr s)

/-- `EOR nn` (R215). -/
def execMEorAbs (b1 b2 : Byte) (s : State) : Host.Outcome State Fault Refusal :=
  .next (runMRead (cyc .main 0x4D s) .eor (.mem (.abs b1 b2)) s)

/-- `LSR nn` (R227). -/
def execMLsrAbs (b1 b2 : Byte) (s : State) : Host.Outcome State Fault Refusal :=
  .next (runMModify (cyc .main 0x4E s) .lsr (.abs b1 b2) s)

/-- `EOR (b1),Y` (R215). -/
def execMEorIzy (b1 : Byte) (s : State) : Host.Outcome State Fault Refusal :=
  .next (runMRead (cyc .main 0x51 s) .eor (.mem (.izy b1)) s)

/-- `EOR b1,X` (R215). -/
def execMEorZpx (b1 : Byte) (s : State) : Host.Outcome State Fault Refusal :=
  .next (runMRead (cyc .main 0x55 s) .eor (.mem (.zpx b1)) s)

/-- `LSR b1,X` (R227). -/
def execMLsrZpx (b1 : Byte) (s : State) : Host.Outcome State Fault Refusal :=
  .next (runMModify (cyc .main 0x56 s) .lsr (.zpx b1) s)

/-- `EOR nn,Y` (R215). -/
def execMEorAby (b1 b2 : Byte) (s : State) : Host.Outcome State Fault Refusal :=
  .next (runMRead (cyc .main 0x59 s) .eor (.mem (.aby b1 b2)) s)

/-- `EOR nn,X` (R215). -/
def execMEorAbx (b1 b2 : Byte) (s : State) : Host.Outcome State Fault Refusal :=
  .next (runMRead (cyc .main 0x5D s) .eor (.mem (.abx b1 b2)) s)

/-- `LSR nn,X` (R227). -/
def execMLsrAbx (b1 b2 : Byte) (s : State) : Host.Outcome State Fault Refusal :=
  .next (runMModify (cyc .main 0x5E s) .lsr (.abx b1 b2) s)

/-- `ADC (b1,X)` (R211). -/
def execMAdcIzx (b1 : Byte) (s : State) : Host.Outcome State Fault Refusal :=
  .next (runMRead (cyc .main 0x61 s) .adc (.mem (.izx b1)) s)

/-- `ADC b1` (R211). -/
def execMAdcZp (b1 : Byte) (s : State) : Host.Outcome State Fault Refusal :=
  .next (runMRead (cyc .main 0x65 s) .adc (.mem (.zp b1)) s)

/-- `ROR b1` (R229). -/
def execMRorZp (b1 : Byte) (s : State) : Host.Outcome State Fault Refusal :=
  .next (runMModify (cyc .main 0x66 s) .ror (.zp b1) s)

/-- `ADC #b1` (R211). -/
def execMAdcImm (b1 : Byte) (s : State) : Host.Outcome State Fault Refusal :=
  .next (runMRead (cyc .main 0x69 s) .adc (.imm b1) s)

/-- `ROR A` (R229). -/
def execMRorAcc (s : State) : Host.Outcome State Fault Refusal := .next (runMAcc (cyc .main 0x6A s) .ror s)

/-- `ADC nn` (R211). -/
def execMAdcAbs (b1 b2 : Byte) (s : State) : Host.Outcome State Fault Refusal :=
  .next (runMRead (cyc .main 0x6D s) .adc (.mem (.abs b1 b2)) s)

/-- `ROR nn` (R229). -/
def execMRorAbs (b1 b2 : Byte) (s : State) : Host.Outcome State Fault Refusal :=
  .next (runMModify (cyc .main 0x6E s) .ror (.abs b1 b2) s)

/-- `ADC (b1),Y` (R211). -/
def execMAdcIzy (b1 : Byte) (s : State) : Host.Outcome State Fault Refusal :=
  .next (runMRead (cyc .main 0x71 s) .adc (.mem (.izy b1)) s)

/-- `ADC b1,X` (R211). -/
def execMAdcZpx (b1 : Byte) (s : State) : Host.Outcome State Fault Refusal :=
  .next (runMRead (cyc .main 0x75 s) .adc (.mem (.zpx b1)) s)

/-- `ROR b1,X` (R229). -/
def execMRorZpx (b1 : Byte) (s : State) : Host.Outcome State Fault Refusal :=
  .next (runMModify (cyc .main 0x76 s) .ror (.zpx b1) s)

/-- `ADC nn,Y` (R211). -/
def execMAdcAby (b1 b2 : Byte) (s : State) : Host.Outcome State Fault Refusal :=
  .next (runMRead (cyc .main 0x79 s) .adc (.mem (.aby b1 b2)) s)

/-- `ADC nn,X` (R211). -/
def execMAdcAbx (b1 b2 : Byte) (s : State) : Host.Outcome State Fault Refusal :=
  .next (runMRead (cyc .main 0x7D s) .adc (.mem (.abx b1 b2)) s)

/-- `ROR nn,X` (R229). -/
def execMRorAbx (b1 b2 : Byte) (s : State) : Host.Outcome State Fault Refusal :=
  .next (runMModify (cyc .main 0x7E s) .ror (.abx b1 b2) s)

/-- `DEY` (R225). -/
def execMDey (s : State) : Host.Outcome State Fault Refusal := .next (runMImplied (cyc .main 0x88 s) .dey s)

/-- `CPY #b1` (R218). -/
def execMCpyImm (b1 : Byte) (s : State) : Host.Outcome State Fault Refusal :=
  .next (runMRead (cyc .main 0xC0 s) .cpy (.imm b1) s)

/-- `CMP (b1,X)` (R216). -/
def execMCmpIzx (b1 : Byte) (s : State) : Host.Outcome State Fault Refusal :=
  .next (runMRead (cyc .main 0xC1 s) .cmp (.mem (.izx b1)) s)

/-- `CPY b1` (R218). -/
def execMCpyZp (b1 : Byte) (s : State) : Host.Outcome State Fault Refusal :=
  .next (runMRead (cyc .main 0xC4 s) .cpy (.mem (.zp b1)) s)

/-- `CMP b1` (R216). -/
def execMCmpZp (b1 : Byte) (s : State) : Host.Outcome State Fault Refusal :=
  .next (runMRead (cyc .main 0xC5 s) .cmp (.mem (.zp b1)) s)

/-- `DEC b1` (R221). -/
def execMDecZp (b1 : Byte) (s : State) : Host.Outcome State Fault Refusal :=
  .next (runMModify (cyc .main 0xC6 s) .dec (.zp b1) s)

/-- `INY` (R223). -/
def execMIny (s : State) : Host.Outcome State Fault Refusal := .next (runMImplied (cyc .main 0xC8 s) .iny s)

/-- `CMP #b1` (R216). -/
def execMCmpImm (b1 : Byte) (s : State) : Host.Outcome State Fault Refusal :=
  .next (runMRead (cyc .main 0xC9 s) .cmp (.imm b1) s)

/-- `DEX` (R224). -/
def execMDex (s : State) : Host.Outcome State Fault Refusal := .next (runMImplied (cyc .main 0xCA s) .dex s)

/-- `CPY nn` (R218). -/
def execMCpyAbs (b1 b2 : Byte) (s : State) : Host.Outcome State Fault Refusal :=
  .next (runMRead (cyc .main 0xCC s) .cpy (.mem (.abs b1 b2)) s)

/-- `CMP nn` (R216). -/
def execMCmpAbs (b1 b2 : Byte) (s : State) : Host.Outcome State Fault Refusal :=
  .next (runMRead (cyc .main 0xCD s) .cmp (.mem (.abs b1 b2)) s)

/-- `DEC nn` (R221). -/
def execMDecAbs (b1 b2 : Byte) (s : State) : Host.Outcome State Fault Refusal :=
  .next (runMModify (cyc .main 0xCE s) .dec (.abs b1 b2) s)

/-- `CMP (b1),Y` (R216). -/
def execMCmpIzy (b1 : Byte) (s : State) : Host.Outcome State Fault Refusal :=
  .next (runMRead (cyc .main 0xD1 s) .cmp (.mem (.izy b1)) s)

/-- `CMP b1,X` (R216). -/
def execMCmpZpx (b1 : Byte) (s : State) : Host.Outcome State Fault Refusal :=
  .next (runMRead (cyc .main 0xD5 s) .cmp (.mem (.zpx b1)) s)

/-- `DEC b1,X` (R221). -/
def execMDecZpx (b1 : Byte) (s : State) : Host.Outcome State Fault Refusal :=
  .next (runMModify (cyc .main 0xD6 s) .dec (.zpx b1) s)

/-- `CMP nn,Y` (R216). -/
def execMCmpAby (b1 b2 : Byte) (s : State) : Host.Outcome State Fault Refusal :=
  .next (runMRead (cyc .main 0xD9 s) .cmp (.mem (.aby b1 b2)) s)

/-- `CMP nn,X` (R216). -/
def execMCmpAbx (b1 b2 : Byte) (s : State) : Host.Outcome State Fault Refusal :=
  .next (runMRead (cyc .main 0xDD s) .cmp (.mem (.abx b1 b2)) s)

/-- `DEC nn,X` (R221). -/
def execMDecAbx (b1 b2 : Byte) (s : State) : Host.Outcome State Fault Refusal :=
  .next (runMModify (cyc .main 0xDE s) .dec (.abx b1 b2) s)

/-- `CPX #b1` (R217). -/
def execMCpxImm (b1 : Byte) (s : State) : Host.Outcome State Fault Refusal :=
  .next (runMRead (cyc .main 0xE0 s) .cpx (.imm b1) s)

/-- `SBC (b1,X)` (R212). -/
def execMSbcIzx (b1 : Byte) (s : State) : Host.Outcome State Fault Refusal :=
  .next (runMRead (cyc .main 0xE1 s) .sbc (.mem (.izx b1)) s)

/-- `CPX b1` (R217). -/
def execMCpxZp (b1 : Byte) (s : State) : Host.Outcome State Fault Refusal :=
  .next (runMRead (cyc .main 0xE4 s) .cpx (.mem (.zp b1)) s)

/-- `SBC b1` (R212). -/
def execMSbcZp (b1 : Byte) (s : State) : Host.Outcome State Fault Refusal :=
  .next (runMRead (cyc .main 0xE5 s) .sbc (.mem (.zp b1)) s)

/-- `INC b1` (R220). -/
def execMIncZp (b1 : Byte) (s : State) : Host.Outcome State Fault Refusal :=
  .next (runMModify (cyc .main 0xE6 s) .inc (.zp b1) s)

/-- `INX` (R222). -/
def execMInx (s : State) : Host.Outcome State Fault Refusal := .next (runMImplied (cyc .main 0xE8 s) .inx s)

/-- `SBC #b1` (R212). -/
def execMSbcImm (b1 : Byte) (s : State) : Host.Outcome State Fault Refusal :=
  .next (runMRead (cyc .main 0xE9 s) .sbc (.imm b1) s)

/-- `CPX nn` (R217). -/
def execMCpxAbs (b1 b2 : Byte) (s : State) : Host.Outcome State Fault Refusal :=
  .next (runMRead (cyc .main 0xEC s) .cpx (.mem (.abs b1 b2)) s)

/-- `SBC nn` (R212). -/
def execMSbcAbs (b1 b2 : Byte) (s : State) : Host.Outcome State Fault Refusal :=
  .next (runMRead (cyc .main 0xED s) .sbc (.mem (.abs b1 b2)) s)

/-- `INC nn` (R220). -/
def execMIncAbs (b1 b2 : Byte) (s : State) : Host.Outcome State Fault Refusal :=
  .next (runMModify (cyc .main 0xEE s) .inc (.abs b1 b2) s)

/-- `SBC (b1),Y` (R212). -/
def execMSbcIzy (b1 : Byte) (s : State) : Host.Outcome State Fault Refusal :=
  .next (runMRead (cyc .main 0xF1 s) .sbc (.mem (.izy b1)) s)

/-- `SBC b1,X` (R212). -/
def execMSbcZpx (b1 : Byte) (s : State) : Host.Outcome State Fault Refusal :=
  .next (runMRead (cyc .main 0xF5 s) .sbc (.mem (.zpx b1)) s)

/-- `INC b1,X` (R220). -/
def execMIncZpx (b1 : Byte) (s : State) : Host.Outcome State Fault Refusal :=
  .next (runMModify (cyc .main 0xF6 s) .inc (.zpx b1) s)

/-- `SBC nn,Y` (R212). -/
def execMSbcAby (b1 b2 : Byte) (s : State) : Host.Outcome State Fault Refusal :=
  .next (runMRead (cyc .main 0xF9 s) .sbc (.mem (.aby b1 b2)) s)

/-- `SBC nn,X` (R212). -/
def execMSbcAbx (b1 b2 : Byte) (s : State) : Host.Outcome State Fault Refusal :=
  .next (runMRead (cyc .main 0xFD s) .sbc (.mem (.abx b1 b2)) s)

/-- `INC nn,X` (R220). -/
def execMIncAbx (b1 b2 : Byte) (s : State) : Host.Outcome State Fault Refusal :=
  .next (runMModify (cyc .main 0xFE s) .inc (.abx b1 b2) s)

end Sys2Proof.Machine
end

