-- ==== Sys2Proof/Machine/M6502Control.lean ====
section
/-! DEFINITION. The meanings of the M6502 jumps, subroutines, branches, flag instructions, BRK and the halt sentinel (R241 to R263), one definition per instruction over the shapes of
Sys2Proof.Machine.M6502. -/

namespace Sys2Proof.Machine

/-- `BRK` (R254). -/
def execMBrk (s : State) : Host.Outcome State Fault Refusal := .next (runMBrk (cyc .main 0x00 s) s)

/-- `BPL rel(b1)` (R251). -/
def execMBpl (b1 : Byte) (s : State) : Host.Outcome State Fault Refusal :=
  .next (runMBranch (cyc .main 0x10 s) .pl b1 s)

/-- `CLC` (R255). -/
def execMClc (s : State) : Host.Outcome State Fault Refusal := .next (runMImplied (cyc .main 0x18 s) .clc s)

/-- `JSR nn` (R242). -/
def execMJsr (b1 b2 : Byte) (s : State) : Host.Outcome State Fault Refusal := .next (runMJsr (cyc .main 0x20 s) b1 b2 s)

/-- `the halt sentinel` (R263). -/
def execMHaltSentinel (s : State) : Host.Outcome State Fault Refusal := .next (runMHalt s)

/-- `BMI rel(b1)` (R250). -/
def execMBmi (b1 : Byte) (s : State) : Host.Outcome State Fault Refusal :=
  .next (runMBranch (cyc .main 0x30 s) .mi b1 s)

/-- `SEC` (R256). -/
def execMSec (s : State) : Host.Outcome State Fault Refusal := .next (runMImplied (cyc .main 0x38 s) .sec s)

/-- `RTI` (R244). -/
def execMRti (s : State) : Host.Outcome State Fault Refusal := .next (runMRti (cyc .main 0x40 s) s)

/-- `JMP nn` (R241). -/
def execMJmpAbs (b1 b2 : Byte) (s : State) : Host.Outcome State Fault Refusal :=
  .next (runMJmp (cyc .main 0x4C s) b1 b2 s)

/-- `BVC rel(b1)` (R252). -/
def execMBvc (b1 : Byte) (s : State) : Host.Outcome State Fault Refusal :=
  .next (runMBranch (cyc .main 0x50 s) .vc b1 s)

/-- `CLI` (R259). -/
def execMCli (s : State) : Host.Outcome State Fault Refusal := .next (runMImplied (cyc .main 0x58 s) .cli s)

/-- `RTS` (R243). -/
def execMRts (s : State) : Host.Outcome State Fault Refusal := .next (runMRts (cyc .main 0x60 s) s)

/-- `JMP (nn)` (R241). -/
def execMJmpInd (b1 b2 : Byte) (s : State) : Host.Outcome State Fault Refusal :=
  .next (runMJmpInd (cyc .main 0x6C s) b1 b2 s)

/-- `BVS rel(b1)` (R253). -/
def execMBvs (b1 : Byte) (s : State) : Host.Outcome State Fault Refusal :=
  .next (runMBranch (cyc .main 0x70 s) .vs b1 s)

/-- `SEI` (R260). -/
def execMSei (s : State) : Host.Outcome State Fault Refusal := .next (runMImplied (cyc .main 0x78 s) .sei s)

/-- `BCC rel(b1)` (R246). -/
def execMBcc (b1 : Byte) (s : State) : Host.Outcome State Fault Refusal :=
  .next (runMBranch (cyc .main 0x90 s) .cc b1 s)

/-- `BCS rel(b1)` (R247). -/
def execMBcs (b1 : Byte) (s : State) : Host.Outcome State Fault Refusal :=
  .next (runMBranch (cyc .main 0xB0 s) .cs b1 s)

/-- `CLV` (R261). -/
def execMClv (s : State) : Host.Outcome State Fault Refusal := .next (runMImplied (cyc .main 0xB8 s) .clv s)

/-- `BNE rel(b1)` (R249). -/
def execMBne (b1 : Byte) (s : State) : Host.Outcome State Fault Refusal :=
  .next (runMBranch (cyc .main 0xD0 s) .ne b1 s)

/-- `CLD` (R257). -/
def execMCld (s : State) : Host.Outcome State Fault Refusal := .next (runMImplied (cyc .main 0xD8 s) .cld s)

/-- `NOP` (R262). -/
def execMNop (s : State) : Host.Outcome State Fault Refusal := .next (runMImplied (cyc .main 0xEA s) .nop s)

/-- `BEQ rel(b1)` (R248). -/
def execMBeq (b1 : Byte) (s : State) : Host.Outcome State Fault Refusal :=
  .next (runMBranch (cyc .main 0xF0 s) .eq b1 s)

/-- `SED` (R258). -/
def execMSed (s : State) : Host.Outcome State Fault Refusal := .next (runMImplied (cyc .main 0xF8 s) .sed s)

end Sys2Proof.Machine
end

