-- ==== Sys2Proof/Machine/M6502Load.lean ====
section
/-! DEFINITION. The meanings of the M6502 loads, stores, transfers and stack operations (R182 to R197), one definition per instruction over the shapes of
Sys2Proof.Machine.M6502. -/

namespace Sys2Proof.Machine

/-- `PHP` (R195). -/
def execMPhp (s : State) : Host.Outcome State Fault Refusal := .next (runMPhp (cyc .main 0x08 s) s)

/-- `PLP` (R197). -/
def execMPlp (s : State) : Host.Outcome State Fault Refusal := .next (runMPlp (cyc .main 0x28 s) s)

/-- `PHA` (R194). -/
def execMPha (s : State) : Host.Outcome State Fault Refusal := .next (runMPha (cyc .main 0x48 s) s)

/-- `PLA` (R196). -/
def execMPla (s : State) : Host.Outcome State Fault Refusal := .next (runMPla (cyc .main 0x68 s) s)

/-- `STA (b1,X)` (R185). -/
def execMStaIzx (b1 : Byte) (s : State) : Host.Outcome State Fault Refusal :=
  .next (runMStore (cyc .main 0x81 s) .a (.izx b1) s)

/-- `STY b1` (R187). -/
def execMStyZp (b1 : Byte) (s : State) : Host.Outcome State Fault Refusal :=
  .next (runMStore (cyc .main 0x84 s) .y (.zp b1) s)

/-- `STA b1` (R185). -/
def execMStaZp (b1 : Byte) (s : State) : Host.Outcome State Fault Refusal :=
  .next (runMStore (cyc .main 0x85 s) .a (.zp b1) s)

/-- `STX b1` (R186). -/
def execMStxZp (b1 : Byte) (s : State) : Host.Outcome State Fault Refusal :=
  .next (runMStore (cyc .main 0x86 s) .x (.zp b1) s)

/-- `TXA` (R190). -/
def execMTxa (s : State) : Host.Outcome State Fault Refusal := .next (runMImplied (cyc .main 0x8A s) .txa s)

/-- `STY nn` (R187). -/
def execMStyAbs (b1 b2 : Byte) (s : State) : Host.Outcome State Fault Refusal :=
  .next (runMStore (cyc .main 0x8C s) .y (.abs b1 b2) s)

/-- `STA nn` (R185). -/
def execMStaAbs (b1 b2 : Byte) (s : State) : Host.Outcome State Fault Refusal :=
  .next (runMStore (cyc .main 0x8D s) .a (.abs b1 b2) s)

/-- `STX nn` (R186). -/
def execMStxAbs (b1 b2 : Byte) (s : State) : Host.Outcome State Fault Refusal :=
  .next (runMStore (cyc .main 0x8E s) .x (.abs b1 b2) s)

/-- `STA (b1),Y` (R185). -/
def execMStaIzy (b1 : Byte) (s : State) : Host.Outcome State Fault Refusal :=
  .next (runMStore (cyc .main 0x91 s) .a (.izy b1) s)

/-- `STY b1,X` (R187). -/
def execMStyZpx (b1 : Byte) (s : State) : Host.Outcome State Fault Refusal :=
  .next (runMStore (cyc .main 0x94 s) .y (.zpx b1) s)

/-- `STA b1,X` (R185). -/
def execMStaZpx (b1 : Byte) (s : State) : Host.Outcome State Fault Refusal :=
  .next (runMStore (cyc .main 0x95 s) .a (.zpx b1) s)

/-- `STX b1,Y` (R186). -/
def execMStxZpy (b1 : Byte) (s : State) : Host.Outcome State Fault Refusal :=
  .next (runMStore (cyc .main 0x96 s) .x (.zpy b1) s)

/-- `TYA` (R191). -/
def execMTya (s : State) : Host.Outcome State Fault Refusal := .next (runMImplied (cyc .main 0x98 s) .tya s)

/-- `STA nn,Y` (R185). -/
def execMStaAby (b1 b2 : Byte) (s : State) : Host.Outcome State Fault Refusal :=
  .next (runMStore (cyc .main 0x99 s) .a (.aby b1 b2) s)

/-- `TXS` (R193). -/
def execMTxs (s : State) : Host.Outcome State Fault Refusal := .next (runMImplied (cyc .main 0x9A s) .txs s)

/-- `STA nn,X` (R185). -/
def execMStaAbx (b1 b2 : Byte) (s : State) : Host.Outcome State Fault Refusal :=
  .next (runMStore (cyc .main 0x9D s) .a (.abx b1 b2) s)

/-- `LDY #b1` (R184). -/
def execMLdyImm (b1 : Byte) (s : State) : Host.Outcome State Fault Refusal :=
  .next (runMRead (cyc .main 0xA0 s) .ldy (.imm b1) s)

/-- `LDA (b1,X)` (R182). -/
def execMLdaIzx (b1 : Byte) (s : State) : Host.Outcome State Fault Refusal :=
  .next (runMRead (cyc .main 0xA1 s) .lda (.mem (.izx b1)) s)

/-- `LDX #b1` (R183). -/
def execMLdxImm (b1 : Byte) (s : State) : Host.Outcome State Fault Refusal :=
  .next (runMRead (cyc .main 0xA2 s) .ldx (.imm b1) s)

/-- `LDY b1` (R184). -/
def execMLdyZp (b1 : Byte) (s : State) : Host.Outcome State Fault Refusal :=
  .next (runMRead (cyc .main 0xA4 s) .ldy (.mem (.zp b1)) s)

/-- `LDA b1` (R182). -/
def execMLdaZp (b1 : Byte) (s : State) : Host.Outcome State Fault Refusal :=
  .next (runMRead (cyc .main 0xA5 s) .lda (.mem (.zp b1)) s)

/-- `LDX b1` (R183). -/
def execMLdxZp (b1 : Byte) (s : State) : Host.Outcome State Fault Refusal :=
  .next (runMRead (cyc .main 0xA6 s) .ldx (.mem (.zp b1)) s)

/-- `TAY` (R189). -/
def execMTay (s : State) : Host.Outcome State Fault Refusal := .next (runMImplied (cyc .main 0xA8 s) .tay s)

/-- `LDA #b1` (R182). -/
def execMLdaImm (b1 : Byte) (s : State) : Host.Outcome State Fault Refusal :=
  .next (runMRead (cyc .main 0xA9 s) .lda (.imm b1) s)

/-- `TAX` (R188). -/
def execMTax (s : State) : Host.Outcome State Fault Refusal := .next (runMImplied (cyc .main 0xAA s) .tax s)

/-- `LDY nn` (R184). -/
def execMLdyAbs (b1 b2 : Byte) (s : State) : Host.Outcome State Fault Refusal :=
  .next (runMRead (cyc .main 0xAC s) .ldy (.mem (.abs b1 b2)) s)

/-- `LDA nn` (R182). -/
def execMLdaAbs (b1 b2 : Byte) (s : State) : Host.Outcome State Fault Refusal :=
  .next (runMRead (cyc .main 0xAD s) .lda (.mem (.abs b1 b2)) s)

/-- `LDX nn` (R183). -/
def execMLdxAbs (b1 b2 : Byte) (s : State) : Host.Outcome State Fault Refusal :=
  .next (runMRead (cyc .main 0xAE s) .ldx (.mem (.abs b1 b2)) s)

/-- `LDA (b1),Y` (R182). -/
def execMLdaIzy (b1 : Byte) (s : State) : Host.Outcome State Fault Refusal :=
  .next (runMRead (cyc .main 0xB1 s) .lda (.mem (.izy b1)) s)

/-- `LDY b1,X` (R184). -/
def execMLdyZpx (b1 : Byte) (s : State) : Host.Outcome State Fault Refusal :=
  .next (runMRead (cyc .main 0xB4 s) .ldy (.mem (.zpx b1)) s)

/-- `LDA b1,X` (R182). -/
def execMLdaZpx (b1 : Byte) (s : State) : Host.Outcome State Fault Refusal :=
  .next (runMRead (cyc .main 0xB5 s) .lda (.mem (.zpx b1)) s)

/-- `LDX b1,Y` (R183). -/
def execMLdxZpy (b1 : Byte) (s : State) : Host.Outcome State Fault Refusal :=
  .next (runMRead (cyc .main 0xB6 s) .ldx (.mem (.zpy b1)) s)

/-- `LDA nn,Y` (R182). -/
def execMLdaAby (b1 b2 : Byte) (s : State) : Host.Outcome State Fault Refusal :=
  .next (runMRead (cyc .main 0xB9 s) .lda (.mem (.aby b1 b2)) s)

/-- `TSX` (R192). -/
def execMTsx (s : State) : Host.Outcome State Fault Refusal := .next (runMImplied (cyc .main 0xBA s) .tsx s)

/-- `LDY nn,X` (R184). -/
def execMLdyAbx (b1 b2 : Byte) (s : State) : Host.Outcome State Fault Refusal :=
  .next (runMRead (cyc .main 0xBC s) .ldy (.mem (.abx b1 b2)) s)

/-- `LDA nn,X` (R182). -/
def execMLdaAbx (b1 b2 : Byte) (s : State) : Host.Outcome State Fault Refusal :=
  .next (runMRead (cyc .main 0xBD s) .lda (.mem (.abx b1 b2)) s)

/-- `LDX nn,Y` (R183). -/
def execMLdxAby (b1 b2 : Byte) (s : State) : Host.Outcome State Fault Refusal :=
  .next (runMRead (cyc .main 0xBE s) .ldx (.mem (.aby b1 b2)) s)

end Sys2Proof.Machine
end

