-- ==== Sys2Proof/Machine/Z80.lean ====
section
/-! DEFINITION. The Z80 instructions by shape: what each operation does to registers and flags, and the shapes every meaning
of the family is an instance of (R270 to R411). Every instruction that writes a flag uses one free value (R35). The argument
`c` of a shape is the `CYC` of the row (R153). -/

namespace Sys2Proof

open Machine

/-- What an accumulator operation does with its operand; `u` is the free value (R321 to R328). -/
def ZAlu.apply (op : ZAlu) (u v : Byte) (z : Z80Regs) : Z80Regs :=
  match op with
  | .add => { z with a := (add8 u z.a v false z.f).1, f := (add8 u z.a v false z.f).2 }
  | .adc => { z with a := (add8 u z.a v z.f.c z.f).1, f := (add8 u z.a v z.f.c z.f).2 }
  | .sub => { z with a := (sub8 u z.a v false z.f).1, f := (sub8 u z.a v false z.f).2 }
  | .sbc => { z with a := (sub8 u z.a v z.f.c z.f).1, f := (sub8 u z.a v z.f.c z.f).2 }
  | .and => { z with a := z.a &&& v, f := logicZ u (z.a &&& v) true z.f }
  | .xor => { z with a := z.a ^^^ v, f := logicZ u (z.a ^^^ v) false z.f }
  | .or => { z with a := z.a ||| v, f := logicZ u (z.a ||| v) false z.f }
  | .cp => { z with f := (sub8 u z.a v false z.f).2 }

/-- `DAA`, `CPL`, `NEG`, `CCF`, `SCF` (R335 to R339). -/
def ZGen.apply (op : ZGen) (u : Byte) (z : Z80Regs) : Z80Regs :=
  match op with
  | .daa => { z with a := (daaZ u z.a z.f).1, f := (daaZ u z.a z.f).2 }
  | .cpl => { z with a := z.a ^^^ 0xFF, f := cplZ u z.f }
  | .neg => { z with a := (sub8 u 0 z.a false z.f).1, f := (sub8 u 0 z.a false z.f).2 }
  | .ccf => { z with f := ccfZ u z.f }
  | .scf => { z with f := scfZ u z.f }

/-- The cost of a general-purpose operation (R139): NEG has a prefix. -/
def ZGen.cost (op : ZGen) (c : Nat) : Cost :=
  match op with
  | .daa => ⟨1, c, 1⟩
  | .cpl => ⟨1, c, 1⟩
  | .neg => ⟨2, c, 2⟩
  | .ccf => ⟨1, c, 1⟩
  | .scf => ⟨1, c, 1⟩

/-- INC or DEC of a byte with its flags (R329, R332). -/
def IncDec.byte (op : IncDec) (u v : Byte) (f : ZFlags) : Byte × ZFlags :=
  match op with
  | .inc => incZ u v f
  | .dec => decZ u v f

/-- INC or DEC of a pair, without flags (R344 to R347). -/
def IncDec.pair (op : IncDec) (w : Word) : Word :=
  match op with
  | .inc => w + 1
  | .dec => w - 1

/-- The sum or difference of HL and a pair with its flags (R340 to R342). -/
def ZArith16.calc (op : ZArith16) (u : Byte) (a b : Word) (f : ZFlags) : Word × ZFlags :=
  match op with
  | .add => add16 u a b f
  | .adc => adc16 u a b f
  | .sbc => sbc16 u a b f

/-- The cost of 16-bit arithmetic on HL (R139). -/
def ZArith16.cost (op : ZArith16) (c : Nat) : Cost :=
  match op with
  | .add => ⟨1, c, 1⟩
  | .adc => ⟨2, c, 2⟩
  | .sbc => ⟨2, c, 2⟩

/-- `I` or `R`. -/
def IR.get (k : IR) (z : Z80Regs) : Byte :=
  match k with
  | .i => z.i
  | .r => z.r

/-- Write `I` or `R`. -/
def IR.set (k : IR) (v : Byte) (z : Z80Regs) : Z80Regs :=
  match k with
  | .i => { z with i := v }
  | .r => { z with r := v }

/-- `v | (1 << b)` (R364). -/
def setBitZ (b : Nat) (v : Byte) : Byte := v ||| (1#8 <<< b)

/-- `v & ~(1 << b)` (R365). -/
def resBitZ (b : Nat) (v : Byte) : Byte := v &&& ~~~(1#8 <<< b)

end Sys2Proof

namespace Sys2Proof.Machine

/-! ### Shapes -/

/-- Registers only, no flag written. -/
def zRegs (k : Cost) (f : Z80Regs → Z80Regs) (s : State) : State :=
  let t := beginZ k s
  { t with z := f t.z }

/-- Registers and flags. -/
def zFlags (k : Cost) (f : Byte → Z80Regs → Z80Regs) (s : State) : State :=
  let t := beginZ k s
  drawn { t with z := f (freeBits t) t.z }

/-- One byte read, no flag written. -/
def zLoad (k : Cost) (addr : Z80Regs → Word) (f : Byte → Z80Regs → Z80Regs) (s : State) : State :=
  let t := beginZ k s
  let x := memRead (addr t.z) t
  { x.2 with z := f x.1 x.2.z }

/-- One byte read, flags written. -/
def zLoadFlags (k : Cost) (addr : Z80Regs → Word) (f : Byte → Byte → Z80Regs → Z80Regs) (s : State) : State :=
  let t := beginZ k s
  let x := memRead (addr t.z) t
  drawn { x.2 with z := f (freeBits x.2) x.1 x.2.z }

/-- One byte stored. -/
def zStore (k : Cost) (addr : Z80Regs → Word) (val : Z80Regs → Byte) (s : State) : State :=
  let t := beginZ k s
  memWrite (addr t.z) (val t.z) t

/-- One read then one write of the same byte, no flag written (R90). -/
def zModify (k : Cost) (addr : Z80Regs → Word) (f : Byte → Byte) (s : State) : State :=
  let t := beginZ k s
  let x := memRead (addr t.z) t
  memWrite (addr t.z) (f x.1) x.2

/-- One read then one write of the same byte, with flags (R90). -/
def zModifyFlags (k : Cost) (addr : Z80Regs → Word) (f : Byte → Byte → Z80Regs → Byte × Z80Regs) (s : State) : State :=
  let t := beginZ k s
  let x := memRead (addr t.z) t
  let y := f (freeBits x.2) x.1 x.2.z
  let w := memWrite (addr t.z) y.1 x.2
  drawn { w with z := y.2 }

/-- Two bytes read, low byte first. -/
def zLoad16 (k : Cost) (a : Word) (f : Word → Z80Regs → Z80Regs) (s : State) : State :=
  let x := memRead16 a (beginZ k s)
  { x.2 with z := f x.1 x.2.z }

/-- Two bytes stored, low byte first. -/
def zStore16 (k : Cost) (a : Word) (val : Z80Regs → Word) (s : State) : State :=
  let t := beginZ k s
  memWrite16 a (val t.z) t

/-- `pc <- target` after the instruction's bytes. -/
def zJump (k : Cost) (target : State → Word) (s : State) : State :=
  let t := beginZ k s
  { t with pc := target t }

/-- A block instruction that repeats: `pc <- pc0` and its `EXTRA` (R140, R308); `t` is the state after one step. -/
def zRepeat (again : Bool) (s t : State) : State := if again then charge s.cfg.extra.blockRepeat { t with pc := s.pc } else t

/-! ### Loads (R272 to R297) -/

/-- `LD r,r'` (R272). -/
def runZLdRR (c : Nat) (r r' : R8) (s : State) : State := zRegs ⟨1, c, 1⟩ (fun z => r.set (r'.get z) z) s

/-- `LD r,n` (R273). -/
def runZLdRN (c : Nat) (r : R8) (n : Byte) (s : State) : State := zRegs ⟨2, c, 1⟩ (fun z => r.set n z) s

/-- `LD r,(HL)` and `LD r,(XY+d)` (R274, R275). -/
def runZLdRM (c : Nat) (r : R8) (m : ZMem) (s : State) : State := zLoad (m.cost ⟨1, c, 1⟩ ⟨3, c, 2⟩) m.addr r.set s

/-- `LD (HL),r` and `LD (XY+d),r` (R276, R277). -/
def runZLdMR (c : Nat) (m : ZMem) (r : R8) (s : State) : State := zStore (m.cost ⟨1, c, 1⟩ ⟨3, c, 2⟩) m.addr r.get s

/-- `LD (HL),n` and `LD (XY+d),n` (R278, R279). -/
def runZLdMN (c : Nat) (m : ZMem) (n : Byte) (s : State) : State := zStore (m.cost ⟨2, c, 1⟩ ⟨4, c, 2⟩) m.addr (fun _ => n) s

/-- `LD A,(BC)` and `LD A,(DE)` (R280). -/
def runZLdAP (c : Nat) (p : RP) (s : State) : State := zLoad ⟨1, c, 1⟩ p.get (R8.set .a) s

/-- `LD A,(nn)` (R281). -/
def runZLdANn (c : Nat) (lo hi : Byte) (s : State) : State := zLoad ⟨3, c, 1⟩ (fun _ => word lo hi) (R8.set .a) s

/-- `LD (BC),A` and `LD (DE),A` (R282). -/
def runZLdPA (c : Nat) (p : RP) (s : State) : State := zStore ⟨1, c, 1⟩ p.get Z80Regs.a s

/-- `LD (nn),A` (R283). -/
def runZLdNnA (c : Nat) (lo hi : Byte) (s : State) : State := zStore ⟨3, c, 1⟩ (fun _ => word lo hi) Z80Regs.a s

/-- `LD A,I` and `LD A,R` (R284, R285): R is read after this instruction's own fetches. -/
def runZLdAIR (c : Nat) (k : IR) (s : State) : State :=
  zFlags ⟨2, c, 2⟩ (fun u z => { z with a := k.get z, f := irFlagsZ u (k.get z) z.iff2 z.f }) s

/-- `LD I,A` and `LD R,A` (R286, R287). -/
def runZLdIRA (c : Nat) (k : IR) (s : State) : State := zRegs ⟨2, c, 2⟩ (fun z => k.set z.a z) s

/-- `LD dd,nn` and `LD XY,nn` (R288, R289). -/
def runZLdPN (c : Nat) (p : Pair) (lo hi : Byte) (s : State) : State :=
  zRegs (p.cost ⟨3, c, 1⟩ ⟨4, c, 2⟩) (p.set (word lo hi)) s

/-- `LD HL,(nn)`, the short encoding (R290). -/
def runZLdHLNn (c : Nat) (lo hi : Byte) (s : State) : State := zLoad16 ⟨3, c, 1⟩ (word lo hi) (RP.set .hl) s

/-- `LD dd,(nn)` and `LD XY,(nn)` (R291, R292). -/
def runZLdPNn (c : Nat) (p : Pair) (lo hi : Byte) (s : State) : State := zLoad16 ⟨4, c, 2⟩ (word lo hi) p.set s

/-- `LD (nn),HL`, the short encoding (R293). -/
def runZLdNnHL (c : Nat) (lo hi : Byte) (s : State) : State := zStore16 ⟨3, c, 1⟩ (word lo hi) Z80Regs.hl s

/-- `LD (nn),dd` and `LD (nn),XY` (R294, R295). -/
def runZLdNnP (c : Nat) (p : Pair) (lo hi : Byte) (s : State) : State := zStore16 ⟨4, c, 2⟩ (word lo hi) p.get s

/-- `LD SP,HL` and `LD SP,XY` (R296, R297). -/
def runZLdSP (c : Nat) (p : HLXY) (s : State) : State := zRegs (p.cost ⟨1, c, 1⟩ ⟨2, c, 2⟩) (fun z => { z with sp := p.get z }) s

/-- `PUSH` (R298, R299). -/
def runZPush (c : Nat) (p : StackPair) (s : State) : State :=
  let t := beginZ (p.cost ⟨1, c, 1⟩ ⟨2, c, 2⟩) s
  push16 (p.get t.z) t

/-- `POP` (R300, R301). -/
def runZPop (c : Nat) (p : StackPair) (s : State) : State :=
  let x := pop16 (beginZ (p.cost ⟨1, c, 1⟩ ⟨2, c, 2⟩) s)
  { x.2 with z := p.set x.1 x.2.z }

/-! ### Exchanges (R302 to R306) -/

/-- `EX DE,HL` (R302). -/
def runZExDEHL (c : Nat) (s : State) : State := zRegs ⟨1, c, 1⟩ (fun z => { z with de := z.hl, hl := z.de }) s

/-- `EX AF,AF'` (R303). -/
def runZExAF (c : Nat) (s : State) : State :=
  zRegs ⟨1, c, 1⟩ (fun z => { z with a := z.aAlt, f := z.fAlt, aAlt := z.a, fAlt := z.f }) s

/-- `EXX` (R304). -/
def runZExx (c : Nat) (s : State) : State :=
  zRegs ⟨1, c, 1⟩ (fun z =>
    { z with bc := z.bcAlt, de := z.deAlt, hl := z.hlAlt, bcAlt := z.bc, deAlt := z.de, hlAlt := z.hl }) s

/-- `EX (SP),HL` and `EX (SP),XY`: two reads, then the high byte and the low byte are written (R305, R306). -/
def runZExSP (c : Nat) (p : HLXY) (s : State) : State :=
  let t := beginZ (p.cost ⟨1, c, 1⟩ ⟨2, c, 2⟩) s
  let x := memRead16 t.z.sp t
  let w := memWrite t.z.sp (lo8 (p.get t.z)) (memWrite (t.z.sp + 1) (hi8 (p.get t.z)) x.2)
  { w with z := p.set x.1 w.z }

/-! ### Block transfer and search (R307 to R314) -/

/-- The registers after one transfer (R307, R309). -/
def ldBlockRegs (d : Dir) (u : Byte) (z : Z80Regs) : Z80Regs :=
  { z with
    hl := d.move z.hl
    de := d.move z.de
    bc := z.bc - 1
    f := ldBlockFlagsZ u (z.bc - 1 != 0) z.f }

/-- `LDI`, `LDD`, and `LDIR`, `LDDR` when `rep` (R307 to R310). -/
def runZLdBlock (c : Nat) (d : Dir) (rep : Bool) (s : State) : State :=
  let t := beginZ ⟨2, c, 2⟩ s
  let x := memRead t.z.hl t
  let w := memWrite t.z.de x.1 x.2
  let t' := drawn { w with z := ldBlockRegs d (freeBits w) w.z }
  zRepeat (rep && t'.z.bc != 0) s t'

/-- The registers after one comparison (R311, R313). -/
def cpBlockRegs (d : Dir) (u v : Byte) (z : Z80Regs) : Z80Regs :=
  { z with
    hl := d.move z.hl
    bc := z.bc - 1
    f := cpBlockFlagsZ u z.a v (z.bc - 1 != 0) z.f }

/-- `CPI`, `CPD`, and `CPIR`, `CPDR` when `rep` (R311 to R314). -/
def runZCpBlock (c : Nat) (d : Dir) (rep : Bool) (s : State) : State :=
  let t := zLoadFlags ⟨2, c, 2⟩ Z80Regs.hl (cpBlockRegs d) s
  zRepeat (rep && t.z.bc != 0 && !t.z.f.z) s t

/-! ### Arithmetic and logic (R320 to R347) -/

/-- The eight accumulator operations (R321 to R328). -/
def runZAlu (c : Nat) (op : ZAlu) (src : ZSrc) (s : State) : State :=
  match src with
  | .reg r => zFlags ⟨1, c, 1⟩ (fun u z => op.apply u (r.get z) z) s
  | .imm n => zFlags ⟨2, c, 1⟩ (fun u z => op.apply u n z) s
  | .mem m => zLoadFlags (m.cost ⟨1, c, 1⟩ ⟨3, c, 2⟩) m.addr op.apply s

/-- `INC r` and `DEC r` (R329, R332). -/
def runZIncDecR (c : Nat) (op : IncDec) (r : R8) (s : State) : State :=
  zFlags ⟨1, c, 1⟩ (fun u z =>
    let y := op.byte u (r.get z) z.f
    { r.set y.1 z with f := y.2 }) s

/-- `INC (HL)`, `DEC (HL)` and the indexed forms (R330, R331, R333, R334). -/
def runZIncDecM (c : Nat) (op : IncDec) (m : ZMem) (s : State) : State :=
  zModifyFlags (m.cost ⟨1, c, 1⟩ ⟨3, c, 2⟩) m.addr (fun u v z =>
    let y := op.byte u v z.f
    (y.1, { z with f := y.2 })) s

/-- `DAA`, `CPL`, `NEG`, `CCF`, `SCF` (R335 to R339). -/
def runZGen (c : Nat) (op : ZGen) (s : State) : State := zFlags (op.cost c) op.apply s

/-- `ADD HL,ss`, `ADC HL,ss`, `SBC HL,ss` (R340 to R342). -/
def runZArith16 (c : Nat) (op : ZArith16) (p : RP) (s : State) : State :=
  zFlags (op.cost c) (fun u z =>
    let y := op.calc u z.hl (p.get z) z.f
    { z with hl := y.1, f := y.2 }) s

/-- `ADD XY,pp` (R343). -/
def runZAddXY (c : Nat) (x : XY) (p : PP) (s : State) : State :=
  zFlags ⟨2, c, 2⟩ (fun u z =>
    let y := add16 u (x.get z) (p.get x z) z.f
    { x.set y.1 z with f := y.2 }) s

/-- `INC ss`, `DEC ss`, `INC XY`, `DEC XY` (R344 to R347). -/
def runZIncDec16 (c : Nat) (op : IncDec) (p : Pair) (s : State) : State :=
  zRegs (p.cost ⟨1, c, 1⟩ ⟨2, c, 2⟩) (fun z => p.set (op.pair (p.get z)) z) s

/-! ### Rotates, shifts, bits (R348 to R365) -/

/-- `RLCA`, `RRCA`, `RLA`, `RRA` (R348 to R351). -/
def runZAccRot (c : Nat) (op : ZAccRot) (s : State) : State :=
  zFlags ⟨1, c, 1⟩ (fun u z => { z with a := (accRotZ op u z.a z.f).1, f := (accRotZ op u z.a z.f).2 }) s

/-- The seven rotates and shifts (R352 to R358). -/
def runZRot (c : Nat) (op : ZRot) (tgt : ZTgt) (s : State) : State :=
  match tgt with
  | .reg r => zFlags ⟨2, c, 2⟩ (fun u z =>
      let y := rotFlagsZ op u (r.get z) z.f
      { r.set y.1 z with f := y.2 }) s
  | .mem m => zModifyFlags (m.cost ⟨2, c, 2⟩ ⟨4, c, 2⟩) m.addr (fun u v z =>
      let y := rotFlagsZ op u v z.f
      (y.1, { z with f := y.2 })) s

/-- The accumulator with its low half replaced by a half of the memory byte. -/
def digitA (a half : Byte) : Byte := (a &&& 0xF0) ||| half

/-- `RLD` (R359). -/
def runZRld (c : Nat) (s : State) : State :=
  zModifyFlags ⟨2, c, 2⟩ Z80Regs.hl (fun u v z =>
    ((v <<< 4) ||| (z.a &&& 0x0F),
      { z with a := digitA z.a (v >>> 4), f := inFlagsZ u (digitA z.a (v >>> 4)) z.f })) s

/-- `RRD` (R360). -/
def runZRrd (c : Nat) (s : State) : State :=
  zModifyFlags ⟨2, c, 2⟩ Z80Regs.hl (fun u v z =>
    (((z.a &&& 0x0F) <<< 4) ||| (v >>> 4),
      { z with a := digitA z.a (v &&& 0x0F), f := inFlagsZ u (digitA z.a (v &&& 0x0F)) z.f })) s

/-- `BIT b` (R361 to R363). -/
def runZBit (c : Nat) (b : Nat) (tgt : ZTgt) (s : State) : State :=
  match tgt with
  | .reg r => zFlags ⟨2, c, 2⟩ (fun u z => { z with f := bitZ u (r.get z) b z.f }) s
  | .mem m => zLoadFlags (m.cost ⟨2, c, 2⟩ ⟨4, c, 2⟩) m.addr (fun u v z => { z with f := bitZ u v b z.f }) s

/-- `SET b` (R364). -/
def runZSet (c : Nat) (b : Nat) (tgt : ZTgt) (s : State) : State :=
  match tgt with
  | .reg r => zRegs ⟨2, c, 2⟩ (fun z => r.set (setBitZ b (r.get z)) z) s
  | .mem m => zModify (m.cost ⟨2, c, 2⟩ ⟨4, c, 2⟩) m.addr (setBitZ b) s

/-- `RES b` (R365). -/
def runZRes (c : Nat) (b : Nat) (tgt : ZTgt) (s : State) : State :=
  match tgt with
  | .reg r => zRegs ⟨2, c, 2⟩ (fun z => r.set (resBitZ b (r.get z)) z) s
  | .mem m => zModify (m.cost ⟨2, c, 2⟩ ⟨4, c, 2⟩) m.addr (resBitZ b) s

/-! ### Jumps, calls, returns (R381 to R394) -/

/-- `JP nn` (R381). -/
def runZJp (c : Nat) (lo hi : Byte) (s : State) : State := zJump ⟨3, c, 1⟩ (fun _ => word lo hi) s

/-- `JP cc,nn` (R382). -/
def runZJpCC (c : Nat) (k : CC) (lo hi : Byte) (s : State) : State :=
  zJump ⟨3, c, 1⟩ (fun t => if k.holds t.z.f then word lo hi else t.pc) s

/-- `JR e` (R383). -/
def runZJr (c : Nat) (e : Byte) (s : State) : State := zJump ⟨2, c, 1⟩ (fun t => t.pc + sext e) s

/-- `JR cc,e` (R384). -/
def runZJrCC (c : Nat) (k : CC) (e : Byte) (s : State) : State :=
  let t := beginZ ⟨2, c, 1⟩ s
  if k.holds t.z.f then charge s.cfg.extra.jrTaken { t with pc := t.pc + sext e } else t

/-- `JP (HL)` and `JP (XY)` (R385, R386). -/
def runZJpHL (c : Nat) (p : HLXY) (s : State) : State := zJump (p.cost ⟨1, c, 1⟩ ⟨2, c, 2⟩) (fun t => p.get t.z) s

/-- `DJNZ e` (R387). -/
def runZDjnz (c : Nat) (e : Byte) (s : State) : State :=
  let t := zRegs ⟨2, c, 1⟩ (fun z => R8.set .b (R8.get .b z - 1) z) s
  if R8.get .b t.z = 0 then t else charge s.cfg.extra.djnzTaken { t with pc := t.pc + sext e }

/-- `CALL nn` (R388). -/
def runZCall (c : Nat) (lo hi : Byte) (s : State) : State :=
  let t := beginZ ⟨3, c, 1⟩ s
  let w := push16 t.pc t
  { w with pc := word lo hi }

/-- `CALL cc,nn` (R389). -/
def runZCallCC (c : Nat) (k : CC) (lo hi : Byte) (s : State) : State :=
  let t := beginZ ⟨3, c, 1⟩ s
  if k.holds t.z.f then
    let w := push16 t.pc t
    charge s.cfg.extra.callTaken { w with pc := word lo hi }
  else t

/-- `RET` (R390). -/
def runZRet (c : Nat) (s : State) : State :=
  let x := pop16 (beginZ ⟨1, c, 1⟩ s)
  { x.2 with pc := x.1 }

/-- `RET cc` (R391). -/
def runZRetCC (c : Nat) (k : CC) (s : State) : State :=
  let t := beginZ ⟨1, c, 1⟩ s
  if k.holds t.z.f then
    let x := pop16 t
    charge s.cfg.extra.retTaken { x.2 with pc := x.1 }
  else t

/-- `RETI` (R392). -/
def runZReti (c : Nat) (s : State) : State :=
  let x := pop16 (beginZ ⟨2, c, 2⟩ s)
  { x.2 with pc := x.1 }

/-- `RETN` (R393). -/
def runZRetn (c : Nat) (s : State) : State :=
  let x := pop16 (beginZ ⟨2, c, 2⟩ s)
  { x.2 with pc := x.1, z := { x.2.z with iff1 := x.2.z.iff2 } }

/-- `RST p`, with `p = 8 * y` (R394). -/
def runZRst (c : Nat) (y : Nat) (s : State) : State :=
  let t := beginZ ⟨1, c, 1⟩ s
  let w := push16 t.pc t
  { w with pc := BitVec.ofNat 16 (8 * y) }

/-! ### CPU control (R395 to R399) -/

/-- `NOP` (R395). -/
def runZNop (c : Nat) (s : State) : State := zRegs ⟨1, c, 1⟩ (fun z => z) s

/-- `HALT`: the halt sentinel at the idle address, the documented HALT elsewhere (R159, R160, R396). -/
def runZHalt (s : State) : State :=
  let t := countFetches 1 s
  if s.pc = s.cfg.idleAddr then haltAtIdle t else haltElsewhere t

/-- `DI` (R397). -/
def runZDi (c : Nat) (s : State) : State := zRegs ⟨1, c, 1⟩ (fun z => { z with iff1 := false, iff2 := false }) s

/-- `EI` (R398). -/
def runZEi (c : Nat) (s : State) : State := zRegs ⟨1, c, 1⟩ (fun z => { z with iff1 := true, iff2 := true }) s

/-- `IM 0`, `IM 1`, `IM 2` (R399). -/
def runZIm (c : Nat) (m : ImMode) (s : State) : State := zRegs ⟨2, c, 2⟩ (fun z => { z with im := m }) s

/-! ### Input and output (R400 to R411) -/

/-- `IN A,(n)`: the old accumulator is the high byte of the port (R400). -/
def runZInAN (c : Nat) (n : Byte) (s : State) : State :=
  let t := beginZ ⟨2, c, 1⟩ s
  let x := portIn (word n t.z.a) t
  { x.2 with z := { x.2.z with a := x.1 } }

/-- `IN r,(C)` (R401). -/
def runZInRC (c : Nat) (r : R8) (s : State) : State :=
  let t := beginZ ⟨2, c, 2⟩ s
  let x := portIn t.z.bc t
  drawn { x.2 with z := { r.set x.1 x.2.z with f := inFlagsZ (freeBits x.2) x.1 x.2.z.f } }

/-- `OUT (n),A` (R406). -/
def runZOutNA (c : Nat) (n : Byte) (s : State) : State :=
  let t := beginZ ⟨2, c, 1⟩ s
  portOut (word n t.z.a) t.z.a t

/-- `OUT (C),r` (R407). -/
def runZOutCR (c : Nat) (r : R8) (s : State) : State :=
  let t := beginZ ⟨2, c, 2⟩ s
  portOut t.z.bc (r.get t.z) t

/-- The registers after one block input or output (R402, R408). -/
def ioBlockRegs (d : Dir) (u : Byte) (z : Z80Regs) : Z80Regs :=
  { z with
    hl := d.move z.hl
    bc := setHi z.bc (hi8 z.bc - 1)
    f := ioBlockFlagsZ u (hi8 z.bc - 1) z.f }

/-- `INI`, `IND`, and `INIR`, `INDR` when `rep`: the port is read with B before the decrement (R402 to R405). -/
def runZInBlock (c : Nat) (d : Dir) (rep : Bool) (s : State) : State :=
  let t := beginZ ⟨2, c, 2⟩ s
  let x := portIn t.z.bc t
  let w := memWrite x.2.z.hl x.1 x.2
  let t' := drawn { w with z := ioBlockRegs d (freeBits w) w.z }
  zRepeat (rep && R8.get .b t'.z != 0) s t'

/-- `OUTI`, `OUTD`, and `OTIR`, `OTDR` when `rep`: the port is written with B after the decrement (R408 to R411). -/
def runZOutBlock (c : Nat) (d : Dir) (rep : Bool) (s : State) : State :=
  let t := beginZ ⟨2, c, 2⟩ s
  let x := memRead t.z.hl t
  let w := portOut (setHi x.2.z.bc (hi8 x.2.z.bc - 1)) x.1 x.2
  let t' := drawn { w with z := ioBlockRegs d (freeBits w) w.z }
  zRepeat (rep && R8.get .b t'.z != 0) s t'

end Sys2Proof.Machine
end

