-- ==== Sys2Proof/Machine/Z80Alu.lean ====
section
/-! DEFINITION. The meanings of the Z80 8-bit and 16-bit arithmetic and logic (R321 to R347), one definition per instruction over the shapes of
Sys2Proof.Machine.Z80. -/

namespace Sys2Proof.Machine

/-- `INC BC` (R344). -/
def execZInc_BC (s : State) : Host.Outcome State Fault Refusal :=
  .next (runZIncDec16 (cyc .main 0x03 s) .inc (.rp .bc) s)

/-- `INC B` (R329). -/
def execZInc_B (s : State) : Host.Outcome State Fault Refusal := .next (runZIncDecR (cyc .main 0x04 s) .inc .b s)

/-- `DEC B` (R332). -/
def execZDec_B (s : State) : Host.Outcome State Fault Refusal := .next (runZIncDecR (cyc .main 0x05 s) .dec .b s)

/-- `ADD HL,BC` (R340). -/
def execZAdd_HL_BC (s : State) : Host.Outcome State Fault Refusal := .next (runZArith16 (cyc .main 0x09 s) .add .bc s)

/-- `DEC BC` (R346). -/
def execZDec_BC (s : State) : Host.Outcome State Fault Refusal :=
  .next (runZIncDec16 (cyc .main 0x0B s) .dec (.rp .bc) s)

/-- `INC C` (R329). -/
def execZInc_C (s : State) : Host.Outcome State Fault Refusal := .next (runZIncDecR (cyc .main 0x0C s) .inc .c s)

/-- `DEC C` (R332). -/
def execZDec_C (s : State) : Host.Outcome State Fault Refusal := .next (runZIncDecR (cyc .main 0x0D s) .dec .c s)

/-- `INC DE` (R344). -/
def execZInc_DE (s : State) : Host.Outcome State Fault Refusal :=
  .next (runZIncDec16 (cyc .main 0x13 s) .inc (.rp .de) s)

/-- `INC D` (R329). -/
def execZInc_D (s : State) : Host.Outcome State Fault Refusal := .next (runZIncDecR (cyc .main 0x14 s) .inc .d s)

/-- `DEC D` (R332). -/
def execZDec_D (s : State) : Host.Outcome State Fault Refusal := .next (runZIncDecR (cyc .main 0x15 s) .dec .d s)

/-- `ADD HL,DE` (R340). -/
def execZAdd_HL_DE (s : State) : Host.Outcome State Fault Refusal := .next (runZArith16 (cyc .main 0x19 s) .add .de s)

/-- `DEC DE` (R346). -/
def execZDec_DE (s : State) : Host.Outcome State Fault Refusal :=
  .next (runZIncDec16 (cyc .main 0x1B s) .dec (.rp .de) s)

/-- `INC E` (R329). -/
def execZInc_E (s : State) : Host.Outcome State Fault Refusal := .next (runZIncDecR (cyc .main 0x1C s) .inc .e s)

/-- `DEC E` (R332). -/
def execZDec_E (s : State) : Host.Outcome State Fault Refusal := .next (runZIncDecR (cyc .main 0x1D s) .dec .e s)

/-- `INC HL` (R344). -/
def execZInc_HL (s : State) : Host.Outcome State Fault Refusal :=
  .next (runZIncDec16 (cyc .main 0x23 s) .inc (.rp .hl) s)

/-- `INC H` (R329). -/
def execZInc_H (s : State) : Host.Outcome State Fault Refusal := .next (runZIncDecR (cyc .main 0x24 s) .inc .h s)

/-- `DEC H` (R332). -/
def execZDec_H (s : State) : Host.Outcome State Fault Refusal := .next (runZIncDecR (cyc .main 0x25 s) .dec .h s)

/-- `DAA` (R335). -/
def execZDaa (s : State) : Host.Outcome State Fault Refusal := .next (runZGen (cyc .main 0x27 s) .daa s)

/-- `ADD HL,HL` (R340). -/
def execZAdd_HL_HL (s : State) : Host.Outcome State Fault Refusal := .next (runZArith16 (cyc .main 0x29 s) .add .hl s)

/-- `DEC HL` (R346). -/
def execZDec_HL (s : State) : Host.Outcome State Fault Refusal :=
  .next (runZIncDec16 (cyc .main 0x2B s) .dec (.rp .hl) s)

/-- `INC L` (R329). -/
def execZInc_L (s : State) : Host.Outcome State Fault Refusal := .next (runZIncDecR (cyc .main 0x2C s) .inc .l s)

/-- `DEC L` (R332). -/
def execZDec_L (s : State) : Host.Outcome State Fault Refusal := .next (runZIncDecR (cyc .main 0x2D s) .dec .l s)

/-- `CPL` (R336). -/
def execZCpl (s : State) : Host.Outcome State Fault Refusal := .next (runZGen (cyc .main 0x2F s) .cpl s)

/-- `INC SP` (R344). -/
def execZInc_SP (s : State) : Host.Outcome State Fault Refusal :=
  .next (runZIncDec16 (cyc .main 0x33 s) .inc (.rp .sp) s)

/-- `INC (HL)` (R330). -/
def execZInc_atHL (s : State) : Host.Outcome State Fault Refusal := .next (runZIncDecM (cyc .main 0x34 s) .inc .hl s)

/-- `DEC (HL)` (R333). -/
def execZDec_atHL (s : State) : Host.Outcome State Fault Refusal := .next (runZIncDecM (cyc .main 0x35 s) .dec .hl s)

/-- `SCF` (R339). -/
def execZScf (s : State) : Host.Outcome State Fault Refusal := .next (runZGen (cyc .main 0x37 s) .scf s)

/-- `ADD HL,SP` (R340). -/
def execZAdd_HL_SP (s : State) : Host.Outcome State Fault Refusal := .next (runZArith16 (cyc .main 0x39 s) .add .sp s)

/-- `DEC SP` (R346). -/
def execZDec_SP (s : State) : Host.Outcome State Fault Refusal :=
  .next (runZIncDec16 (cyc .main 0x3B s) .dec (.rp .sp) s)

/-- `INC A` (R329). -/
def execZInc_A (s : State) : Host.Outcome State Fault Refusal := .next (runZIncDecR (cyc .main 0x3C s) .inc .a s)

/-- `DEC A` (R332). -/
def execZDec_A (s : State) : Host.Outcome State Fault Refusal := .next (runZIncDecR (cyc .main 0x3D s) .dec .a s)

/-- `CCF` (R338). -/
def execZCcf (s : State) : Host.Outcome State Fault Refusal := .next (runZGen (cyc .main 0x3F s) .ccf s)

/-- `ADD A,B` (R321). -/
def execZAdd_A_B (s : State) : Host.Outcome State Fault Refusal := .next (runZAlu (cyc .main 0x80 s) .add (.reg .b) s)

/-- `ADD A,C` (R321). -/
def execZAdd_A_C (s : State) : Host.Outcome State Fault Refusal := .next (runZAlu (cyc .main 0x81 s) .add (.reg .c) s)

/-- `ADD A,D` (R321). -/
def execZAdd_A_D (s : State) : Host.Outcome State Fault Refusal := .next (runZAlu (cyc .main 0x82 s) .add (.reg .d) s)

/-- `ADD A,E` (R321). -/
def execZAdd_A_E (s : State) : Host.Outcome State Fault Refusal := .next (runZAlu (cyc .main 0x83 s) .add (.reg .e) s)

/-- `ADD A,H` (R321). -/
def execZAdd_A_H (s : State) : Host.Outcome State Fault Refusal := .next (runZAlu (cyc .main 0x84 s) .add (.reg .h) s)

/-- `ADD A,L` (R321). -/
def execZAdd_A_L (s : State) : Host.Outcome State Fault Refusal := .next (runZAlu (cyc .main 0x85 s) .add (.reg .l) s)

/-- `ADD A,(HL)` (R321). -/
def execZAdd_A_atHL (s : State) : Host.Outcome State Fault Refusal :=
  .next (runZAlu (cyc .main 0x86 s) .add (.mem .hl) s)

/-- `ADD A,A` (R321). -/
def execZAdd_A_A (s : State) : Host.Outcome State Fault Refusal := .next (runZAlu (cyc .main 0x87 s) .add (.reg .a) s)

/-- `ADC A,B` (R322). -/
def execZAdc_A_B (s : State) : Host.Outcome State Fault Refusal := .next (runZAlu (cyc .main 0x88 s) .adc (.reg .b) s)

/-- `ADC A,C` (R322). -/
def execZAdc_A_C (s : State) : Host.Outcome State Fault Refusal := .next (runZAlu (cyc .main 0x89 s) .adc (.reg .c) s)

/-- `ADC A,D` (R322). -/
def execZAdc_A_D (s : State) : Host.Outcome State Fault Refusal := .next (runZAlu (cyc .main 0x8A s) .adc (.reg .d) s)

/-- `ADC A,E` (R322). -/
def execZAdc_A_E (s : State) : Host.Outcome State Fault Refusal := .next (runZAlu (cyc .main 0x8B s) .adc (.reg .e) s)

/-- `ADC A,H` (R322). -/
def execZAdc_A_H (s : State) : Host.Outcome State Fault Refusal := .next (runZAlu (cyc .main 0x8C s) .adc (.reg .h) s)

/-- `ADC A,L` (R322). -/
def execZAdc_A_L (s : State) : Host.Outcome State Fault Refusal := .next (runZAlu (cyc .main 0x8D s) .adc (.reg .l) s)

/-- `ADC A,(HL)` (R322). -/
def execZAdc_A_atHL (s : State) : Host.Outcome State Fault Refusal :=
  .next (runZAlu (cyc .main 0x8E s) .adc (.mem .hl) s)

/-- `ADC A,A` (R322). -/
def execZAdc_A_A (s : State) : Host.Outcome State Fault Refusal := .next (runZAlu (cyc .main 0x8F s) .adc (.reg .a) s)

/-- `SUB B` (R323). -/
def execZSub_B (s : State) : Host.Outcome State Fault Refusal := .next (runZAlu (cyc .main 0x90 s) .sub (.reg .b) s)

/-- `SUB C` (R323). -/
def execZSub_C (s : State) : Host.Outcome State Fault Refusal := .next (runZAlu (cyc .main 0x91 s) .sub (.reg .c) s)

/-- `SUB D` (R323). -/
def execZSub_D (s : State) : Host.Outcome State Fault Refusal := .next (runZAlu (cyc .main 0x92 s) .sub (.reg .d) s)

/-- `SUB E` (R323). -/
def execZSub_E (s : State) : Host.Outcome State Fault Refusal := .next (runZAlu (cyc .main 0x93 s) .sub (.reg .e) s)

/-- `SUB H` (R323). -/
def execZSub_H (s : State) : Host.Outcome State Fault Refusal := .next (runZAlu (cyc .main 0x94 s) .sub (.reg .h) s)

/-- `SUB L` (R323). -/
def execZSub_L (s : State) : Host.Outcome State Fault Refusal := .next (runZAlu (cyc .main 0x95 s) .sub (.reg .l) s)

/-- `SUB (HL)` (R323). -/
def execZSub_atHL (s : State) : Host.Outcome State Fault Refusal := .next (runZAlu (cyc .main 0x96 s) .sub (.mem .hl) s)

/-- `SUB A` (R323). -/
def execZSub_A (s : State) : Host.Outcome State Fault Refusal := .next (runZAlu (cyc .main 0x97 s) .sub (.reg .a) s)

/-- `SBC A,B` (R324). -/
def execZSbc_A_B (s : State) : Host.Outcome State Fault Refusal := .next (runZAlu (cyc .main 0x98 s) .sbc (.reg .b) s)

/-- `SBC A,C` (R324). -/
def execZSbc_A_C (s : State) : Host.Outcome State Fault Refusal := .next (runZAlu (cyc .main 0x99 s) .sbc (.reg .c) s)

/-- `SBC A,D` (R324). -/
def execZSbc_A_D (s : State) : Host.Outcome State Fault Refusal := .next (runZAlu (cyc .main 0x9A s) .sbc (.reg .d) s)

/-- `SBC A,E` (R324). -/
def execZSbc_A_E (s : State) : Host.Outcome State Fault Refusal := .next (runZAlu (cyc .main 0x9B s) .sbc (.reg .e) s)

/-- `SBC A,H` (R324). -/
def execZSbc_A_H (s : State) : Host.Outcome State Fault Refusal := .next (runZAlu (cyc .main 0x9C s) .sbc (.reg .h) s)

/-- `SBC A,L` (R324). -/
def execZSbc_A_L (s : State) : Host.Outcome State Fault Refusal := .next (runZAlu (cyc .main 0x9D s) .sbc (.reg .l) s)

/-- `SBC A,(HL)` (R324). -/
def execZSbc_A_atHL (s : State) : Host.Outcome State Fault Refusal :=
  .next (runZAlu (cyc .main 0x9E s) .sbc (.mem .hl) s)

/-- `SBC A,A` (R324). -/
def execZSbc_A_A (s : State) : Host.Outcome State Fault Refusal := .next (runZAlu (cyc .main 0x9F s) .sbc (.reg .a) s)

/-- `AND B` (R325). -/
def execZAnd_B (s : State) : Host.Outcome State Fault Refusal := .next (runZAlu (cyc .main 0xA0 s) .and (.reg .b) s)

/-- `AND C` (R325). -/
def execZAnd_C (s : State) : Host.Outcome State Fault Refusal := .next (runZAlu (cyc .main 0xA1 s) .and (.reg .c) s)

/-- `AND D` (R325). -/
def execZAnd_D (s : State) : Host.Outcome State Fault Refusal := .next (runZAlu (cyc .main 0xA2 s) .and (.reg .d) s)

/-- `AND E` (R325). -/
def execZAnd_E (s : State) : Host.Outcome State Fault Refusal := .next (runZAlu (cyc .main 0xA3 s) .and (.reg .e) s)

/-- `AND H` (R325). -/
def execZAnd_H (s : State) : Host.Outcome State Fault Refusal := .next (runZAlu (cyc .main 0xA4 s) .and (.reg .h) s)

/-- `AND L` (R325). -/
def execZAnd_L (s : State) : Host.Outcome State Fault Refusal := .next (runZAlu (cyc .main 0xA5 s) .and (.reg .l) s)

/-- `AND (HL)` (R325). -/
def execZAnd_atHL (s : State) : Host.Outcome State Fault Refusal := .next (runZAlu (cyc .main 0xA6 s) .and (.mem .hl) s)

/-- `AND A` (R325). -/
def execZAnd_A (s : State) : Host.Outcome State Fault Refusal := .next (runZAlu (cyc .main 0xA7 s) .and (.reg .a) s)

/-- `XOR B` (R327). -/
def execZXor_B (s : State) : Host.Outcome State Fault Refusal := .next (runZAlu (cyc .main 0xA8 s) .xor (.reg .b) s)

/-- `XOR C` (R327). -/
def execZXor_C (s : State) : Host.Outcome State Fault Refusal := .next (runZAlu (cyc .main 0xA9 s) .xor (.reg .c) s)

/-- `XOR D` (R327). -/
def execZXor_D (s : State) : Host.Outcome State Fault Refusal := .next (runZAlu (cyc .main 0xAA s) .xor (.reg .d) s)

/-- `XOR E` (R327). -/
def execZXor_E (s : State) : Host.Outcome State Fault Refusal := .next (runZAlu (cyc .main 0xAB s) .xor (.reg .e) s)

/-- `XOR H` (R327). -/
def execZXor_H (s : State) : Host.Outcome State Fault Refusal := .next (runZAlu (cyc .main 0xAC s) .xor (.reg .h) s)

/-- `XOR L` (R327). -/
def execZXor_L (s : State) : Host.Outcome State Fault Refusal := .next (runZAlu (cyc .main 0xAD s) .xor (.reg .l) s)

/-- `XOR (HL)` (R327). -/
def execZXor_atHL (s : State) : Host.Outcome State Fault Refusal := .next (runZAlu (cyc .main 0xAE s) .xor (.mem .hl) s)

/-- `XOR A` (R327). -/
def execZXor_A (s : State) : Host.Outcome State Fault Refusal := .next (runZAlu (cyc .main 0xAF s) .xor (.reg .a) s)

/-- `OR B` (R326). -/
def execZOr_B (s : State) : Host.Outcome State Fault Refusal := .next (runZAlu (cyc .main 0xB0 s) .or (.reg .b) s)

/-- `OR C` (R326). -/
def execZOr_C (s : State) : Host.Outcome State Fault Refusal := .next (runZAlu (cyc .main 0xB1 s) .or (.reg .c) s)

/-- `OR D` (R326). -/
def execZOr_D (s : State) : Host.Outcome State Fault Refusal := .next (runZAlu (cyc .main 0xB2 s) .or (.reg .d) s)

/-- `OR E` (R326). -/
def execZOr_E (s : State) : Host.Outcome State Fault Refusal := .next (runZAlu (cyc .main 0xB3 s) .or (.reg .e) s)

/-- `OR H` (R326). -/
def execZOr_H (s : State) : Host.Outcome State Fault Refusal := .next (runZAlu (cyc .main 0xB4 s) .or (.reg .h) s)

/-- `OR L` (R326). -/
def execZOr_L (s : State) : Host.Outcome State Fault Refusal := .next (runZAlu (cyc .main 0xB5 s) .or (.reg .l) s)

/-- `OR (HL)` (R326). -/
def execZOr_atHL (s : State) : Host.Outcome State Fault Refusal := .next (runZAlu (cyc .main 0xB6 s) .or (.mem .hl) s)

/-- `OR A` (R326). -/
def execZOr_A (s : State) : Host.Outcome State Fault Refusal := .next (runZAlu (cyc .main 0xB7 s) .or (.reg .a) s)

/-- `CP B` (R328). -/
def execZCp_B (s : State) : Host.Outcome State Fault Refusal := .next (runZAlu (cyc .main 0xB8 s) .cp (.reg .b) s)

/-- `CP C` (R328). -/
def execZCp_C (s : State) : Host.Outcome State Fault Refusal := .next (runZAlu (cyc .main 0xB9 s) .cp (.reg .c) s)

/-- `CP D` (R328). -/
def execZCp_D (s : State) : Host.Outcome State Fault Refusal := .next (runZAlu (cyc .main 0xBA s) .cp (.reg .d) s)

/-- `CP E` (R328). -/
def execZCp_E (s : State) : Host.Outcome State Fault Refusal := .next (runZAlu (cyc .main 0xBB s) .cp (.reg .e) s)

/-- `CP H` (R328). -/
def execZCp_H (s : State) : Host.Outcome State Fault Refusal := .next (runZAlu (cyc .main 0xBC s) .cp (.reg .h) s)

/-- `CP L` (R328). -/
def execZCp_L (s : State) : Host.Outcome State Fault Refusal := .next (runZAlu (cyc .main 0xBD s) .cp (.reg .l) s)

/-- `CP (HL)` (R328). -/
def execZCp_atHL (s : State) : Host.Outcome State Fault Refusal := .next (runZAlu (cyc .main 0xBE s) .cp (.mem .hl) s)

/-- `CP A` (R328). -/
def execZCp_A (s : State) : Host.Outcome State Fault Refusal := .next (runZAlu (cyc .main 0xBF s) .cp (.reg .a) s)

/-- `ADD A,n` (R321). -/
def execZAdd_A_n (n : Byte) (s : State) : Host.Outcome State Fault Refusal :=
  .next (runZAlu (cyc .main 0xC6 s) .add (.imm n) s)

/-- `ADC A,n` (R322). -/
def execZAdc_A_n (n : Byte) (s : State) : Host.Outcome State Fault Refusal :=
  .next (runZAlu (cyc .main 0xCE s) .adc (.imm n) s)

/-- `SUB n` (R323). -/
def execZSub_n (n : Byte) (s : State) : Host.Outcome State Fault Refusal :=
  .next (runZAlu (cyc .main 0xD6 s) .sub (.imm n) s)

/-- `SBC A,n` (R324). -/
def execZSbc_A_n (n : Byte) (s : State) : Host.Outcome State Fault Refusal :=
  .next (runZAlu (cyc .main 0xDE s) .sbc (.imm n) s)

/-- `AND n` (R325). -/
def execZAnd_n (n : Byte) (s : State) : Host.Outcome State Fault Refusal :=
  .next (runZAlu (cyc .main 0xE6 s) .and (.imm n) s)

/-- `XOR n` (R327). -/
def execZXor_n (n : Byte) (s : State) : Host.Outcome State Fault Refusal :=
  .next (runZAlu (cyc .main 0xEE s) .xor (.imm n) s)

/-- `OR n` (R326). -/
def execZOr_n (n : Byte) (s : State) : Host.Outcome State Fault Refusal :=
  .next (runZAlu (cyc .main 0xF6 s) .or (.imm n) s)

/-- `CP n` (R328). -/
def execZCp_n (n : Byte) (s : State) : Host.Outcome State Fault Refusal :=
  .next (runZAlu (cyc .main 0xFE s) .cp (.imm n) s)

/-- `SBC HL,BC` (R342). -/
def execZSbc_HL_BC (s : State) : Host.Outcome State Fault Refusal := .next (runZArith16 (cyc .ed 0x42 s) .sbc .bc s)

/-- `ADC HL,BC` (R341). -/
def execZAdc_HL_BC (s : State) : Host.Outcome State Fault Refusal := .next (runZArith16 (cyc .ed 0x4A s) .adc .bc s)

/-- `SBC HL,DE` (R342). -/
def execZSbc_HL_DE (s : State) : Host.Outcome State Fault Refusal := .next (runZArith16 (cyc .ed 0x52 s) .sbc .de s)

/-- `ADC HL,DE` (R341). -/
def execZAdc_HL_DE (s : State) : Host.Outcome State Fault Refusal := .next (runZArith16 (cyc .ed 0x5A s) .adc .de s)

/-- `SBC HL,HL` (R342). -/
def execZSbc_HL_HL (s : State) : Host.Outcome State Fault Refusal := .next (runZArith16 (cyc .ed 0x62 s) .sbc .hl s)

/-- `ADC HL,HL` (R341). -/
def execZAdc_HL_HL (s : State) : Host.Outcome State Fault Refusal := .next (runZArith16 (cyc .ed 0x6A s) .adc .hl s)

/-- `SBC HL,SP` (R342). -/
def execZSbc_HL_SP (s : State) : Host.Outcome State Fault Refusal := .next (runZArith16 (cyc .ed 0x72 s) .sbc .sp s)

/-- `ADC HL,SP` (R341). -/
def execZAdc_HL_SP (s : State) : Host.Outcome State Fault Refusal := .next (runZArith16 (cyc .ed 0x7A s) .adc .sp s)

/-- `NEG` (R337). -/
def execZNeg (s : State) : Host.Outcome State Fault Refusal := .next (runZGen (cyc .ed 0x44 s) .neg s)

/-- `ADD IX,BC` (R343). -/
def execZAdd_IX_BC (s : State) : Host.Outcome State Fault Refusal := .next (runZAddXY (cyc .dd 0x09 s) .ix .bc s)

/-- `ADD IX,DE` (R343). -/
def execZAdd_IX_DE (s : State) : Host.Outcome State Fault Refusal := .next (runZAddXY (cyc .dd 0x19 s) .ix .de s)

/-- `ADD IX,IX` (R343). -/
def execZAdd_IX_IX (s : State) : Host.Outcome State Fault Refusal := .next (runZAddXY (cyc .dd 0x29 s) .ix .self s)

/-- `ADD IX,SP` (R343). -/
def execZAdd_IX_SP (s : State) : Host.Outcome State Fault Refusal := .next (runZAddXY (cyc .dd 0x39 s) .ix .sp s)

/-- `INC IX` (R345). -/
def execZInc_IX (s : State) : Host.Outcome State Fault Refusal := .next (runZIncDec16 (cyc .dd 0x23 s) .inc (.xy .ix) s)

/-- `DEC IX` (R347). -/
def execZDec_IX (s : State) : Host.Outcome State Fault Refusal := .next (runZIncDec16 (cyc .dd 0x2B s) .dec (.xy .ix) s)

/-- `INC (IX+d)` (R331). -/
def execZInc_atIXd (d : Byte) (s : State) : Host.Outcome State Fault Refusal :=
  .next (runZIncDecM (cyc .dd 0x34 s) .inc (.idx .ix d) s)

/-- `DEC (IX+d)` (R334). -/
def execZDec_atIXd (d : Byte) (s : State) : Host.Outcome State Fault Refusal :=
  .next (runZIncDecM (cyc .dd 0x35 s) .dec (.idx .ix d) s)

/-- `ADD A,(IX+d)` (R321). -/
def execZAdd_A_atIXd (d : Byte) (s : State) : Host.Outcome State Fault Refusal :=
  .next (runZAlu (cyc .dd 0x86 s) .add (.mem (.idx .ix d)) s)

/-- `ADC A,(IX+d)` (R322). -/
def execZAdc_A_atIXd (d : Byte) (s : State) : Host.Outcome State Fault Refusal :=
  .next (runZAlu (cyc .dd 0x8E s) .adc (.mem (.idx .ix d)) s)

/-- `SUB (IX+d)` (R323). -/
def execZSub_atIXd (d : Byte) (s : State) : Host.Outcome State Fault Refusal :=
  .next (runZAlu (cyc .dd 0x96 s) .sub (.mem (.idx .ix d)) s)

/-- `SBC A,(IX+d)` (R324). -/
def execZSbc_A_atIXd (d : Byte) (s : State) : Host.Outcome State Fault Refusal :=
  .next (runZAlu (cyc .dd 0x9E s) .sbc (.mem (.idx .ix d)) s)

/-- `AND (IX+d)` (R325). -/
def execZAnd_atIXd (d : Byte) (s : State) : Host.Outcome State Fault Refusal :=
  .next (runZAlu (cyc .dd 0xA6 s) .and (.mem (.idx .ix d)) s)

/-- `XOR (IX+d)` (R327). -/
def execZXor_atIXd (d : Byte) (s : State) : Host.Outcome State Fault Refusal :=
  .next (runZAlu (cyc .dd 0xAE s) .xor (.mem (.idx .ix d)) s)

/-- `OR (IX+d)` (R326). -/
def execZOr_atIXd (d : Byte) (s : State) : Host.Outcome State Fault Refusal :=
  .next (runZAlu (cyc .dd 0xB6 s) .or (.mem (.idx .ix d)) s)

/-- `CP (IX+d)` (R328). -/
def execZCp_atIXd (d : Byte) (s : State) : Host.Outcome State Fault Refusal :=
  .next (runZAlu (cyc .dd 0xBE s) .cp (.mem (.idx .ix d)) s)

/-- `ADD IY,BC` (R343). -/
def execZAdd_IY_BC (s : State) : Host.Outcome State Fault Refusal := .next (runZAddXY (cyc .fd 0x09 s) .iy .bc s)

/-- `ADD IY,DE` (R343). -/
def execZAdd_IY_DE (s : State) : Host.Outcome State Fault Refusal := .next (runZAddXY (cyc .fd 0x19 s) .iy .de s)

/-- `ADD IY,IY` (R343). -/
def execZAdd_IY_IY (s : State) : Host.Outcome State Fault Refusal := .next (runZAddXY (cyc .fd 0x29 s) .iy .self s)

/-- `ADD IY,SP` (R343). -/
def execZAdd_IY_SP (s : State) : Host.Outcome State Fault Refusal := .next (runZAddXY (cyc .fd 0x39 s) .iy .sp s)

/-- `INC IY` (R345). -/
def execZInc_IY (s : State) : Host.Outcome State Fault Refusal := .next (runZIncDec16 (cyc .fd 0x23 s) .inc (.xy .iy) s)

/-- `DEC IY` (R347). -/
def execZDec_IY (s : State) : Host.Outcome State Fault Refusal := .next (runZIncDec16 (cyc .fd 0x2B s) .dec (.xy .iy) s)

/-- `INC (IY+d)` (R331). -/
def execZInc_atIYd (d : Byte) (s : State) : Host.Outcome State Fault Refusal :=
  .next (runZIncDecM (cyc .fd 0x34 s) .inc (.idx .iy d) s)

/-- `DEC (IY+d)` (R334). -/
def execZDec_atIYd (d : Byte) (s : State) : Host.Outcome State Fault Refusal :=
  .next (runZIncDecM (cyc .fd 0x35 s) .dec (.idx .iy d) s)

/-- `ADD A,(IY+d)` (R321). -/
def execZAdd_A_atIYd (d : Byte) (s : State) : Host.Outcome State Fault Refusal :=
  .next (runZAlu (cyc .fd 0x86 s) .add (.mem (.idx .iy d)) s)

/-- `ADC A,(IY+d)` (R322). -/
def execZAdc_A_atIYd (d : Byte) (s : State) : Host.Outcome State Fault Refusal :=
  .next (runZAlu (cyc .fd 0x8E s) .adc (.mem (.idx .iy d)) s)

/-- `SUB (IY+d)` (R323). -/
def execZSub_atIYd (d : Byte) (s : State) : Host.Outcome State Fault Refusal :=
  .next (runZAlu (cyc .fd 0x96 s) .sub (.mem (.idx .iy d)) s)

/-- `SBC A,(IY+d)` (R324). -/
def execZSbc_A_atIYd (d : Byte) (s : State) : Host.Outcome State Fault Refusal :=
  .next (runZAlu (cyc .fd 0x9E s) .sbc (.mem (.idx .iy d)) s)

/-- `AND (IY+d)` (R325). -/
def execZAnd_atIYd (d : Byte) (s : State) : Host.Outcome State Fault Refusal :=
  .next (runZAlu (cyc .fd 0xA6 s) .and (.mem (.idx .iy d)) s)

/-- `XOR (IY+d)` (R327). -/
def execZXor_atIYd (d : Byte) (s : State) : Host.Outcome State Fault Refusal :=
  .next (runZAlu (cyc .fd 0xAE s) .xor (.mem (.idx .iy d)) s)

/-- `OR (IY+d)` (R326). -/
def execZOr_atIYd (d : Byte) (s : State) : Host.Outcome State Fault Refusal :=
  .next (runZAlu (cyc .fd 0xB6 s) .or (.mem (.idx .iy d)) s)

/-- `CP (IY+d)` (R328). -/
def execZCp_atIYd (d : Byte) (s : State) : Host.Outcome State Fault Refusal :=
  .next (runZAlu (cyc .fd 0xBE s) .cp (.mem (.idx .iy d)) s)

end Sys2Proof.Machine
end

