-- ==== Sys2Proof/Machine/Z80Bit.lean ====
section
/-! DEFINITION. The meanings of the Z80 bit test, set and reset (R361 to R365), one definition per instruction over the shapes of
Sys2Proof.Machine.Z80. -/

namespace Sys2Proof.Machine

/-- `BIT 0,B` (R361). -/
def execZBit_0_B (s : State) : Host.Outcome State Fault Refusal := .next (runZBit (cyc .cb 0x40 s) 0 (.reg .b) s)

/-- `BIT 0,C` (R361). -/
def execZBit_0_C (s : State) : Host.Outcome State Fault Refusal := .next (runZBit (cyc .cb 0x41 s) 0 (.reg .c) s)

/-- `BIT 0,D` (R361). -/
def execZBit_0_D (s : State) : Host.Outcome State Fault Refusal := .next (runZBit (cyc .cb 0x42 s) 0 (.reg .d) s)

/-- `BIT 0,E` (R361). -/
def execZBit_0_E (s : State) : Host.Outcome State Fault Refusal := .next (runZBit (cyc .cb 0x43 s) 0 (.reg .e) s)

/-- `BIT 0,H` (R361). -/
def execZBit_0_H (s : State) : Host.Outcome State Fault Refusal := .next (runZBit (cyc .cb 0x44 s) 0 (.reg .h) s)

/-- `BIT 0,L` (R361). -/
def execZBit_0_L (s : State) : Host.Outcome State Fault Refusal := .next (runZBit (cyc .cb 0x45 s) 0 (.reg .l) s)

/-- `BIT 0,(HL)` (R362). -/
def execZBit_0_atHL (s : State) : Host.Outcome State Fault Refusal := .next (runZBit (cyc .cb 0x46 s) 0 (.mem .hl) s)

/-- `BIT 0,A` (R361). -/
def execZBit_0_A (s : State) : Host.Outcome State Fault Refusal := .next (runZBit (cyc .cb 0x47 s) 0 (.reg .a) s)

/-- `BIT 1,B` (R361). -/
def execZBit_1_B (s : State) : Host.Outcome State Fault Refusal := .next (runZBit (cyc .cb 0x48 s) 1 (.reg .b) s)

/-- `BIT 1,C` (R361). -/
def execZBit_1_C (s : State) : Host.Outcome State Fault Refusal := .next (runZBit (cyc .cb 0x49 s) 1 (.reg .c) s)

/-- `BIT 1,D` (R361). -/
def execZBit_1_D (s : State) : Host.Outcome State Fault Refusal := .next (runZBit (cyc .cb 0x4A s) 1 (.reg .d) s)

/-- `BIT 1,E` (R361). -/
def execZBit_1_E (s : State) : Host.Outcome State Fault Refusal := .next (runZBit (cyc .cb 0x4B s) 1 (.reg .e) s)

/-- `BIT 1,H` (R361). -/
def execZBit_1_H (s : State) : Host.Outcome State Fault Refusal := .next (runZBit (cyc .cb 0x4C s) 1 (.reg .h) s)

/-- `BIT 1,L` (R361). -/
def execZBit_1_L (s : State) : Host.Outcome State Fault Refusal := .next (runZBit (cyc .cb 0x4D s) 1 (.reg .l) s)

/-- `BIT 1,(HL)` (R362). -/
def execZBit_1_atHL (s : State) : Host.Outcome State Fault Refusal := .next (runZBit (cyc .cb 0x4E s) 1 (.mem .hl) s)

/-- `BIT 1,A` (R361). -/
def execZBit_1_A (s : State) : Host.Outcome State Fault Refusal := .next (runZBit (cyc .cb 0x4F s) 1 (.reg .a) s)

/-- `BIT 2,B` (R361). -/
def execZBit_2_B (s : State) : Host.Outcome State Fault Refusal := .next (runZBit (cyc .cb 0x50 s) 2 (.reg .b) s)

/-- `BIT 2,C` (R361). -/
def execZBit_2_C (s : State) : Host.Outcome State Fault Refusal := .next (runZBit (cyc .cb 0x51 s) 2 (.reg .c) s)

/-- `BIT 2,D` (R361). -/
def execZBit_2_D (s : State) : Host.Outcome State Fault Refusal := .next (runZBit (cyc .cb 0x52 s) 2 (.reg .d) s)

/-- `BIT 2,E` (R361). -/
def execZBit_2_E (s : State) : Host.Outcome State Fault Refusal := .next (runZBit (cyc .cb 0x53 s) 2 (.reg .e) s)

/-- `BIT 2,H` (R361). -/
def execZBit_2_H (s : State) : Host.Outcome State Fault Refusal := .next (runZBit (cyc .cb 0x54 s) 2 (.reg .h) s)

/-- `BIT 2,L` (R361). -/
def execZBit_2_L (s : State) : Host.Outcome State Fault Refusal := .next (runZBit (cyc .cb 0x55 s) 2 (.reg .l) s)

/-- `BIT 2,(HL)` (R362). -/
def execZBit_2_atHL (s : State) : Host.Outcome State Fault Refusal := .next (runZBit (cyc .cb 0x56 s) 2 (.mem .hl) s)

/-- `BIT 2,A` (R361). -/
def execZBit_2_A (s : State) : Host.Outcome State Fault Refusal := .next (runZBit (cyc .cb 0x57 s) 2 (.reg .a) s)

/-- `BIT 3,B` (R361). -/
def execZBit_3_B (s : State) : Host.Outcome State Fault Refusal := .next (runZBit (cyc .cb 0x58 s) 3 (.reg .b) s)

/-- `BIT 3,C` (R361). -/
def execZBit_3_C (s : State) : Host.Outcome State Fault Refusal := .next (runZBit (cyc .cb 0x59 s) 3 (.reg .c) s)

/-- `BIT 3,D` (R361). -/
def execZBit_3_D (s : State) : Host.Outcome State Fault Refusal := .next (runZBit (cyc .cb 0x5A s) 3 (.reg .d) s)

/-- `BIT 3,E` (R361). -/
def execZBit_3_E (s : State) : Host.Outcome State Fault Refusal := .next (runZBit (cyc .cb 0x5B s) 3 (.reg .e) s)

/-- `BIT 3,H` (R361). -/
def execZBit_3_H (s : State) : Host.Outcome State Fault Refusal := .next (runZBit (cyc .cb 0x5C s) 3 (.reg .h) s)

/-- `BIT 3,L` (R361). -/
def execZBit_3_L (s : State) : Host.Outcome State Fault Refusal := .next (runZBit (cyc .cb 0x5D s) 3 (.reg .l) s)

/-- `BIT 3,(HL)` (R362). -/
def execZBit_3_atHL (s : State) : Host.Outcome State Fault Refusal := .next (runZBit (cyc .cb 0x5E s) 3 (.mem .hl) s)

/-- `BIT 3,A` (R361). -/
def execZBit_3_A (s : State) : Host.Outcome State Fault Refusal := .next (runZBit (cyc .cb 0x5F s) 3 (.reg .a) s)

/-- `BIT 4,B` (R361). -/
def execZBit_4_B (s : State) : Host.Outcome State Fault Refusal := .next (runZBit (cyc .cb 0x60 s) 4 (.reg .b) s)

/-- `BIT 4,C` (R361). -/
def execZBit_4_C (s : State) : Host.Outcome State Fault Refusal := .next (runZBit (cyc .cb 0x61 s) 4 (.reg .c) s)

/-- `BIT 4,D` (R361). -/
def execZBit_4_D (s : State) : Host.Outcome State Fault Refusal := .next (runZBit (cyc .cb 0x62 s) 4 (.reg .d) s)

/-- `BIT 4,E` (R361). -/
def execZBit_4_E (s : State) : Host.Outcome State Fault Refusal := .next (runZBit (cyc .cb 0x63 s) 4 (.reg .e) s)

/-- `BIT 4,H` (R361). -/
def execZBit_4_H (s : State) : Host.Outcome State Fault Refusal := .next (runZBit (cyc .cb 0x64 s) 4 (.reg .h) s)

/-- `BIT 4,L` (R361). -/
def execZBit_4_L (s : State) : Host.Outcome State Fault Refusal := .next (runZBit (cyc .cb 0x65 s) 4 (.reg .l) s)

/-- `BIT 4,(HL)` (R362). -/
def execZBit_4_atHL (s : State) : Host.Outcome State Fault Refusal := .next (runZBit (cyc .cb 0x66 s) 4 (.mem .hl) s)

/-- `BIT 4,A` (R361). -/
def execZBit_4_A (s : State) : Host.Outcome State Fault Refusal := .next (runZBit (cyc .cb 0x67 s) 4 (.reg .a) s)

/-- `BIT 5,B` (R361). -/
def execZBit_5_B (s : State) : Host.Outcome State Fault Refusal := .next (runZBit (cyc .cb 0x68 s) 5 (.reg .b) s)

/-- `BIT 5,C` (R361). -/
def execZBit_5_C (s : State) : Host.Outcome State Fault Refusal := .next (runZBit (cyc .cb 0x69 s) 5 (.reg .c) s)

/-- `BIT 5,D` (R361). -/
def execZBit_5_D (s : State) : Host.Outcome State Fault Refusal := .next (runZBit (cyc .cb 0x6A s) 5 (.reg .d) s)

/-- `BIT 5,E` (R361). -/
def execZBit_5_E (s : State) : Host.Outcome State Fault Refusal := .next (runZBit (cyc .cb 0x6B s) 5 (.reg .e) s)

/-- `BIT 5,H` (R361). -/
def execZBit_5_H (s : State) : Host.Outcome State Fault Refusal := .next (runZBit (cyc .cb 0x6C s) 5 (.reg .h) s)

/-- `BIT 5,L` (R361). -/
def execZBit_5_L (s : State) : Host.Outcome State Fault Refusal := .next (runZBit (cyc .cb 0x6D s) 5 (.reg .l) s)

/-- `BIT 5,(HL)` (R362). -/
def execZBit_5_atHL (s : State) : Host.Outcome State Fault Refusal := .next (runZBit (cyc .cb 0x6E s) 5 (.mem .hl) s)

/-- `BIT 5,A` (R361). -/
def execZBit_5_A (s : State) : Host.Outcome State Fault Refusal := .next (runZBit (cyc .cb 0x6F s) 5 (.reg .a) s)

/-- `BIT 6,B` (R361). -/
def execZBit_6_B (s : State) : Host.Outcome State Fault Refusal := .next (runZBit (cyc .cb 0x70 s) 6 (.reg .b) s)

/-- `BIT 6,C` (R361). -/
def execZBit_6_C (s : State) : Host.Outcome State Fault Refusal := .next (runZBit (cyc .cb 0x71 s) 6 (.reg .c) s)

/-- `BIT 6,D` (R361). -/
def execZBit_6_D (s : State) : Host.Outcome State Fault Refusal := .next (runZBit (cyc .cb 0x72 s) 6 (.reg .d) s)

/-- `BIT 6,E` (R361). -/
def execZBit_6_E (s : State) : Host.Outcome State Fault Refusal := .next (runZBit (cyc .cb 0x73 s) 6 (.reg .e) s)

/-- `BIT 6,H` (R361). -/
def execZBit_6_H (s : State) : Host.Outcome State Fault Refusal := .next (runZBit (cyc .cb 0x74 s) 6 (.reg .h) s)

/-- `BIT 6,L` (R361). -/
def execZBit_6_L (s : State) : Host.Outcome State Fault Refusal := .next (runZBit (cyc .cb 0x75 s) 6 (.reg .l) s)

/-- `BIT 6,(HL)` (R362). -/
def execZBit_6_atHL (s : State) : Host.Outcome State Fault Refusal := .next (runZBit (cyc .cb 0x76 s) 6 (.mem .hl) s)

/-- `BIT 6,A` (R361). -/
def execZBit_6_A (s : State) : Host.Outcome State Fault Refusal := .next (runZBit (cyc .cb 0x77 s) 6 (.reg .a) s)

/-- `BIT 7,B` (R361). -/
def execZBit_7_B (s : State) : Host.Outcome State Fault Refusal := .next (runZBit (cyc .cb 0x78 s) 7 (.reg .b) s)

/-- `BIT 7,C` (R361). -/
def execZBit_7_C (s : State) : Host.Outcome State Fault Refusal := .next (runZBit (cyc .cb 0x79 s) 7 (.reg .c) s)

/-- `BIT 7,D` (R361). -/
def execZBit_7_D (s : State) : Host.Outcome State Fault Refusal := .next (runZBit (cyc .cb 0x7A s) 7 (.reg .d) s)

/-- `BIT 7,E` (R361). -/
def execZBit_7_E (s : State) : Host.Outcome State Fault Refusal := .next (runZBit (cyc .cb 0x7B s) 7 (.reg .e) s)

/-- `BIT 7,H` (R361). -/
def execZBit_7_H (s : State) : Host.Outcome State Fault Refusal := .next (runZBit (cyc .cb 0x7C s) 7 (.reg .h) s)

/-- `BIT 7,L` (R361). -/
def execZBit_7_L (s : State) : Host.Outcome State Fault Refusal := .next (runZBit (cyc .cb 0x7D s) 7 (.reg .l) s)

/-- `BIT 7,(HL)` (R362). -/
def execZBit_7_atHL (s : State) : Host.Outcome State Fault Refusal := .next (runZBit (cyc .cb 0x7E s) 7 (.mem .hl) s)

/-- `BIT 7,A` (R361). -/
def execZBit_7_A (s : State) : Host.Outcome State Fault Refusal := .next (runZBit (cyc .cb 0x7F s) 7 (.reg .a) s)

/-- `RES 0,B` (R365). -/
def execZRes_0_B (s : State) : Host.Outcome State Fault Refusal := .next (runZRes (cyc .cb 0x80 s) 0 (.reg .b) s)

/-- `RES 0,C` (R365). -/
def execZRes_0_C (s : State) : Host.Outcome State Fault Refusal := .next (runZRes (cyc .cb 0x81 s) 0 (.reg .c) s)

/-- `RES 0,D` (R365). -/
def execZRes_0_D (s : State) : Host.Outcome State Fault Refusal := .next (runZRes (cyc .cb 0x82 s) 0 (.reg .d) s)

/-- `RES 0,E` (R365). -/
def execZRes_0_E (s : State) : Host.Outcome State Fault Refusal := .next (runZRes (cyc .cb 0x83 s) 0 (.reg .e) s)

/-- `RES 0,H` (R365). -/
def execZRes_0_H (s : State) : Host.Outcome State Fault Refusal := .next (runZRes (cyc .cb 0x84 s) 0 (.reg .h) s)

/-- `RES 0,L` (R365). -/
def execZRes_0_L (s : State) : Host.Outcome State Fault Refusal := .next (runZRes (cyc .cb 0x85 s) 0 (.reg .l) s)

/-- `RES 0,(HL)` (R365). -/
def execZRes_0_atHL (s : State) : Host.Outcome State Fault Refusal := .next (runZRes (cyc .cb 0x86 s) 0 (.mem .hl) s)

/-- `RES 0,A` (R365). -/
def execZRes_0_A (s : State) : Host.Outcome State Fault Refusal := .next (runZRes (cyc .cb 0x87 s) 0 (.reg .a) s)

/-- `RES 1,B` (R365). -/
def execZRes_1_B (s : State) : Host.Outcome State Fault Refusal := .next (runZRes (cyc .cb 0x88 s) 1 (.reg .b) s)

/-- `RES 1,C` (R365). -/
def execZRes_1_C (s : State) : Host.Outcome State Fault Refusal := .next (runZRes (cyc .cb 0x89 s) 1 (.reg .c) s)

/-- `RES 1,D` (R365). -/
def execZRes_1_D (s : State) : Host.Outcome State Fault Refusal := .next (runZRes (cyc .cb 0x8A s) 1 (.reg .d) s)

/-- `RES 1,E` (R365). -/
def execZRes_1_E (s : State) : Host.Outcome State Fault Refusal := .next (runZRes (cyc .cb 0x8B s) 1 (.reg .e) s)

/-- `RES 1,H` (R365). -/
def execZRes_1_H (s : State) : Host.Outcome State Fault Refusal := .next (runZRes (cyc .cb 0x8C s) 1 (.reg .h) s)

/-- `RES 1,L` (R365). -/
def execZRes_1_L (s : State) : Host.Outcome State Fault Refusal := .next (runZRes (cyc .cb 0x8D s) 1 (.reg .l) s)

/-- `RES 1,(HL)` (R365). -/
def execZRes_1_atHL (s : State) : Host.Outcome State Fault Refusal := .next (runZRes (cyc .cb 0x8E s) 1 (.mem .hl) s)

/-- `RES 1,A` (R365). -/
def execZRes_1_A (s : State) : Host.Outcome State Fault Refusal := .next (runZRes (cyc .cb 0x8F s) 1 (.reg .a) s)

/-- `RES 2,B` (R365). -/
def execZRes_2_B (s : State) : Host.Outcome State Fault Refusal := .next (runZRes (cyc .cb 0x90 s) 2 (.reg .b) s)

/-- `RES 2,C` (R365). -/
def execZRes_2_C (s : State) : Host.Outcome State Fault Refusal := .next (runZRes (cyc .cb 0x91 s) 2 (.reg .c) s)

/-- `RES 2,D` (R365). -/
def execZRes_2_D (s : State) : Host.Outcome State Fault Refusal := .next (runZRes (cyc .cb 0x92 s) 2 (.reg .d) s)

/-- `RES 2,E` (R365). -/
def execZRes_2_E (s : State) : Host.Outcome State Fault Refusal := .next (runZRes (cyc .cb 0x93 s) 2 (.reg .e) s)

/-- `RES 2,H` (R365). -/
def execZRes_2_H (s : State) : Host.Outcome State Fault Refusal := .next (runZRes (cyc .cb 0x94 s) 2 (.reg .h) s)

/-- `RES 2,L` (R365). -/
def execZRes_2_L (s : State) : Host.Outcome State Fault Refusal := .next (runZRes (cyc .cb 0x95 s) 2 (.reg .l) s)

/-- `RES 2,(HL)` (R365). -/
def execZRes_2_atHL (s : State) : Host.Outcome State Fault Refusal := .next (runZRes (cyc .cb 0x96 s) 2 (.mem .hl) s)

/-- `RES 2,A` (R365). -/
def execZRes_2_A (s : State) : Host.Outcome State Fault Refusal := .next (runZRes (cyc .cb 0x97 s) 2 (.reg .a) s)

/-- `RES 3,B` (R365). -/
def execZRes_3_B (s : State) : Host.Outcome State Fault Refusal := .next (runZRes (cyc .cb 0x98 s) 3 (.reg .b) s)

/-- `RES 3,C` (R365). -/
def execZRes_3_C (s : State) : Host.Outcome State Fault Refusal := .next (runZRes (cyc .cb 0x99 s) 3 (.reg .c) s)

/-- `RES 3,D` (R365). -/
def execZRes_3_D (s : State) : Host.Outcome State Fault Refusal := .next (runZRes (cyc .cb 0x9A s) 3 (.reg .d) s)

/-- `RES 3,E` (R365). -/
def execZRes_3_E (s : State) : Host.Outcome State Fault Refusal := .next (runZRes (cyc .cb 0x9B s) 3 (.reg .e) s)

/-- `RES 3,H` (R365). -/
def execZRes_3_H (s : State) : Host.Outcome State Fault Refusal := .next (runZRes (cyc .cb 0x9C s) 3 (.reg .h) s)

/-- `RES 3,L` (R365). -/
def execZRes_3_L (s : State) : Host.Outcome State Fault Refusal := .next (runZRes (cyc .cb 0x9D s) 3 (.reg .l) s)

/-- `RES 3,(HL)` (R365). -/
def execZRes_3_atHL (s : State) : Host.Outcome State Fault Refusal := .next (runZRes (cyc .cb 0x9E s) 3 (.mem .hl) s)

/-- `RES 3,A` (R365). -/
def execZRes_3_A (s : State) : Host.Outcome State Fault Refusal := .next (runZRes (cyc .cb 0x9F s) 3 (.reg .a) s)

/-- `RES 4,B` (R365). -/
def execZRes_4_B (s : State) : Host.Outcome State Fault Refusal := .next (runZRes (cyc .cb 0xA0 s) 4 (.reg .b) s)

/-- `RES 4,C` (R365). -/
def execZRes_4_C (s : State) : Host.Outcome State Fault Refusal := .next (runZRes (cyc .cb 0xA1 s) 4 (.reg .c) s)

/-- `RES 4,D` (R365). -/
def execZRes_4_D (s : State) : Host.Outcome State Fault Refusal := .next (runZRes (cyc .cb 0xA2 s) 4 (.reg .d) s)

/-- `RES 4,E` (R365). -/
def execZRes_4_E (s : State) : Host.Outcome State Fault Refusal := .next (runZRes (cyc .cb 0xA3 s) 4 (.reg .e) s)

/-- `RES 4,H` (R365). -/
def execZRes_4_H (s : State) : Host.Outcome State Fault Refusal := .next (runZRes (cyc .cb 0xA4 s) 4 (.reg .h) s)

/-- `RES 4,L` (R365). -/
def execZRes_4_L (s : State) : Host.Outcome State Fault Refusal := .next (runZRes (cyc .cb 0xA5 s) 4 (.reg .l) s)

/-- `RES 4,(HL)` (R365). -/
def execZRes_4_atHL (s : State) : Host.Outcome State Fault Refusal := .next (runZRes (cyc .cb 0xA6 s) 4 (.mem .hl) s)

/-- `RES 4,A` (R365). -/
def execZRes_4_A (s : State) : Host.Outcome State Fault Refusal := .next (runZRes (cyc .cb 0xA7 s) 4 (.reg .a) s)

/-- `RES 5,B` (R365). -/
def execZRes_5_B (s : State) : Host.Outcome State Fault Refusal := .next (runZRes (cyc .cb 0xA8 s) 5 (.reg .b) s)

/-- `RES 5,C` (R365). -/
def execZRes_5_C (s : State) : Host.Outcome State Fault Refusal := .next (runZRes (cyc .cb 0xA9 s) 5 (.reg .c) s)

/-- `RES 5,D` (R365). -/
def execZRes_5_D (s : State) : Host.Outcome State Fault Refusal := .next (runZRes (cyc .cb 0xAA s) 5 (.reg .d) s)

/-- `RES 5,E` (R365). -/
def execZRes_5_E (s : State) : Host.Outcome State Fault Refusal := .next (runZRes (cyc .cb 0xAB s) 5 (.reg .e) s)

/-- `RES 5,H` (R365). -/
def execZRes_5_H (s : State) : Host.Outcome State Fault Refusal := .next (runZRes (cyc .cb 0xAC s) 5 (.reg .h) s)

/-- `RES 5,L` (R365). -/
def execZRes_5_L (s : State) : Host.Outcome State Fault Refusal := .next (runZRes (cyc .cb 0xAD s) 5 (.reg .l) s)

/-- `RES 5,(HL)` (R365). -/
def execZRes_5_atHL (s : State) : Host.Outcome State Fault Refusal := .next (runZRes (cyc .cb 0xAE s) 5 (.mem .hl) s)

/-- `RES 5,A` (R365). -/
def execZRes_5_A (s : State) : Host.Outcome State Fault Refusal := .next (runZRes (cyc .cb 0xAF s) 5 (.reg .a) s)

/-- `RES 6,B` (R365). -/
def execZRes_6_B (s : State) : Host.Outcome State Fault Refusal := .next (runZRes (cyc .cb 0xB0 s) 6 (.reg .b) s)

/-- `RES 6,C` (R365). -/
def execZRes_6_C (s : State) : Host.Outcome State Fault Refusal := .next (runZRes (cyc .cb 0xB1 s) 6 (.reg .c) s)

/-- `RES 6,D` (R365). -/
def execZRes_6_D (s : State) : Host.Outcome State Fault Refusal := .next (runZRes (cyc .cb 0xB2 s) 6 (.reg .d) s)

/-- `RES 6,E` (R365). -/
def execZRes_6_E (s : State) : Host.Outcome State Fault Refusal := .next (runZRes (cyc .cb 0xB3 s) 6 (.reg .e) s)

/-- `RES 6,H` (R365). -/
def execZRes_6_H (s : State) : Host.Outcome State Fault Refusal := .next (runZRes (cyc .cb 0xB4 s) 6 (.reg .h) s)

/-- `RES 6,L` (R365). -/
def execZRes_6_L (s : State) : Host.Outcome State Fault Refusal := .next (runZRes (cyc .cb 0xB5 s) 6 (.reg .l) s)

/-- `RES 6,(HL)` (R365). -/
def execZRes_6_atHL (s : State) : Host.Outcome State Fault Refusal := .next (runZRes (cyc .cb 0xB6 s) 6 (.mem .hl) s)

/-- `RES 6,A` (R365). -/
def execZRes_6_A (s : State) : Host.Outcome State Fault Refusal := .next (runZRes (cyc .cb 0xB7 s) 6 (.reg .a) s)

/-- `RES 7,B` (R365). -/
def execZRes_7_B (s : State) : Host.Outcome State Fault Refusal := .next (runZRes (cyc .cb 0xB8 s) 7 (.reg .b) s)

/-- `RES 7,C` (R365). -/
def execZRes_7_C (s : State) : Host.Outcome State Fault Refusal := .next (runZRes (cyc .cb 0xB9 s) 7 (.reg .c) s)

/-- `RES 7,D` (R365). -/
def execZRes_7_D (s : State) : Host.Outcome State Fault Refusal := .next (runZRes (cyc .cb 0xBA s) 7 (.reg .d) s)

/-- `RES 7,E` (R365). -/
def execZRes_7_E (s : State) : Host.Outcome State Fault Refusal := .next (runZRes (cyc .cb 0xBB s) 7 (.reg .e) s)

/-- `RES 7,H` (R365). -/
def execZRes_7_H (s : State) : Host.Outcome State Fault Refusal := .next (runZRes (cyc .cb 0xBC s) 7 (.reg .h) s)

/-- `RES 7,L` (R365). -/
def execZRes_7_L (s : State) : Host.Outcome State Fault Refusal := .next (runZRes (cyc .cb 0xBD s) 7 (.reg .l) s)

/-- `RES 7,(HL)` (R365). -/
def execZRes_7_atHL (s : State) : Host.Outcome State Fault Refusal := .next (runZRes (cyc .cb 0xBE s) 7 (.mem .hl) s)

/-- `RES 7,A` (R365). -/
def execZRes_7_A (s : State) : Host.Outcome State Fault Refusal := .next (runZRes (cyc .cb 0xBF s) 7 (.reg .a) s)

/-- `SET 0,B` (R364). -/
def execZSet_0_B (s : State) : Host.Outcome State Fault Refusal := .next (runZSet (cyc .cb 0xC0 s) 0 (.reg .b) s)

/-- `SET 0,C` (R364). -/
def execZSet_0_C (s : State) : Host.Outcome State Fault Refusal := .next (runZSet (cyc .cb 0xC1 s) 0 (.reg .c) s)

/-- `SET 0,D` (R364). -/
def execZSet_0_D (s : State) : Host.Outcome State Fault Refusal := .next (runZSet (cyc .cb 0xC2 s) 0 (.reg .d) s)

/-- `SET 0,E` (R364). -/
def execZSet_0_E (s : State) : Host.Outcome State Fault Refusal := .next (runZSet (cyc .cb 0xC3 s) 0 (.reg .e) s)

/-- `SET 0,H` (R364). -/
def execZSet_0_H (s : State) : Host.Outcome State Fault Refusal := .next (runZSet (cyc .cb 0xC4 s) 0 (.reg .h) s)

/-- `SET 0,L` (R364). -/
def execZSet_0_L (s : State) : Host.Outcome State Fault Refusal := .next (runZSet (cyc .cb 0xC5 s) 0 (.reg .l) s)

/-- `SET 0,(HL)` (R364). -/
def execZSet_0_atHL (s : State) : Host.Outcome State Fault Refusal := .next (runZSet (cyc .cb 0xC6 s) 0 (.mem .hl) s)

/-- `SET 0,A` (R364). -/
def execZSet_0_A (s : State) : Host.Outcome State Fault Refusal := .next (runZSet (cyc .cb 0xC7 s) 0 (.reg .a) s)

/-- `SET 1,B` (R364). -/
def execZSet_1_B (s : State) : Host.Outcome State Fault Refusal := .next (runZSet (cyc .cb 0xC8 s) 1 (.reg .b) s)

/-- `SET 1,C` (R364). -/
def execZSet_1_C (s : State) : Host.Outcome State Fault Refusal := .next (runZSet (cyc .cb 0xC9 s) 1 (.reg .c) s)

/-- `SET 1,D` (R364). -/
def execZSet_1_D (s : State) : Host.Outcome State Fault Refusal := .next (runZSet (cyc .cb 0xCA s) 1 (.reg .d) s)

/-- `SET 1,E` (R364). -/
def execZSet_1_E (s : State) : Host.Outcome State Fault Refusal := .next (runZSet (cyc .cb 0xCB s) 1 (.reg .e) s)

/-- `SET 1,H` (R364). -/
def execZSet_1_H (s : State) : Host.Outcome State Fault Refusal := .next (runZSet (cyc .cb 0xCC s) 1 (.reg .h) s)

/-- `SET 1,L` (R364). -/
def execZSet_1_L (s : State) : Host.Outcome State Fault Refusal := .next (runZSet (cyc .cb 0xCD s) 1 (.reg .l) s)

/-- `SET 1,(HL)` (R364). -/
def execZSet_1_atHL (s : State) : Host.Outcome State Fault Refusal := .next (runZSet (cyc .cb 0xCE s) 1 (.mem .hl) s)

/-- `SET 1,A` (R364). -/
def execZSet_1_A (s : State) : Host.Outcome State Fault Refusal := .next (runZSet (cyc .cb 0xCF s) 1 (.reg .a) s)

/-- `SET 2,B` (R364). -/
def execZSet_2_B (s : State) : Host.Outcome State Fault Refusal := .next (runZSet (cyc .cb 0xD0 s) 2 (.reg .b) s)

/-- `SET 2,C` (R364). -/
def execZSet_2_C (s : State) : Host.Outcome State Fault Refusal := .next (runZSet (cyc .cb 0xD1 s) 2 (.reg .c) s)

/-- `SET 2,D` (R364). -/
def execZSet_2_D (s : State) : Host.Outcome State Fault Refusal := .next (runZSet (cyc .cb 0xD2 s) 2 (.reg .d) s)

/-- `SET 2,E` (R364). -/
def execZSet_2_E (s : State) : Host.Outcome State Fault Refusal := .next (runZSet (cyc .cb 0xD3 s) 2 (.reg .e) s)

/-- `SET 2,H` (R364). -/
def execZSet_2_H (s : State) : Host.Outcome State Fault Refusal := .next (runZSet (cyc .cb 0xD4 s) 2 (.reg .h) s)

/-- `SET 2,L` (R364). -/
def execZSet_2_L (s : State) : Host.Outcome State Fault Refusal := .next (runZSet (cyc .cb 0xD5 s) 2 (.reg .l) s)

/-- `SET 2,(HL)` (R364). -/
def execZSet_2_atHL (s : State) : Host.Outcome State Fault Refusal := .next (runZSet (cyc .cb 0xD6 s) 2 (.mem .hl) s)

/-- `SET 2,A` (R364). -/
def execZSet_2_A (s : State) : Host.Outcome State Fault Refusal := .next (runZSet (cyc .cb 0xD7 s) 2 (.reg .a) s)

/-- `SET 3,B` (R364). -/
def execZSet_3_B (s : State) : Host.Outcome State Fault Refusal := .next (runZSet (cyc .cb 0xD8 s) 3 (.reg .b) s)

/-- `SET 3,C` (R364). -/
def execZSet_3_C (s : State) : Host.Outcome State Fault Refusal := .next (runZSet (cyc .cb 0xD9 s) 3 (.reg .c) s)

/-- `SET 3,D` (R364). -/
def execZSet_3_D (s : State) : Host.Outcome State Fault Refusal := .next (runZSet (cyc .cb 0xDA s) 3 (.reg .d) s)

/-- `SET 3,E` (R364). -/
def execZSet_3_E (s : State) : Host.Outcome State Fault Refusal := .next (runZSet (cyc .cb 0xDB s) 3 (.reg .e) s)

/-- `SET 3,H` (R364). -/
def execZSet_3_H (s : State) : Host.Outcome State Fault Refusal := .next (runZSet (cyc .cb 0xDC s) 3 (.reg .h) s)

/-- `SET 3,L` (R364). -/
def execZSet_3_L (s : State) : Host.Outcome State Fault Refusal := .next (runZSet (cyc .cb 0xDD s) 3 (.reg .l) s)

/-- `SET 3,(HL)` (R364). -/
def execZSet_3_atHL (s : State) : Host.Outcome State Fault Refusal := .next (runZSet (cyc .cb 0xDE s) 3 (.mem .hl) s)

/-- `SET 3,A` (R364). -/
def execZSet_3_A (s : State) : Host.Outcome State Fault Refusal := .next (runZSet (cyc .cb 0xDF s) 3 (.reg .a) s)

/-- `SET 4,B` (R364). -/
def execZSet_4_B (s : State) : Host.Outcome State Fault Refusal := .next (runZSet (cyc .cb 0xE0 s) 4 (.reg .b) s)

/-- `SET 4,C` (R364). -/
def execZSet_4_C (s : State) : Host.Outcome State Fault Refusal := .next (runZSet (cyc .cb 0xE1 s) 4 (.reg .c) s)

/-- `SET 4,D` (R364). -/
def execZSet_4_D (s : State) : Host.Outcome State Fault Refusal := .next (runZSet (cyc .cb 0xE2 s) 4 (.reg .d) s)

/-- `SET 4,E` (R364). -/
def execZSet_4_E (s : State) : Host.Outcome State Fault Refusal := .next (runZSet (cyc .cb 0xE3 s) 4 (.reg .e) s)

/-- `SET 4,H` (R364). -/
def execZSet_4_H (s : State) : Host.Outcome State Fault Refusal := .next (runZSet (cyc .cb 0xE4 s) 4 (.reg .h) s)

/-- `SET 4,L` (R364). -/
def execZSet_4_L (s : State) : Host.Outcome State Fault Refusal := .next (runZSet (cyc .cb 0xE5 s) 4 (.reg .l) s)

/-- `SET 4,(HL)` (R364). -/
def execZSet_4_atHL (s : State) : Host.Outcome State Fault Refusal := .next (runZSet (cyc .cb 0xE6 s) 4 (.mem .hl) s)

/-- `SET 4,A` (R364). -/
def execZSet_4_A (s : State) : Host.Outcome State Fault Refusal := .next (runZSet (cyc .cb 0xE7 s) 4 (.reg .a) s)

/-- `SET 5,B` (R364). -/
def execZSet_5_B (s : State) : Host.Outcome State Fault Refusal := .next (runZSet (cyc .cb 0xE8 s) 5 (.reg .b) s)

/-- `SET 5,C` (R364). -/
def execZSet_5_C (s : State) : Host.Outcome State Fault Refusal := .next (runZSet (cyc .cb 0xE9 s) 5 (.reg .c) s)

/-- `SET 5,D` (R364). -/
def execZSet_5_D (s : State) : Host.Outcome State Fault Refusal := .next (runZSet (cyc .cb 0xEA s) 5 (.reg .d) s)

/-- `SET 5,E` (R364). -/
def execZSet_5_E (s : State) : Host.Outcome State Fault Refusal := .next (runZSet (cyc .cb 0xEB s) 5 (.reg .e) s)

/-- `SET 5,H` (R364). -/
def execZSet_5_H (s : State) : Host.Outcome State Fault Refusal := .next (runZSet (cyc .cb 0xEC s) 5 (.reg .h) s)

/-- `SET 5,L` (R364). -/
def execZSet_5_L (s : State) : Host.Outcome State Fault Refusal := .next (runZSet (cyc .cb 0xED s) 5 (.reg .l) s)

/-- `SET 5,(HL)` (R364). -/
def execZSet_5_atHL (s : State) : Host.Outcome State Fault Refusal := .next (runZSet (cyc .cb 0xEE s) 5 (.mem .hl) s)

/-- `SET 5,A` (R364). -/
def execZSet_5_A (s : State) : Host.Outcome State Fault Refusal := .next (runZSet (cyc .cb 0xEF s) 5 (.reg .a) s)

/-- `SET 6,B` (R364). -/
def execZSet_6_B (s : State) : Host.Outcome State Fault Refusal := .next (runZSet (cyc .cb 0xF0 s) 6 (.reg .b) s)

/-- `SET 6,C` (R364). -/
def execZSet_6_C (s : State) : Host.Outcome State Fault Refusal := .next (runZSet (cyc .cb 0xF1 s) 6 (.reg .c) s)

/-- `SET 6,D` (R364). -/
def execZSet_6_D (s : State) : Host.Outcome State Fault Refusal := .next (runZSet (cyc .cb 0xF2 s) 6 (.reg .d) s)

/-- `SET 6,E` (R364). -/
def execZSet_6_E (s : State) : Host.Outcome State Fault Refusal := .next (runZSet (cyc .cb 0xF3 s) 6 (.reg .e) s)

/-- `SET 6,H` (R364). -/
def execZSet_6_H (s : State) : Host.Outcome State Fault Refusal := .next (runZSet (cyc .cb 0xF4 s) 6 (.reg .h) s)

/-- `SET 6,L` (R364). -/
def execZSet_6_L (s : State) : Host.Outcome State Fault Refusal := .next (runZSet (cyc .cb 0xF5 s) 6 (.reg .l) s)

/-- `SET 6,(HL)` (R364). -/
def execZSet_6_atHL (s : State) : Host.Outcome State Fault Refusal := .next (runZSet (cyc .cb 0xF6 s) 6 (.mem .hl) s)

/-- `SET 6,A` (R364). -/
def execZSet_6_A (s : State) : Host.Outcome State Fault Refusal := .next (runZSet (cyc .cb 0xF7 s) 6 (.reg .a) s)

/-- `SET 7,B` (R364). -/
def execZSet_7_B (s : State) : Host.Outcome State Fault Refusal := .next (runZSet (cyc .cb 0xF8 s) 7 (.reg .b) s)

/-- `SET 7,C` (R364). -/
def execZSet_7_C (s : State) : Host.Outcome State Fault Refusal := .next (runZSet (cyc .cb 0xF9 s) 7 (.reg .c) s)

/-- `SET 7,D` (R364). -/
def execZSet_7_D (s : State) : Host.Outcome State Fault Refusal := .next (runZSet (cyc .cb 0xFA s) 7 (.reg .d) s)

/-- `SET 7,E` (R364). -/
def execZSet_7_E (s : State) : Host.Outcome State Fault Refusal := .next (runZSet (cyc .cb 0xFB s) 7 (.reg .e) s)

/-- `SET 7,H` (R364). -/
def execZSet_7_H (s : State) : Host.Outcome State Fault Refusal := .next (runZSet (cyc .cb 0xFC s) 7 (.reg .h) s)

/-- `SET 7,L` (R364). -/
def execZSet_7_L (s : State) : Host.Outcome State Fault Refusal := .next (runZSet (cyc .cb 0xFD s) 7 (.reg .l) s)

/-- `SET 7,(HL)` (R364). -/
def execZSet_7_atHL (s : State) : Host.Outcome State Fault Refusal := .next (runZSet (cyc .cb 0xFE s) 7 (.mem .hl) s)

/-- `SET 7,A` (R364). -/
def execZSet_7_A (s : State) : Host.Outcome State Fault Refusal := .next (runZSet (cyc .cb 0xFF s) 7 (.reg .a) s)

/-- `BIT 0,(IX+d)` (R363). -/
def execZBit_0_atIXd (d : Byte) (s : State) : Host.Outcome State Fault Refusal :=
  .next (runZBit (cyc .ddcb 0x46 s) 0 (.mem (.idx .ix d)) s)

/-- `BIT 1,(IX+d)` (R363). -/
def execZBit_1_atIXd (d : Byte) (s : State) : Host.Outcome State Fault Refusal :=
  .next (runZBit (cyc .ddcb 0x4E s) 1 (.mem (.idx .ix d)) s)

/-- `BIT 2,(IX+d)` (R363). -/
def execZBit_2_atIXd (d : Byte) (s : State) : Host.Outcome State Fault Refusal :=
  .next (runZBit (cyc .ddcb 0x56 s) 2 (.mem (.idx .ix d)) s)

/-- `BIT 3,(IX+d)` (R363). -/
def execZBit_3_atIXd (d : Byte) (s : State) : Host.Outcome State Fault Refusal :=
  .next (runZBit (cyc .ddcb 0x5E s) 3 (.mem (.idx .ix d)) s)

/-- `BIT 4,(IX+d)` (R363). -/
def execZBit_4_atIXd (d : Byte) (s : State) : Host.Outcome State Fault Refusal :=
  .next (runZBit (cyc .ddcb 0x66 s) 4 (.mem (.idx .ix d)) s)

/-- `BIT 5,(IX+d)` (R363). -/
def execZBit_5_atIXd (d : Byte) (s : State) : Host.Outcome State Fault Refusal :=
  .next (runZBit (cyc .ddcb 0x6E s) 5 (.mem (.idx .ix d)) s)

/-- `BIT 6,(IX+d)` (R363). -/
def execZBit_6_atIXd (d : Byte) (s : State) : Host.Outcome State Fault Refusal :=
  .next (runZBit (cyc .ddcb 0x76 s) 6 (.mem (.idx .ix d)) s)

/-- `BIT 7,(IX+d)` (R363). -/
def execZBit_7_atIXd (d : Byte) (s : State) : Host.Outcome State Fault Refusal :=
  .next (runZBit (cyc .ddcb 0x7E s) 7 (.mem (.idx .ix d)) s)

/-- `RES 0,(IX+d)` (R365). -/
def execZRes_0_atIXd (d : Byte) (s : State) : Host.Outcome State Fault Refusal :=
  .next (runZRes (cyc .ddcb 0x86 s) 0 (.mem (.idx .ix d)) s)

/-- `RES 1,(IX+d)` (R365). -/
def execZRes_1_atIXd (d : Byte) (s : State) : Host.Outcome State Fault Refusal :=
  .next (runZRes (cyc .ddcb 0x8E s) 1 (.mem (.idx .ix d)) s)

/-- `RES 2,(IX+d)` (R365). -/
def execZRes_2_atIXd (d : Byte) (s : State) : Host.Outcome State Fault Refusal :=
  .next (runZRes (cyc .ddcb 0x96 s) 2 (.mem (.idx .ix d)) s)

/-- `RES 3,(IX+d)` (R365). -/
def execZRes_3_atIXd (d : Byte) (s : State) : Host.Outcome State Fault Refusal :=
  .next (runZRes (cyc .ddcb 0x9E s) 3 (.mem (.idx .ix d)) s)

/-- `RES 4,(IX+d)` (R365). -/
def execZRes_4_atIXd (d : Byte) (s : State) : Host.Outcome State Fault Refusal :=
  .next (runZRes (cyc .ddcb 0xA6 s) 4 (.mem (.idx .ix d)) s)

/-- `RES 5,(IX+d)` (R365). -/
def execZRes_5_atIXd (d : Byte) (s : State) : Host.Outcome State Fault Refusal :=
  .next (runZRes (cyc .ddcb 0xAE s) 5 (.mem (.idx .ix d)) s)

/-- `RES 6,(IX+d)` (R365). -/
def execZRes_6_atIXd (d : Byte) (s : State) : Host.Outcome State Fault Refusal :=
  .next (runZRes (cyc .ddcb 0xB6 s) 6 (.mem (.idx .ix d)) s)

/-- `RES 7,(IX+d)` (R365). -/
def execZRes_7_atIXd (d : Byte) (s : State) : Host.Outcome State Fault Refusal :=
  .next (runZRes (cyc .ddcb 0xBE s) 7 (.mem (.idx .ix d)) s)

/-- `SET 0,(IX+d)` (R364). -/
def execZSet_0_atIXd (d : Byte) (s : State) : Host.Outcome State Fault Refusal :=
  .next (runZSet (cyc .ddcb 0xC6 s) 0 (.mem (.idx .ix d)) s)

/-- `SET 1,(IX+d)` (R364). -/
def execZSet_1_atIXd (d : Byte) (s : State) : Host.Outcome State Fault Refusal :=
  .next (runZSet (cyc .ddcb 0xCE s) 1 (.mem (.idx .ix d)) s)

/-- `SET 2,(IX+d)` (R364). -/
def execZSet_2_atIXd (d : Byte) (s : State) : Host.Outcome State Fault Refusal :=
  .next (runZSet (cyc .ddcb 0xD6 s) 2 (.mem (.idx .ix d)) s)

/-- `SET 3,(IX+d)` (R364). -/
def execZSet_3_atIXd (d : Byte) (s : State) : Host.Outcome State Fault Refusal :=
  .next (runZSet (cyc .ddcb 0xDE s) 3 (.mem (.idx .ix d)) s)

/-- `SET 4,(IX+d)` (R364). -/
def execZSet_4_atIXd (d : Byte) (s : State) : Host.Outcome State Fault Refusal :=
  .next (runZSet (cyc .ddcb 0xE6 s) 4 (.mem (.idx .ix d)) s)

/-- `SET 5,(IX+d)` (R364). -/
def execZSet_5_atIXd (d : Byte) (s : State) : Host.Outcome State Fault Refusal :=
  .next (runZSet (cyc .ddcb 0xEE s) 5 (.mem (.idx .ix d)) s)

/-- `SET 6,(IX+d)` (R364). -/
def execZSet_6_atIXd (d : Byte) (s : State) : Host.Outcome State Fault Refusal :=
  .next (runZSet (cyc .ddcb 0xF6 s) 6 (.mem (.idx .ix d)) s)

/-- `SET 7,(IX+d)` (R364). -/
def execZSet_7_atIXd (d : Byte) (s : State) : Host.Outcome State Fault Refusal :=
  .next (runZSet (cyc .ddcb 0xFE s) 7 (.mem (.idx .ix d)) s)

/-- `BIT 0,(IY+d)` (R363). -/
def execZBit_0_atIYd (d : Byte) (s : State) : Host.Outcome State Fault Refusal :=
  .next (runZBit (cyc .fdcb 0x46 s) 0 (.mem (.idx .iy d)) s)

/-- `BIT 1,(IY+d)` (R363). -/
def execZBit_1_atIYd (d : Byte) (s : State) : Host.Outcome State Fault Refusal :=
  .next (runZBit (cyc .fdcb 0x4E s) 1 (.mem (.idx .iy d)) s)

/-- `BIT 2,(IY+d)` (R363). -/
def execZBit_2_atIYd (d : Byte) (s : State) : Host.Outcome State Fault Refusal :=
  .next (runZBit (cyc .fdcb 0x56 s) 2 (.mem (.idx .iy d)) s)

/-- `BIT 3,(IY+d)` (R363). -/
def execZBit_3_atIYd (d : Byte) (s : State) : Host.Outcome State Fault Refusal :=
  .next (runZBit (cyc .fdcb 0x5E s) 3 (.mem (.idx .iy d)) s)

/-- `BIT 4,(IY+d)` (R363). -/
def execZBit_4_atIYd (d : Byte) (s : State) : Host.Outcome State Fault Refusal :=
  .next (runZBit (cyc .fdcb 0x66 s) 4 (.mem (.idx .iy d)) s)

/-- `BIT 5,(IY+d)` (R363). -/
def execZBit_5_atIYd (d : Byte) (s : State) : Host.Outcome State Fault Refusal :=
  .next (runZBit (cyc .fdcb 0x6E s) 5 (.mem (.idx .iy d)) s)

/-- `BIT 6,(IY+d)` (R363). -/
def execZBit_6_atIYd (d : Byte) (s : State) : Host.Outcome State Fault Refusal :=
  .next (runZBit (cyc .fdcb 0x76 s) 6 (.mem (.idx .iy d)) s)

/-- `BIT 7,(IY+d)` (R363). -/
def execZBit_7_atIYd (d : Byte) (s : State) : Host.Outcome State Fault Refusal :=
  .next (runZBit (cyc .fdcb 0x7E s) 7 (.mem (.idx .iy d)) s)

/-- `RES 0,(IY+d)` (R365). -/
def execZRes_0_atIYd (d : Byte) (s : State) : Host.Outcome State Fault Refusal :=
  .next (runZRes (cyc .fdcb 0x86 s) 0 (.mem (.idx .iy d)) s)

/-- `RES 1,(IY+d)` (R365). -/
def execZRes_1_atIYd (d : Byte) (s : State) : Host.Outcome State Fault Refusal :=
  .next (runZRes (cyc .fdcb 0x8E s) 1 (.mem (.idx .iy d)) s)

/-- `RES 2,(IY+d)` (R365). -/
def execZRes_2_atIYd (d : Byte) (s : State) : Host.Outcome State Fault Refusal :=
  .next (runZRes (cyc .fdcb 0x96 s) 2 (.mem (.idx .iy d)) s)

/-- `RES 3,(IY+d)` (R365). -/
def execZRes_3_atIYd (d : Byte) (s : State) : Host.Outcome State Fault Refusal :=
  .next (runZRes (cyc .fdcb 0x9E s) 3 (.mem (.idx .iy d)) s)

/-- `RES 4,(IY+d)` (R365). -/
def execZRes_4_atIYd (d : Byte) (s : State) : Host.Outcome State Fault Refusal :=
  .next (runZRes (cyc .fdcb 0xA6 s) 4 (.mem (.idx .iy d)) s)

/-- `RES 5,(IY+d)` (R365). -/
def execZRes_5_atIYd (d : Byte) (s : State) : Host.Outcome State Fault Refusal :=
  .next (runZRes (cyc .fdcb 0xAE s) 5 (.mem (.idx .iy d)) s)

/-- `RES 6,(IY+d)` (R365). -/
def execZRes_6_atIYd (d : Byte) (s : State) : Host.Outcome State Fault Refusal :=
  .next (runZRes (cyc .fdcb 0xB6 s) 6 (.mem (.idx .iy d)) s)

/-- `RES 7,(IY+d)` (R365). -/
def execZRes_7_atIYd (d : Byte) (s : State) : Host.Outcome State Fault Refusal :=
  .next (runZRes (cyc .fdcb 0xBE s) 7 (.mem (.idx .iy d)) s)

/-- `SET 0,(IY+d)` (R364). -/
def execZSet_0_atIYd (d : Byte) (s : State) : Host.Outcome State Fault Refusal :=
  .next (runZSet (cyc .fdcb 0xC6 s) 0 (.mem (.idx .iy d)) s)

/-- `SET 1,(IY+d)` (R364). -/
def execZSet_1_atIYd (d : Byte) (s : State) : Host.Outcome State Fault Refusal :=
  .next (runZSet (cyc .fdcb 0xCE s) 1 (.mem (.idx .iy d)) s)

/-- `SET 2,(IY+d)` (R364). -/
def execZSet_2_atIYd (d : Byte) (s : State) : Host.Outcome State Fault Refusal :=
  .next (runZSet (cyc .fdcb 0xD6 s) 2 (.mem (.idx .iy d)) s)

/-- `SET 3,(IY+d)` (R364). -/
def execZSet_3_atIYd (d : Byte) (s : State) : Host.Outcome State Fault Refusal :=
  .next (runZSet (cyc .fdcb 0xDE s) 3 (.mem (.idx .iy d)) s)

/-- `SET 4,(IY+d)` (R364). -/
def execZSet_4_atIYd (d : Byte) (s : State) : Host.Outcome State Fault Refusal :=
  .next (runZSet (cyc .fdcb 0xE6 s) 4 (.mem (.idx .iy d)) s)

/-- `SET 5,(IY+d)` (R364). -/
def execZSet_5_atIYd (d : Byte) (s : State) : Host.Outcome State Fault Refusal :=
  .next (runZSet (cyc .fdcb 0xEE s) 5 (.mem (.idx .iy d)) s)

/-- `SET 6,(IY+d)` (R364). -/
def execZSet_6_atIYd (d : Byte) (s : State) : Host.Outcome State Fault Refusal :=
  .next (runZSet (cyc .fdcb 0xF6 s) 6 (.mem (.idx .iy d)) s)

/-- `SET 7,(IY+d)` (R364). -/
def execZSet_7_atIYd (d : Byte) (s : State) : Host.Outcome State Fault Refusal :=
  .next (runZSet (cyc .fdcb 0xFE s) 7 (.mem (.idx .iy d)) s)

end Sys2Proof.Machine
end

