-- ==== Sys2Proof/Machine/Z80Block.lean ====
section
/-! DEFINITION. The meanings of the Z80 block transfer and search (R307 to R314), one definition per instruction over the shapes of
Sys2Proof.Machine.Z80. -/

namespace Sys2Proof.Machine

/-- `LDI` (R307). -/
def execZLdi (s : State) : Host.Outcome State Fault Refusal := .next (runZLdBlock (cyc .ed 0xA0 s) .up false s)

/-- `CPI` (R311). -/
def execZCpi (s : State) : Host.Outcome State Fault Refusal := .next (runZCpBlock (cyc .ed 0xA1 s) .up false s)

/-- `LDD` (R309). -/
def execZLdd (s : State) : Host.Outcome State Fault Refusal := .next (runZLdBlock (cyc .ed 0xA8 s) .down false s)

/-- `CPD` (R313). -/
def execZCpd (s : State) : Host.Outcome State Fault Refusal := .next (runZCpBlock (cyc .ed 0xA9 s) .down false s)

/-- `LDIR` (R308). -/
def execZLdir (s : State) : Host.Outcome State Fault Refusal := .next (runZLdBlock (cyc .ed 0xB0 s) .up true s)

/-- `CPIR` (R312). -/
def execZCpir (s : State) : Host.Outcome State Fault Refusal := .next (runZCpBlock (cyc .ed 0xB1 s) .up true s)

/-- `LDDR` (R310). -/
def execZLddr (s : State) : Host.Outcome State Fault Refusal := .next (runZLdBlock (cyc .ed 0xB8 s) .down true s)

/-- `CPDR` (R314). -/
def execZCpdr (s : State) : Host.Outcome State Fault Refusal := .next (runZCpBlock (cyc .ed 0xB9 s) .down true s)

end Sys2Proof.Machine
end

