-- ==== Sys2Proof/Machine/Z80Control.lean ====
section
/-! DEFINITION. The meanings of the Z80 jumps, calls, returns and CPU control (R381 to R399), one definition per instruction over the shapes of
Sys2Proof.Machine.Z80. -/

namespace Sys2Proof.Machine

/-- `NOP` (R395). -/
def execZNop (s : State) : Host.Outcome State Fault Refusal := .next (runZNop (cyc .main 0x00 s) s)

/-- `DJNZ e` (R387). -/
def execZDjnz_e (e : Byte) (s : State) : Host.Outcome State Fault Refusal := .next (runZDjnz (cyc .main 0x10 s) e s)

/-- `JR e` (R383). -/
def execZJr_e (e : Byte) (s : State) : Host.Outcome State Fault Refusal := .next (runZJr (cyc .main 0x18 s) e s)

/-- `JR NZ,e` (R384). -/
def execZJr_NZ_e (e : Byte) (s : State) : Host.Outcome State Fault Refusal :=
  .next (runZJrCC (cyc .main 0x20 s) .nz e s)

/-- `JR Z,e` (R384). -/
def execZJr_Z_e (e : Byte) (s : State) : Host.Outcome State Fault Refusal := .next (runZJrCC (cyc .main 0x28 s) .z e s)

/-- `JR NC,e` (R384). -/
def execZJr_NC_e (e : Byte) (s : State) : Host.Outcome State Fault Refusal :=
  .next (runZJrCC (cyc .main 0x30 s) .nc e s)

/-- `JR C,e` (R384). -/
def execZJr_C_e (e : Byte) (s : State) : Host.Outcome State Fault Refusal := .next (runZJrCC (cyc .main 0x38 s) .c e s)

/-- `HALT` (R396). -/
def execZHalt (s : State) : Host.Outcome State Fault Refusal := .next (runZHalt s)

/-- `RET NZ` (R391). -/
def execZRet_NZ (s : State) : Host.Outcome State Fault Refusal := .next (runZRetCC (cyc .main 0xC0 s) .nz s)

/-- `JP NZ,nn` (R382). -/
def execZJp_NZ_nn (lo hi : Byte) (s : State) : Host.Outcome State Fault Refusal :=
  .next (runZJpCC (cyc .main 0xC2 s) .nz lo hi s)

/-- `JP nn` (R381). -/
def execZJp_nn (lo hi : Byte) (s : State) : Host.Outcome State Fault Refusal :=
  .next (runZJp (cyc .main 0xC3 s) lo hi s)

/-- `CALL NZ,nn` (R389). -/
def execZCall_NZ_nn (lo hi : Byte) (s : State) : Host.Outcome State Fault Refusal :=
  .next (runZCallCC (cyc .main 0xC4 s) .nz lo hi s)

/-- `RST 00H` (R394). -/
def execZRst_00H (s : State) : Host.Outcome State Fault Refusal := .next (runZRst (cyc .main 0xC7 s) 0 s)

/-- `RET Z` (R391). -/
def execZRet_Z (s : State) : Host.Outcome State Fault Refusal := .next (runZRetCC (cyc .main 0xC8 s) .z s)

/-- `RET` (R390). -/
def execZRet (s : State) : Host.Outcome State Fault Refusal := .next (runZRet (cyc .main 0xC9 s) s)

/-- `JP Z,nn` (R382). -/
def execZJp_Z_nn (lo hi : Byte) (s : State) : Host.Outcome State Fault Refusal :=
  .next (runZJpCC (cyc .main 0xCA s) .z lo hi s)

/-- `CALL Z,nn` (R389). -/
def execZCall_Z_nn (lo hi : Byte) (s : State) : Host.Outcome State Fault Refusal :=
  .next (runZCallCC (cyc .main 0xCC s) .z lo hi s)

/-- `CALL nn` (R388). -/
def execZCall_nn (lo hi : Byte) (s : State) : Host.Outcome State Fault Refusal :=
  .next (runZCall (cyc .main 0xCD s) lo hi s)

/-- `RST 08H` (R394). -/
def execZRst_08H (s : State) : Host.Outcome State Fault Refusal := .next (runZRst (cyc .main 0xCF s) 1 s)

/-- `RET NC` (R391). -/
def execZRet_NC (s : State) : Host.Outcome State Fault Refusal := .next (runZRetCC (cyc .main 0xD0 s) .nc s)

/-- `JP NC,nn` (R382). -/
def execZJp_NC_nn (lo hi : Byte) (s : State) : Host.Outcome State Fault Refusal :=
  .next (runZJpCC (cyc .main 0xD2 s) .nc lo hi s)

/-- `CALL NC,nn` (R389). -/
def execZCall_NC_nn (lo hi : Byte) (s : State) : Host.Outcome State Fault Refusal :=
  .next (runZCallCC (cyc .main 0xD4 s) .nc lo hi s)

/-- `RST 10H` (R394). -/
def execZRst_10H (s : State) : Host.Outcome State Fault Refusal := .next (runZRst (cyc .main 0xD7 s) 2 s)

/-- `RET C` (R391). -/
def execZRet_C (s : State) : Host.Outcome State Fault Refusal := .next (runZRetCC (cyc .main 0xD8 s) .c s)

/-- `JP C,nn` (R382). -/
def execZJp_C_nn (lo hi : Byte) (s : State) : Host.Outcome State Fault Refusal :=
  .next (runZJpCC (cyc .main 0xDA s) .c lo hi s)

/-- `CALL C,nn` (R389). -/
def execZCall_C_nn (lo hi : Byte) (s : State) : Host.Outcome State Fault Refusal :=
  .next (runZCallCC (cyc .main 0xDC s) .c lo hi s)

/-- `RST 18H` (R394). -/
def execZRst_18H (s : State) : Host.Outcome State Fault Refusal := .next (runZRst (cyc .main 0xDF s) 3 s)

/-- `RET PO` (R391). -/
def execZRet_PO (s : State) : Host.Outcome State Fault Refusal := .next (runZRetCC (cyc .main 0xE0 s) .po s)

/-- `JP PO,nn` (R382). -/
def execZJp_PO_nn (lo hi : Byte) (s : State) : Host.Outcome State Fault Refusal :=
  .next (runZJpCC (cyc .main 0xE2 s) .po lo hi s)

/-- `CALL PO,nn` (R389). -/
def execZCall_PO_nn (lo hi : Byte) (s : State) : Host.Outcome State Fault Refusal :=
  .next (runZCallCC (cyc .main 0xE4 s) .po lo hi s)

/-- `RST 20H` (R394). -/
def execZRst_20H (s : State) : Host.Outcome State Fault Refusal := .next (runZRst (cyc .main 0xE7 s) 4 s)

/-- `RET PE` (R391). -/
def execZRet_PE (s : State) : Host.Outcome State Fault Refusal := .next (runZRetCC (cyc .main 0xE8 s) .pe s)

/-- `JP (HL)` (R385). -/
def execZJp_atHL (s : State) : Host.Outcome State Fault Refusal := .next (runZJpHL (cyc .main 0xE9 s) .hl s)

/-- `JP PE,nn` (R382). -/
def execZJp_PE_nn (lo hi : Byte) (s : State) : Host.Outcome State Fault Refusal :=
  .next (runZJpCC (cyc .main 0xEA s) .pe lo hi s)

/-- `CALL PE,nn` (R389). -/
def execZCall_PE_nn (lo hi : Byte) (s : State) : Host.Outcome State Fault Refusal :=
  .next (runZCallCC (cyc .main 0xEC s) .pe lo hi s)

/-- `RST 28H` (R394). -/
def execZRst_28H (s : State) : Host.Outcome State Fault Refusal := .next (runZRst (cyc .main 0xEF s) 5 s)

/-- `RET P` (R391). -/
def execZRet_P (s : State) : Host.Outcome State Fault Refusal := .next (runZRetCC (cyc .main 0xF0 s) .p s)

/-- `JP P,nn` (R382). -/
def execZJp_P_nn (lo hi : Byte) (s : State) : Host.Outcome State Fault Refusal :=
  .next (runZJpCC (cyc .main 0xF2 s) .p lo hi s)

/-- `DI` (R397). -/
def execZDi (s : State) : Host.Outcome State Fault Refusal := .next (runZDi (cyc .main 0xF3 s) s)

/-- `CALL P,nn` (R389). -/
def execZCall_P_nn (lo hi : Byte) (s : State) : Host.Outcome State Fault Refusal :=
  .next (runZCallCC (cyc .main 0xF4 s) .p lo hi s)

/-- `RST 30H` (R394). -/
def execZRst_30H (s : State) : Host.Outcome State Fault Refusal := .next (runZRst (cyc .main 0xF7 s) 6 s)

/-- `RET M` (R391). -/
def execZRet_M (s : State) : Host.Outcome State Fault Refusal := .next (runZRetCC (cyc .main 0xF8 s) .m s)

/-- `JP M,nn` (R382). -/
def execZJp_M_nn (lo hi : Byte) (s : State) : Host.Outcome State Fault Refusal :=
  .next (runZJpCC (cyc .main 0xFA s) .m lo hi s)

/-- `EI` (R398). -/
def execZEi (s : State) : Host.Outcome State Fault Refusal := .next (runZEi (cyc .main 0xFB s) s)

/-- `CALL M,nn` (R389). -/
def execZCall_M_nn (lo hi : Byte) (s : State) : Host.Outcome State Fault Refusal :=
  .next (runZCallCC (cyc .main 0xFC s) .m lo hi s)

/-- `RST 38H` (R394). -/
def execZRst_38H (s : State) : Host.Outcome State Fault Refusal := .next (runZRst (cyc .main 0xFF s) 7 s)

/-- `RETN` (R393). -/
def execZRetn (s : State) : Host.Outcome State Fault Refusal := .next (runZRetn (cyc .ed 0x45 s) s)

/-- `RETI` (R392). -/
def execZReti (s : State) : Host.Outcome State Fault Refusal := .next (runZReti (cyc .ed 0x4D s) s)

/-- `IM 0` (R399). -/
def execZIm_0 (s : State) : Host.Outcome State Fault Refusal := .next (runZIm (cyc .ed 0x46 s) .im0 s)

/-- `IM 1` (R399). -/
def execZIm_1 (s : State) : Host.Outcome State Fault Refusal := .next (runZIm (cyc .ed 0x56 s) .im1 s)

/-- `IM 2` (R399). -/
def execZIm_2 (s : State) : Host.Outcome State Fault Refusal := .next (runZIm (cyc .ed 0x5E s) .im2 s)

/-- `JP (IX)` (R386). -/
def execZJp_atIX (s : State) : Host.Outcome State Fault Refusal := .next (runZJpHL (cyc .dd 0xE9 s) (.xy .ix) s)

/-- `JP (IY)` (R386). -/
def execZJp_atIY (s : State) : Host.Outcome State Fault Refusal := .next (runZJpHL (cyc .fd 0xE9 s) (.xy .iy) s)

end Sys2Proof.Machine
end

