-- ==== Sys2Proof/Machine/Z80Exchange.lean ====
section
/-! DEFINITION. The meanings of the Z80 exchanges (R302 to R306), one definition per instruction over the shapes of
Sys2Proof.Machine.Z80. -/

namespace Sys2Proof.Machine

/-- `EX AF,AF'` (R303). -/
def execZEx_AF_AFalt (s : State) : Host.Outcome State Fault Refusal := .next (runZExAF (cyc .main 0x08 s) s)

/-- `EXX` (R304). -/
def execZExx (s : State) : Host.Outcome State Fault Refusal := .next (runZExx (cyc .main 0xD9 s) s)

/-- `EX (SP),HL` (R305). -/
def execZEx_atSP_HL (s : State) : Host.Outcome State Fault Refusal := .next (runZExSP (cyc .main 0xE3 s) .hl s)

/-- `EX DE,HL` (R302). -/
def execZEx_DE_HL (s : State) : Host.Outcome State Fault Refusal := .next (runZExDEHL (cyc .main 0xEB s) s)

/-- `EX (SP),IX` (R306). -/
def execZEx_atSP_IX (s : State) : Host.Outcome State Fault Refusal := .next (runZExSP (cyc .dd 0xE3 s) (.xy .ix) s)

/-- `EX (SP),IY` (R306). -/
def execZEx_atSP_IY (s : State) : Host.Outcome State Fault Refusal := .next (runZExSP (cyc .fd 0xE3 s) (.xy .iy) s)

end Sys2Proof.Machine
end

