-- ==== Sys2Proof/Machine/Z80Io.lean ====
section
/-! DEFINITION. The meanings of the Z80 input and output (R400 to R411), one definition per instruction over the shapes of
Sys2Proof.Machine.Z80. -/

namespace Sys2Proof.Machine

/-- `OUT (n),A` (R406). -/
def execZOut_atn_A (n : Byte) (s : State) : Host.Outcome State Fault Refusal := .next (runZOutNA (cyc .main 0xD3 s) n s)

/-- `IN A,(n)` (R400). -/
def execZIn_A_atn (n : Byte) (s : State) : Host.Outcome State Fault Refusal := .next (runZInAN (cyc .main 0xDB s) n s)

/-- `IN B,(C)` (R401). -/
def execZIn_B_atC (s : State) : Host.Outcome State Fault Refusal := .next (runZInRC (cyc .ed 0x40 s) .b s)

/-- `OUT (C),B` (R407). -/
def execZOut_atC_B (s : State) : Host.Outcome State Fault Refusal := .next (runZOutCR (cyc .ed 0x41 s) .b s)

/-- `IN C,(C)` (R401). -/
def execZIn_C_atC (s : State) : Host.Outcome State Fault Refusal := .next (runZInRC (cyc .ed 0x48 s) .c s)

/-- `OUT (C),C` (R407). -/
def execZOut_atC_C (s : State) : Host.Outcome State Fault Refusal := .next (runZOutCR (cyc .ed 0x49 s) .c s)

/-- `IN D,(C)` (R401). -/
def execZIn_D_atC (s : State) : Host.Outcome State Fault Refusal := .next (runZInRC (cyc .ed 0x50 s) .d s)

/-- `OUT (C),D` (R407). -/
def execZOut_atC_D (s : State) : Host.Outcome State Fault Refusal := .next (runZOutCR (cyc .ed 0x51 s) .d s)

/-- `IN E,(C)` (R401). -/
def execZIn_E_atC (s : State) : Host.Outcome State Fault Refusal := .next (runZInRC (cyc .ed 0x58 s) .e s)

/-- `OUT (C),E` (R407). -/
def execZOut_atC_E (s : State) : Host.Outcome State Fault Refusal := .next (runZOutCR (cyc .ed 0x59 s) .e s)

/-- `IN H,(C)` (R401). -/
def execZIn_H_atC (s : State) : Host.Outcome State Fault Refusal := .next (runZInRC (cyc .ed 0x60 s) .h s)

/-- `OUT (C),H` (R407). -/
def execZOut_atC_H (s : State) : Host.Outcome State Fault Refusal := .next (runZOutCR (cyc .ed 0x61 s) .h s)

/-- `IN L,(C)` (R401). -/
def execZIn_L_atC (s : State) : Host.Outcome State Fault Refusal := .next (runZInRC (cyc .ed 0x68 s) .l s)

/-- `OUT (C),L` (R407). -/
def execZOut_atC_L (s : State) : Host.Outcome State Fault Refusal := .next (runZOutCR (cyc .ed 0x69 s) .l s)

/-- `IN A,(C)` (R401). -/
def execZIn_A_atC (s : State) : Host.Outcome State Fault Refusal := .next (runZInRC (cyc .ed 0x78 s) .a s)

/-- `OUT (C),A` (R407). -/
def execZOut_atC_A (s : State) : Host.Outcome State Fault Refusal := .next (runZOutCR (cyc .ed 0x79 s) .a s)

/-- `INI` (R402). -/
def execZIni (s : State) : Host.Outcome State Fault Refusal := .next (runZInBlock (cyc .ed 0xA2 s) .up false s)

/-- `OUTI` (R408). -/
def execZOuti (s : State) : Host.Outcome State Fault Refusal := .next (runZOutBlock (cyc .ed 0xA3 s) .up false s)

/-- `IND` (R404). -/
def execZInd (s : State) : Host.Outcome State Fault Refusal := .next (runZInBlock (cyc .ed 0xAA s) .down false s)

/-- `OUTD` (R410). -/
def execZOutd (s : State) : Host.Outcome State Fault Refusal := .next (runZOutBlock (cyc .ed 0xAB s) .down false s)

/-- `INIR` (R403). -/
def execZInir (s : State) : Host.Outcome State Fault Refusal := .next (runZInBlock (cyc .ed 0xB2 s) .up true s)

/-- `OTIR` (R409). -/
def execZOtir (s : State) : Host.Outcome State Fault Refusal := .next (runZOutBlock (cyc .ed 0xB3 s) .up true s)

/-- `INDR` (R405). -/
def execZIndr (s : State) : Host.Outcome State Fault Refusal := .next (runZInBlock (cyc .ed 0xBA s) .down true s)

/-- `OTDR` (R411). -/
def execZOtdr (s : State) : Host.Outcome State Fault Refusal := .next (runZOutBlock (cyc .ed 0xBB s) .down true s)

end Sys2Proof.Machine
end

