-- ==== Sys2Proof/Machine/Z80Load.lean ====
section
/-! DEFINITION. The meanings of the Z80 8-bit and 16-bit loads, PUSH and POP (R272 to R301), one definition per instruction over the shapes of
Sys2Proof.Machine.Z80. -/

namespace Sys2Proof.Machine

/-- `LD BC,nn` (R288). -/
def execZLd_BC_nn (lo hi : Byte) (s : State) : Host.Outcome State Fault Refusal :=
  .next (runZLdPN (cyc .main 0x01 s) (.rp .bc) lo hi s)

/-- `LD (BC),A` (R282). -/
def execZLd_atBC_A (s : State) : Host.Outcome State Fault Refusal := .next (runZLdPA (cyc .main 0x02 s) .bc s)

/-- `LD B,n` (R273). -/
def execZLd_B_n (n : Byte) (s : State) : Host.Outcome State Fault Refusal := .next (runZLdRN (cyc .main 0x06 s) .b n s)

/-- `LD A,(BC)` (R280). -/
def execZLd_A_atBC (s : State) : Host.Outcome State Fault Refusal := .next (runZLdAP (cyc .main 0x0A s) .bc s)

/-- `LD C,n` (R273). -/
def execZLd_C_n (n : Byte) (s : State) : Host.Outcome State Fault Refusal := .next (runZLdRN (cyc .main 0x0E s) .c n s)

/-- `LD DE,nn` (R288). -/
def execZLd_DE_nn (lo hi : Byte) (s : State) : Host.Outcome State Fault Refusal :=
  .next (runZLdPN (cyc .main 0x11 s) (.rp .de) lo hi s)

/-- `LD (DE),A` (R282). -/
def execZLd_atDE_A (s : State) : Host.Outcome State Fault Refusal := .next (runZLdPA (cyc .main 0x12 s) .de s)

/-- `LD D,n` (R273). -/
def execZLd_D_n (n : Byte) (s : State) : Host.Outcome State Fault Refusal := .next (runZLdRN (cyc .main 0x16 s) .d n s)

/-- `LD A,(DE)` (R280). -/
def execZLd_A_atDE (s : State) : Host.Outcome State Fault Refusal := .next (runZLdAP (cyc .main 0x1A s) .de s)

/-- `LD E,n` (R273). -/
def execZLd_E_n (n : Byte) (s : State) : Host.Outcome State Fault Refusal := .next (runZLdRN (cyc .main 0x1E s) .e n s)

/-- `LD HL,nn` (R288). -/
def execZLd_HL_nn (lo hi : Byte) (s : State) : Host.Outcome State Fault Refusal :=
  .next (runZLdPN (cyc .main 0x21 s) (.rp .hl) lo hi s)

/-- `LD (nn),HL` (R293). -/
def execZLd_atnn_HL (lo hi : Byte) (s : State) : Host.Outcome State Fault Refusal :=
  .next (runZLdNnHL (cyc .main 0x22 s) lo hi s)

/-- `LD H,n` (R273). -/
def execZLd_H_n (n : Byte) (s : State) : Host.Outcome State Fault Refusal := .next (runZLdRN (cyc .main 0x26 s) .h n s)

/-- `LD HL,(nn)` (R290). -/
def execZLd_HL_atnn (lo hi : Byte) (s : State) : Host.Outcome State Fault Refusal :=
  .next (runZLdHLNn (cyc .main 0x2A s) lo hi s)

/-- `LD L,n` (R273). -/
def execZLd_L_n (n : Byte) (s : State) : Host.Outcome State Fault Refusal := .next (runZLdRN (cyc .main 0x2E s) .l n s)

/-- `LD SP,nn` (R288). -/
def execZLd_SP_nn (lo hi : Byte) (s : State) : Host.Outcome State Fault Refusal :=
  .next (runZLdPN (cyc .main 0x31 s) (.rp .sp) lo hi s)

/-- `LD (nn),A` (R283). -/
def execZLd_atnn_A (lo hi : Byte) (s : State) : Host.Outcome State Fault Refusal :=
  .next (runZLdNnA (cyc .main 0x32 s) lo hi s)

/-- `LD (HL),n` (R278). -/
def execZLd_atHL_n (n : Byte) (s : State) : Host.Outcome State Fault Refusal :=
  .next (runZLdMN (cyc .main 0x36 s) .hl n s)

/-- `LD A,(nn)` (R281). -/
def execZLd_A_atnn (lo hi : Byte) (s : State) : Host.Outcome State Fault Refusal :=
  .next (runZLdANn (cyc .main 0x3A s) lo hi s)

/-- `LD A,n` (R273). -/
def execZLd_A_n (n : Byte) (s : State) : Host.Outcome State Fault Refusal := .next (runZLdRN (cyc .main 0x3E s) .a n s)

/-- `LD B,B` (R272). -/
def execZLd_B_B (s : State) : Host.Outcome State Fault Refusal := .next (runZLdRR (cyc .main 0x40 s) .b .b s)

/-- `LD B,C` (R272). -/
def execZLd_B_C (s : State) : Host.Outcome State Fault Refusal := .next (runZLdRR (cyc .main 0x41 s) .b .c s)

/-- `LD B,D` (R272). -/
def execZLd_B_D (s : State) : Host.Outcome State Fault Refusal := .next (runZLdRR (cyc .main 0x42 s) .b .d s)

/-- `LD B,E` (R272). -/
def execZLd_B_E (s : State) : Host.Outcome State Fault Refusal := .next (runZLdRR (cyc .main 0x43 s) .b .e s)

/-- `LD B,H` (R272). -/
def execZLd_B_H (s : State) : Host.Outcome State Fault Refusal := .next (runZLdRR (cyc .main 0x44 s) .b .h s)

/-- `LD B,L` (R272). -/
def execZLd_B_L (s : State) : Host.Outcome State Fault Refusal := .next (runZLdRR (cyc .main 0x45 s) .b .l s)

/-- `LD B,(HL)` (R274). -/
def execZLd_B_atHL (s : State) : Host.Outcome State Fault Refusal := .next (runZLdRM (cyc .main 0x46 s) .b .hl s)

/-- `LD B,A` (R272). -/
def execZLd_B_A (s : State) : Host.Outcome State Fault Refusal := .next (runZLdRR (cyc .main 0x47 s) .b .a s)

/-- `LD C,B` (R272). -/
def execZLd_C_B (s : State) : Host.Outcome State Fault Refusal := .next (runZLdRR (cyc .main 0x48 s) .c .b s)

/-- `LD C,C` (R272). -/
def execZLd_C_C (s : State) : Host.Outcome State Fault Refusal := .next (runZLdRR (cyc .main 0x49 s) .c .c s)

/-- `LD C,D` (R272). -/
def execZLd_C_D (s : State) : Host.Outcome State Fault Refusal := .next (runZLdRR (cyc .main 0x4A s) .c .d s)

/-- `LD C,E` (R272). -/
def execZLd_C_E (s : State) : Host.Outcome State Fault Refusal := .next (runZLdRR (cyc .main 0x4B s) .c .e s)

/-- `LD C,H` (R272). -/
def execZLd_C_H (s : State) : Host.Outcome State Fault Refusal := .next (runZLdRR (cyc .main 0x4C s) .c .h s)

/-- `LD C,L` (R272). -/
def execZLd_C_L (s : State) : Host.Outcome State Fault Refusal := .next (runZLdRR (cyc .main 0x4D s) .c .l s)

/-- `LD C,(HL)` (R274). -/
def execZLd_C_atHL (s : State) : Host.Outcome State Fault Refusal := .next (runZLdRM (cyc .main 0x4E s) .c .hl s)

/-- `LD C,A` (R272). -/
def execZLd_C_A (s : State) : Host.Outcome State Fault Refusal := .next (runZLdRR (cyc .main 0x4F s) .c .a s)

/-- `LD D,B` (R272). -/
def execZLd_D_B (s : State) : Host.Outcome State Fault Refusal := .next (runZLdRR (cyc .main 0x50 s) .d .b s)

/-- `LD D,C` (R272). -/
def execZLd_D_C (s : State) : Host.Outcome State Fault Refusal := .next (runZLdRR (cyc .main 0x51 s) .d .c s)

/-- `LD D,D` (R272). -/
def execZLd_D_D (s : State) : Host.Outcome State Fault Refusal := .next (runZLdRR (cyc .main 0x52 s) .d .d s)

/-- `LD D,E` (R272). -/
def execZLd_D_E (s : State) : Host.Outcome State Fault Refusal := .next (runZLdRR (cyc .main 0x53 s) .d .e s)

/-- `LD D,H` (R272). -/
def execZLd_D_H (s : State) : Host.Outcome State Fault Refusal := .next (runZLdRR (cyc .main 0x54 s) .d .h s)

/-- `LD D,L` (R272). -/
def execZLd_D_L (s : State) : Host.Outcome State Fault Refusal := .next (runZLdRR (cyc .main 0x55 s) .d .l s)

/-- `LD D,(HL)` (R274). -/
def execZLd_D_atHL (s : State) : Host.Outcome State Fault Refusal := .next (runZLdRM (cyc .main 0x56 s) .d .hl s)

/-- `LD D,A` (R272). -/
def execZLd_D_A (s : State) : Host.Outcome State Fault Refusal := .next (runZLdRR (cyc .main 0x57 s) .d .a s)

/-- `LD E,B` (R272). -/
def execZLd_E_B (s : State) : Host.Outcome State Fault Refusal := .next (runZLdRR (cyc .main 0x58 s) .e .b s)

/-- `LD E,C` (R272). -/
def execZLd_E_C (s : State) : Host.Outcome State Fault Refusal := .next (runZLdRR (cyc .main 0x59 s) .e .c s)

/-- `LD E,D` (R272). -/
def execZLd_E_D (s : State) : Host.Outcome State Fault Refusal := .next (runZLdRR (cyc .main 0x5A s) .e .d s)

/-- `LD E,E` (R272). -/
def execZLd_E_E (s : State) : Host.Outcome State Fault Refusal := .next (runZLdRR (cyc .main 0x5B s) .e .e s)

/-- `LD E,H` (R272). -/
def execZLd_E_H (s : State) : Host.Outcome State Fault Refusal := .next (runZLdRR (cyc .main 0x5C s) .e .h s)

/-- `LD E,L` (R272). -/
def execZLd_E_L (s : State) : Host.Outcome State Fault Refusal := .next (runZLdRR (cyc .main 0x5D s) .e .l s)

/-- `LD E,(HL)` (R274). -/
def execZLd_E_atHL (s : State) : Host.Outcome State Fault Refusal := .next (runZLdRM (cyc .main 0x5E s) .e .hl s)

/-- `LD E,A` (R272). -/
def execZLd_E_A (s : State) : Host.Outcome State Fault Refusal := .next (runZLdRR (cyc .main 0x5F s) .e .a s)

/-- `LD H,B` (R272). -/
def execZLd_H_B (s : State) : Host.Outcome State Fault Refusal := .next (runZLdRR (cyc .main 0x60 s) .h .b s)

/-- `LD H,C` (R272). -/
def execZLd_H_C (s : State) : Host.Outcome State Fault Refusal := .next (runZLdRR (cyc .main 0x61 s) .h .c s)

/-- `LD H,D` (R272). -/
def execZLd_H_D (s : State) : Host.Outcome State Fault Refusal := .next (runZLdRR (cyc .main 0x62 s) .h .d s)

/-- `LD H,E` (R272). -/
def execZLd_H_E (s : State) : Host.Outcome State Fault Refusal := .next (runZLdRR (cyc .main 0x63 s) .h .e s)

/-- `LD H,H` (R272). -/
def execZLd_H_H (s : State) : Host.Outcome State Fault Refusal := .next (runZLdRR (cyc .main 0x64 s) .h .h s)

/-- `LD H,L` (R272). -/
def execZLd_H_L (s : State) : Host.Outcome State Fault Refusal := .next (runZLdRR (cyc .main 0x65 s) .h .l s)

/-- `LD H,(HL)` (R274). -/
def execZLd_H_atHL (s : State) : Host.Outcome State Fault Refusal := .next (runZLdRM (cyc .main 0x66 s) .h .hl s)

/-- `LD H,A` (R272). -/
def execZLd_H_A (s : State) : Host.Outcome State Fault Refusal := .next (runZLdRR (cyc .main 0x67 s) .h .a s)

/-- `LD L,B` (R272). -/
def execZLd_L_B (s : State) : Host.Outcome State Fault Refusal := .next (runZLdRR (cyc .main 0x68 s) .l .b s)

/-- `LD L,C` (R272). -/
def execZLd_L_C (s : State) : Host.Outcome State Fault Refusal := .next (runZLdRR (cyc .main 0x69 s) .l .c s)

/-- `LD L,D` (R272). -/
def execZLd_L_D (s : State) : Host.Outcome State Fault Refusal := .next (runZLdRR (cyc .main 0x6A s) .l .d s)

/-- `LD L,E` (R272). -/
def execZLd_L_E (s : State) : Host.Outcome State Fault Refusal := .next (runZLdRR (cyc .main 0x6B s) .l .e s)

/-- `LD L,H` (R272). -/
def execZLd_L_H (s : State) : Host.Outcome State Fault Refusal := .next (runZLdRR (cyc .main 0x6C s) .l .h s)

/-- `LD L,L` (R272). -/
def execZLd_L_L (s : State) : Host.Outcome State Fault Refusal := .next (runZLdRR (cyc .main 0x6D s) .l .l s)

/-- `LD L,(HL)` (R274). -/
def execZLd_L_atHL (s : State) : Host.Outcome State Fault Refusal := .next (runZLdRM (cyc .main 0x6E s) .l .hl s)

/-- `LD L,A` (R272). -/
def execZLd_L_A (s : State) : Host.Outcome State Fault Refusal := .next (runZLdRR (cyc .main 0x6F s) .l .a s)

/-- `LD (HL),B` (R276). -/
def execZLd_atHL_B (s : State) : Host.Outcome State Fault Refusal := .next (runZLdMR (cyc .main 0x70 s) .hl .b s)

/-- `LD (HL),C` (R276). -/
def execZLd_atHL_C (s : State) : Host.Outcome State Fault Refusal := .next (runZLdMR (cyc .main 0x71 s) .hl .c s)

/-- `LD (HL),D` (R276). -/
def execZLd_atHL_D (s : State) : Host.Outcome State Fault Refusal := .next (runZLdMR (cyc .main 0x72 s) .hl .d s)

/-- `LD (HL),E` (R276). -/
def execZLd_atHL_E (s : State) : Host.Outcome State Fault Refusal := .next (runZLdMR (cyc .main 0x73 s) .hl .e s)

/-- `LD (HL),H` (R276). -/
def execZLd_atHL_H (s : State) : Host.Outcome State Fault Refusal := .next (runZLdMR (cyc .main 0x74 s) .hl .h s)

/-- `LD (HL),L` (R276). -/
def execZLd_atHL_L (s : State) : Host.Outcome State Fault Refusal := .next (runZLdMR (cyc .main 0x75 s) .hl .l s)

/-- `LD (HL),A` (R276). -/
def execZLd_atHL_A (s : State) : Host.Outcome State Fault Refusal := .next (runZLdMR (cyc .main 0x77 s) .hl .a s)

/-- `LD A,B` (R272). -/
def execZLd_A_B (s : State) : Host.Outcome State Fault Refusal := .next (runZLdRR (cyc .main 0x78 s) .a .b s)

/-- `LD A,C` (R272). -/
def execZLd_A_C (s : State) : Host.Outcome State Fault Refusal := .next (runZLdRR (cyc .main 0x79 s) .a .c s)

/-- `LD A,D` (R272). -/
def execZLd_A_D (s : State) : Host.Outcome State Fault Refusal := .next (runZLdRR (cyc .main 0x7A s) .a .d s)

/-- `LD A,E` (R272). -/
def execZLd_A_E (s : State) : Host.Outcome State Fault Refusal := .next (runZLdRR (cyc .main 0x7B s) .a .e s)

/-- `LD A,H` (R272). -/
def execZLd_A_H (s : State) : Host.Outcome State Fault Refusal := .next (runZLdRR (cyc .main 0x7C s) .a .h s)

/-- `LD A,L` (R272). -/
def execZLd_A_L (s : State) : Host.Outcome State Fault Refusal := .next (runZLdRR (cyc .main 0x7D s) .a .l s)

/-- `LD A,(HL)` (R274). -/
def execZLd_A_atHL (s : State) : Host.Outcome State Fault Refusal := .next (runZLdRM (cyc .main 0x7E s) .a .hl s)

/-- `LD A,A` (R272). -/
def execZLd_A_A (s : State) : Host.Outcome State Fault Refusal := .next (runZLdRR (cyc .main 0x7F s) .a .a s)

/-- `POP BC` (R300). -/
def execZPop_BC (s : State) : Host.Outcome State Fault Refusal := .next (runZPop (cyc .main 0xC1 s) (.qq .bc) s)

/-- `PUSH BC` (R298). -/
def execZPush_BC (s : State) : Host.Outcome State Fault Refusal := .next (runZPush (cyc .main 0xC5 s) (.qq .bc) s)

/-- `POP DE` (R300). -/
def execZPop_DE (s : State) : Host.Outcome State Fault Refusal := .next (runZPop (cyc .main 0xD1 s) (.qq .de) s)

/-- `PUSH DE` (R298). -/
def execZPush_DE (s : State) : Host.Outcome State Fault Refusal := .next (runZPush (cyc .main 0xD5 s) (.qq .de) s)

/-- `POP HL` (R300). -/
def execZPop_HL (s : State) : Host.Outcome State Fault Refusal := .next (runZPop (cyc .main 0xE1 s) (.qq .hl) s)

/-- `PUSH HL` (R298). -/
def execZPush_HL (s : State) : Host.Outcome State Fault Refusal := .next (runZPush (cyc .main 0xE5 s) (.qq .hl) s)

/-- `POP AF` (R300). -/
def execZPop_AF (s : State) : Host.Outcome State Fault Refusal := .next (runZPop (cyc .main 0xF1 s) (.qq .af) s)

/-- `PUSH AF` (R298). -/
def execZPush_AF (s : State) : Host.Outcome State Fault Refusal := .next (runZPush (cyc .main 0xF5 s) (.qq .af) s)

/-- `LD SP,HL` (R296). -/
def execZLd_SP_HL (s : State) : Host.Outcome State Fault Refusal := .next (runZLdSP (cyc .main 0xF9 s) .hl s)

/-- `LD (nn),BC` (R294). -/
def execZLd_atnn_BC (lo hi : Byte) (s : State) : Host.Outcome State Fault Refusal :=
  .next (runZLdNnP (cyc .ed 0x43 s) (.rp .bc) lo hi s)

/-- `LD BC,(nn)` (R291). -/
def execZLd_BC_atnn (lo hi : Byte) (s : State) : Host.Outcome State Fault Refusal :=
  .next (runZLdPNn (cyc .ed 0x4B s) (.rp .bc) lo hi s)

/-- `LD (nn),DE` (R294). -/
def execZLd_atnn_DE (lo hi : Byte) (s : State) : Host.Outcome State Fault Refusal :=
  .next (runZLdNnP (cyc .ed 0x53 s) (.rp .de) lo hi s)

/-- `LD DE,(nn)` (R291). -/
def execZLd_DE_atnn (lo hi : Byte) (s : State) : Host.Outcome State Fault Refusal :=
  .next (runZLdPNn (cyc .ed 0x5B s) (.rp .de) lo hi s)

/-- `LD (nn),HL` (R294). -/
def execZLdEd_atnn_HL (lo hi : Byte) (s : State) : Host.Outcome State Fault Refusal :=
  .next (runZLdNnP (cyc .ed 0x63 s) (.rp .hl) lo hi s)

/-- `LD HL,(nn)` (R291). -/
def execZLdEd_HL_atnn (lo hi : Byte) (s : State) : Host.Outcome State Fault Refusal :=
  .next (runZLdPNn (cyc .ed 0x6B s) (.rp .hl) lo hi s)

/-- `LD (nn),SP` (R294). -/
def execZLd_atnn_SP (lo hi : Byte) (s : State) : Host.Outcome State Fault Refusal :=
  .next (runZLdNnP (cyc .ed 0x73 s) (.rp .sp) lo hi s)

/-- `LD SP,(nn)` (R291). -/
def execZLd_SP_atnn (lo hi : Byte) (s : State) : Host.Outcome State Fault Refusal :=
  .next (runZLdPNn (cyc .ed 0x7B s) (.rp .sp) lo hi s)

/-- `LD I,A` (R286). -/
def execZLd_I_A (s : State) : Host.Outcome State Fault Refusal := .next (runZLdIRA (cyc .ed 0x47 s) .i s)

/-- `LD R,A` (R287). -/
def execZLd_R_A (s : State) : Host.Outcome State Fault Refusal := .next (runZLdIRA (cyc .ed 0x4F s) .r s)

/-- `LD A,I` (R284). -/
def execZLd_A_I (s : State) : Host.Outcome State Fault Refusal := .next (runZLdAIR (cyc .ed 0x57 s) .i s)

/-- `LD A,R` (R285). -/
def execZLd_A_R (s : State) : Host.Outcome State Fault Refusal := .next (runZLdAIR (cyc .ed 0x5F s) .r s)

/-- `LD IX,nn` (R289). -/
def execZLd_IX_nn (lo hi : Byte) (s : State) : Host.Outcome State Fault Refusal :=
  .next (runZLdPN (cyc .dd 0x21 s) (.xy .ix) lo hi s)

/-- `LD (nn),IX` (R295). -/
def execZLd_atnn_IX (lo hi : Byte) (s : State) : Host.Outcome State Fault Refusal :=
  .next (runZLdNnP (cyc .dd 0x22 s) (.xy .ix) lo hi s)

/-- `LD IX,(nn)` (R292). -/
def execZLd_IX_atnn (lo hi : Byte) (s : State) : Host.Outcome State Fault Refusal :=
  .next (runZLdPNn (cyc .dd 0x2A s) (.xy .ix) lo hi s)

/-- `LD (IX+d),n` (R279). -/
def execZLd_atIXd_n (d n : Byte) (s : State) : Host.Outcome State Fault Refusal :=
  .next (runZLdMN (cyc .dd 0x36 s) (.idx .ix d) n s)

/-- `LD B,(IX+d)` (R275). -/
def execZLd_B_atIXd (d : Byte) (s : State) : Host.Outcome State Fault Refusal :=
  .next (runZLdRM (cyc .dd 0x46 s) .b (.idx .ix d) s)

/-- `LD C,(IX+d)` (R275). -/
def execZLd_C_atIXd (d : Byte) (s : State) : Host.Outcome State Fault Refusal :=
  .next (runZLdRM (cyc .dd 0x4E s) .c (.idx .ix d) s)

/-- `LD D,(IX+d)` (R275). -/
def execZLd_D_atIXd (d : Byte) (s : State) : Host.Outcome State Fault Refusal :=
  .next (runZLdRM (cyc .dd 0x56 s) .d (.idx .ix d) s)

/-- `LD E,(IX+d)` (R275). -/
def execZLd_E_atIXd (d : Byte) (s : State) : Host.Outcome State Fault Refusal :=
  .next (runZLdRM (cyc .dd 0x5E s) .e (.idx .ix d) s)

/-- `LD H,(IX+d)` (R275). -/
def execZLd_H_atIXd (d : Byte) (s : State) : Host.Outcome State Fault Refusal :=
  .next (runZLdRM (cyc .dd 0x66 s) .h (.idx .ix d) s)

/-- `LD L,(IX+d)` (R275). -/
def execZLd_L_atIXd (d : Byte) (s : State) : Host.Outcome State Fault Refusal :=
  .next (runZLdRM (cyc .dd 0x6E s) .l (.idx .ix d) s)

/-- `LD A,(IX+d)` (R275). -/
def execZLd_A_atIXd (d : Byte) (s : State) : Host.Outcome State Fault Refusal :=
  .next (runZLdRM (cyc .dd 0x7E s) .a (.idx .ix d) s)

/-- `LD (IX+d),B` (R277). -/
def execZLd_atIXd_B (d : Byte) (s : State) : Host.Outcome State Fault Refusal :=
  .next (runZLdMR (cyc .dd 0x70 s) (.idx .ix d) .b s)

/-- `LD (IX+d),C` (R277). -/
def execZLd_atIXd_C (d : Byte) (s : State) : Host.Outcome State Fault Refusal :=
  .next (runZLdMR (cyc .dd 0x71 s) (.idx .ix d) .c s)

/-- `LD (IX+d),D` (R277). -/
def execZLd_atIXd_D (d : Byte) (s : State) : Host.Outcome State Fault Refusal :=
  .next (runZLdMR (cyc .dd 0x72 s) (.idx .ix d) .d s)

/-- `LD (IX+d),E` (R277). -/
def execZLd_atIXd_E (d : Byte) (s : State) : Host.Outcome State Fault Refusal :=
  .next (runZLdMR (cyc .dd 0x73 s) (.idx .ix d) .e s)

/-- `LD (IX+d),H` (R277). -/
def execZLd_atIXd_H (d : Byte) (s : State) : Host.Outcome State Fault Refusal :=
  .next (runZLdMR (cyc .dd 0x74 s) (.idx .ix d) .h s)

/-- `LD (IX+d),L` (R277). -/
def execZLd_atIXd_L (d : Byte) (s : State) : Host.Outcome State Fault Refusal :=
  .next (runZLdMR (cyc .dd 0x75 s) (.idx .ix d) .l s)

/-- `LD (IX+d),A` (R277). -/
def execZLd_atIXd_A (d : Byte) (s : State) : Host.Outcome State Fault Refusal :=
  .next (runZLdMR (cyc .dd 0x77 s) (.idx .ix d) .a s)

/-- `POP IX` (R301). -/
def execZPop_IX (s : State) : Host.Outcome State Fault Refusal := .next (runZPop (cyc .dd 0xE1 s) (.xy .ix) s)

/-- `PUSH IX` (R299). -/
def execZPush_IX (s : State) : Host.Outcome State Fault Refusal := .next (runZPush (cyc .dd 0xE5 s) (.xy .ix) s)

/-- `LD SP,IX` (R297). -/
def execZLd_SP_IX (s : State) : Host.Outcome State Fault Refusal := .next (runZLdSP (cyc .dd 0xF9 s) (.xy .ix) s)

/-- `LD IY,nn` (R289). -/
def execZLd_IY_nn (lo hi : Byte) (s : State) : Host.Outcome State Fault Refusal :=
  .next (runZLdPN (cyc .fd 0x21 s) (.xy .iy) lo hi s)

/-- `LD (nn),IY` (R295). -/
def execZLd_atnn_IY (lo hi : Byte) (s : State) : Host.Outcome State Fault Refusal :=
  .next (runZLdNnP (cyc .fd 0x22 s) (.xy .iy) lo hi s)

/-- `LD IY,(nn)` (R292). -/
def execZLd_IY_atnn (lo hi : Byte) (s : State) : Host.Outcome State Fault Refusal :=
  .next (runZLdPNn (cyc .fd 0x2A s) (.xy .iy) lo hi s)

/-- `LD (IY+d),n` (R279). -/
def execZLd_atIYd_n (d n : Byte) (s : State) : Host.Outcome State Fault Refusal :=
  .next (runZLdMN (cyc .fd 0x36 s) (.idx .iy d) n s)

/-- `LD B,(IY+d)` (R275). -/
def execZLd_B_atIYd (d : Byte) (s : State) : Host.Outcome State Fault Refusal :=
  .next (runZLdRM (cyc .fd 0x46 s) .b (.idx .iy d) s)

/-- `LD C,(IY+d)` (R275). -/
def execZLd_C_atIYd (d : Byte) (s : State) : Host.Outcome State Fault Refusal :=
  .next (runZLdRM (cyc .fd 0x4E s) .c (.idx .iy d) s)

/-- `LD D,(IY+d)` (R275). -/
def execZLd_D_atIYd (d : Byte) (s : State) : Host.Outcome State Fault Refusal :=
  .next (runZLdRM (cyc .fd 0x56 s) .d (.idx .iy d) s)

/-- `LD E,(IY+d)` (R275). -/
def execZLd_E_atIYd (d : Byte) (s : State) : Host.Outcome State Fault Refusal :=
  .next (runZLdRM (cyc .fd 0x5E s) .e (.idx .iy d) s)

/-- `LD H,(IY+d)` (R275). -/
def execZLd_H_atIYd (d : Byte) (s : State) : Host.Outcome State Fault Refusal :=
  .next (runZLdRM (cyc .fd 0x66 s) .h (.idx .iy d) s)

/-- `LD L,(IY+d)` (R275). -/
def execZLd_L_atIYd (d : Byte) (s : State) : Host.Outcome State Fault Refusal :=
  .next (runZLdRM (cyc .fd 0x6E s) .l (.idx .iy d) s)

/-- `LD A,(IY+d)` (R275). -/
def execZLd_A_atIYd (d : Byte) (s : State) : Host.Outcome State Fault Refusal :=
  .next (runZLdRM (cyc .fd 0x7E s) .a (.idx .iy d) s)

/-- `LD (IY+d),B` (R277). -/
def execZLd_atIYd_B (d : Byte) (s : State) : Host.Outcome State Fault Refusal :=
  .next (runZLdMR (cyc .fd 0x70 s) (.idx .iy d) .b s)

/-- `LD (IY+d),C` (R277). -/
def execZLd_atIYd_C (d : Byte) (s : State) : Host.Outcome State Fault Refusal :=
  .next (runZLdMR (cyc .fd 0x71 s) (.idx .iy d) .c s)

/-- `LD (IY+d),D` (R277). -/
def execZLd_atIYd_D (d : Byte) (s : State) : Host.Outcome State Fault Refusal :=
  .next (runZLdMR (cyc .fd 0x72 s) (.idx .iy d) .d s)

/-- `LD (IY+d),E` (R277). -/
def execZLd_atIYd_E (d : Byte) (s : State) : Host.Outcome State Fault Refusal :=
  .next (runZLdMR (cyc .fd 0x73 s) (.idx .iy d) .e s)

/-- `LD (IY+d),H` (R277). -/
def execZLd_atIYd_H (d : Byte) (s : State) : Host.Outcome State Fault Refusal :=
  .next (runZLdMR (cyc .fd 0x74 s) (.idx .iy d) .h s)

/-- `LD (IY+d),L` (R277). -/
def execZLd_atIYd_L (d : Byte) (s : State) : Host.Outcome State Fault Refusal :=
  .next (runZLdMR (cyc .fd 0x75 s) (.idx .iy d) .l s)

/-- `LD (IY+d),A` (R277). -/
def execZLd_atIYd_A (d : Byte) (s : State) : Host.Outcome State Fault Refusal :=
  .next (runZLdMR (cyc .fd 0x77 s) (.idx .iy d) .a s)

/-- `POP IY` (R301). -/
def execZPop_IY (s : State) : Host.Outcome State Fault Refusal := .next (runZPop (cyc .fd 0xE1 s) (.xy .iy) s)

/-- `PUSH IY` (R299). -/
def execZPush_IY (s : State) : Host.Outcome State Fault Refusal := .next (runZPush (cyc .fd 0xE5 s) (.xy .iy) s)

/-- `LD SP,IY` (R297). -/
def execZLd_SP_IY (s : State) : Host.Outcome State Fault Refusal := .next (runZLdSP (cyc .fd 0xF9 s) (.xy .iy) s)

end Sys2Proof.Machine
end

