-- ==== Sys2Proof/Machine/Z80Rotate.lean ====
section
/-! DEFINITION. The meanings of the Z80 rotates and shifts (R348 to R360), one definition per instruction over the shapes of
Sys2Proof.Machine.Z80. -/

namespace Sys2Proof.Machine

/-- `RLCA` (R348). -/
def execZRlca (s : State) : Host.Outcome State Fault Refusal := .next (runZAccRot (cyc .main 0x07 s) .rlca s)

/-- `RRCA` (R350). -/
def execZRrca (s : State) : Host.Outcome State Fault Refusal := .next (runZAccRot (cyc .main 0x0F s) .rrca s)

/-- `RLA` (R349). -/
def execZRla (s : State) : Host.Outcome State Fault Refusal := .next (runZAccRot (cyc .main 0x17 s) .rla s)

/-- `RRA` (R351). -/
def execZRra (s : State) : Host.Outcome State Fault Refusal := .next (runZAccRot (cyc .main 0x1F s) .rra s)

/-- `RLC B` (R352). -/
def execZRlc_B (s : State) : Host.Outcome State Fault Refusal := .next (runZRot (cyc .cb 0x00 s) .rlc (.reg .b) s)

/-- `RLC C` (R352). -/
def execZRlc_C (s : State) : Host.Outcome State Fault Refusal := .next (runZRot (cyc .cb 0x01 s) .rlc (.reg .c) s)

/-- `RLC D` (R352). -/
def execZRlc_D (s : State) : Host.Outcome State Fault Refusal := .next (runZRot (cyc .cb 0x02 s) .rlc (.reg .d) s)

/-- `RLC E` (R352). -/
def execZRlc_E (s : State) : Host.Outcome State Fault Refusal := .next (runZRot (cyc .cb 0x03 s) .rlc (.reg .e) s)

/-- `RLC H` (R352). -/
def execZRlc_H (s : State) : Host.Outcome State Fault Refusal := .next (runZRot (cyc .cb 0x04 s) .rlc (.reg .h) s)

/-- `RLC L` (R352). -/
def execZRlc_L (s : State) : Host.Outcome State Fault Refusal := .next (runZRot (cyc .cb 0x05 s) .rlc (.reg .l) s)

/-- `RLC (HL)` (R352). -/
def execZRlc_atHL (s : State) : Host.Outcome State Fault Refusal := .next (runZRot (cyc .cb 0x06 s) .rlc (.mem .hl) s)

/-- `RLC A` (R352). -/
def execZRlc_A (s : State) : Host.Outcome State Fault Refusal := .next (runZRot (cyc .cb 0x07 s) .rlc (.reg .a) s)

/-- `RRC B` (R354). -/
def execZRrc_B (s : State) : Host.Outcome State Fault Refusal := .next (runZRot (cyc .cb 0x08 s) .rrc (.reg .b) s)

/-- `RRC C` (R354). -/
def execZRrc_C (s : State) : Host.Outcome State Fault Refusal := .next (runZRot (cyc .cb 0x09 s) .rrc (.reg .c) s)

/-- `RRC D` (R354). -/
def execZRrc_D (s : State) : Host.Outcome State Fault Refusal := .next (runZRot (cyc .cb 0x0A s) .rrc (.reg .d) s)

/-- `RRC E` (R354). -/
def execZRrc_E (s : State) : Host.Outcome State Fault Refusal := .next (runZRot (cyc .cb 0x0B s) .rrc (.reg .e) s)

/-- `RRC H` (R354). -/
def execZRrc_H (s : State) : Host.Outcome State Fault Refusal := .next (runZRot (cyc .cb 0x0C s) .rrc (.reg .h) s)

/-- `RRC L` (R354). -/
def execZRrc_L (s : State) : Host.Outcome State Fault Refusal := .next (runZRot (cyc .cb 0x0D s) .rrc (.reg .l) s)

/-- `RRC (HL)` (R354). -/
def execZRrc_atHL (s : State) : Host.Outcome State Fault Refusal := .next (runZRot (cyc .cb 0x0E s) .rrc (.mem .hl) s)

/-- `RRC A` (R354). -/
def execZRrc_A (s : State) : Host.Outcome State Fault Refusal := .next (runZRot (cyc .cb 0x0F s) .rrc (.reg .a) s)

/-- `RL B` (R353). -/
def execZRl_B (s : State) : Host.Outcome State Fault Refusal := .next (runZRot (cyc .cb 0x10 s) .rl (.reg .b) s)

/-- `RL C` (R353). -/
def execZRl_C (s : State) : Host.Outcome State Fault Refusal := .next (runZRot (cyc .cb 0x11 s) .rl (.reg .c) s)

/-- `RL D` (R353). -/
def execZRl_D (s : State) : Host.Outcome State Fault Refusal := .next (runZRot (cyc .cb 0x12 s) .rl (.reg .d) s)

/-- `RL E` (R353). -/
def execZRl_E (s : State) : Host.Outcome State Fault Refusal := .next (runZRot (cyc .cb 0x13 s) .rl (.reg .e) s)

/-- `RL H` (R353). -/
def execZRl_H (s : State) : Host.Outcome State Fault Refusal := .next (runZRot (cyc .cb 0x14 s) .rl (.reg .h) s)

/-- `RL L` (R353). -/
def execZRl_L (s : State) : Host.Outcome State Fault Refusal := .next (runZRot (cyc .cb 0x15 s) .rl (.reg .l) s)

/-- `RL (HL)` (R353). -/
def execZRl_atHL (s : State) : Host.Outcome State Fault Refusal := .next (runZRot (cyc .cb 0x16 s) .rl (.mem .hl) s)

/-- `RL A` (R353). -/
def execZRl_A (s : State) : Host.Outcome State Fault Refusal := .next (runZRot (cyc .cb 0x17 s) .rl (.reg .a) s)

/-- `RR B` (R355). -/
def execZRr_B (s : State) : Host.Outcome State Fault Refusal := .next (runZRot (cyc .cb 0x18 s) .rr (.reg .b) s)

/-- `RR C` (R355). -/
def execZRr_C (s : State) : Host.Outcome State Fault Refusal := .next (runZRot (cyc .cb 0x19 s) .rr (.reg .c) s)

/-- `RR D` (R355). -/
def execZRr_D (s : State) : Host.Outcome State Fault Refusal := .next (runZRot (cyc .cb 0x1A s) .rr (.reg .d) s)

/-- `RR E` (R355). -/
def execZRr_E (s : State) : Host.Outcome State Fault Refusal := .next (runZRot (cyc .cb 0x1B s) .rr (.reg .e) s)

/-- `RR H` (R355). -/
def execZRr_H (s : State) : Host.Outcome State Fault Refusal := .next (runZRot (cyc .cb 0x1C s) .rr (.reg .h) s)

/-- `RR L` (R355). -/
def execZRr_L (s : State) : Host.Outcome State Fault Refusal := .next (runZRot (cyc .cb 0x1D s) .rr (.reg .l) s)

/-- `RR (HL)` (R355). -/
def execZRr_atHL (s : State) : Host.Outcome State Fault Refusal := .next (runZRot (cyc .cb 0x1E s) .rr (.mem .hl) s)

/-- `RR A` (R355). -/
def execZRr_A (s : State) : Host.Outcome State Fault Refusal := .next (runZRot (cyc .cb 0x1F s) .rr (.reg .a) s)

/-- `SLA B` (R356). -/
def execZSla_B (s : State) : Host.Outcome State Fault Refusal := .next (runZRot (cyc .cb 0x20 s) .sla (.reg .b) s)

/-- `SLA C` (R356). -/
def execZSla_C (s : State) : Host.Outcome State Fault Refusal := .next (runZRot (cyc .cb 0x21 s) .sla (.reg .c) s)

/-- `SLA D` (R356). -/
def execZSla_D (s : State) : Host.Outcome State Fault Refusal := .next (runZRot (cyc .cb 0x22 s) .sla (.reg .d) s)

/-- `SLA E` (R356). -/
def execZSla_E (s : State) : Host.Outcome State Fault Refusal := .next (runZRot (cyc .cb 0x23 s) .sla (.reg .e) s)

/-- `SLA H` (R356). -/
def execZSla_H (s : State) : Host.Outcome State Fault Refusal := .next (runZRot (cyc .cb 0x24 s) .sla (.reg .h) s)

/-- `SLA L` (R356). -/
def execZSla_L (s : State) : Host.Outcome State Fault Refusal := .next (runZRot (cyc .cb 0x25 s) .sla (.reg .l) s)

/-- `SLA (HL)` (R356). -/
def execZSla_atHL (s : State) : Host.Outcome State Fault Refusal := .next (runZRot (cyc .cb 0x26 s) .sla (.mem .hl) s)

/-- `SLA A` (R356). -/
def execZSla_A (s : State) : Host.Outcome State Fault Refusal := .next (runZRot (cyc .cb 0x27 s) .sla (.reg .a) s)

/-- `SRA B` (R357). -/
def execZSra_B (s : State) : Host.Outcome State Fault Refusal := .next (runZRot (cyc .cb 0x28 s) .sra (.reg .b) s)

/-- `SRA C` (R357). -/
def execZSra_C (s : State) : Host.Outcome State Fault Refusal := .next (runZRot (cyc .cb 0x29 s) .sra (.reg .c) s)

/-- `SRA D` (R357). -/
def execZSra_D (s : State) : Host.Outcome State Fault Refusal := .next (runZRot (cyc .cb 0x2A s) .sra (.reg .d) s)

/-- `SRA E` (R357). -/
def execZSra_E (s : State) : Host.Outcome State Fault Refusal := .next (runZRot (cyc .cb 0x2B s) .sra (.reg .e) s)

/-- `SRA H` (R357). -/
def execZSra_H (s : State) : Host.Outcome State Fault Refusal := .next (runZRot (cyc .cb 0x2C s) .sra (.reg .h) s)

/-- `SRA L` (R357). -/
def execZSra_L (s : State) : Host.Outcome State Fault Refusal := .next (runZRot (cyc .cb 0x2D s) .sra (.reg .l) s)

/-- `SRA (HL)` (R357). -/
def execZSra_atHL (s : State) : Host.Outcome State Fault Refusal := .next (runZRot (cyc .cb 0x2E s) .sra (.mem .hl) s)

/-- `SRA A` (R357). -/
def execZSra_A (s : State) : Host.Outcome State Fault Refusal := .next (runZRot (cyc .cb 0x2F s) .sra (.reg .a) s)

/-- `SRL B` (R358). -/
def execZSrl_B (s : State) : Host.Outcome State Fault Refusal := .next (runZRot (cyc .cb 0x38 s) .srl (.reg .b) s)

/-- `SRL C` (R358). -/
def execZSrl_C (s : State) : Host.Outcome State Fault Refusal := .next (runZRot (cyc .cb 0x39 s) .srl (.reg .c) s)

/-- `SRL D` (R358). -/
def execZSrl_D (s : State) : Host.Outcome State Fault Refusal := .next (runZRot (cyc .cb 0x3A s) .srl (.reg .d) s)

/-- `SRL E` (R358). -/
def execZSrl_E (s : State) : Host.Outcome State Fault Refusal := .next (runZRot (cyc .cb 0x3B s) .srl (.reg .e) s)

/-- `SRL H` (R358). -/
def execZSrl_H (s : State) : Host.Outcome State Fault Refusal := .next (runZRot (cyc .cb 0x3C s) .srl (.reg .h) s)

/-- `SRL L` (R358). -/
def execZSrl_L (s : State) : Host.Outcome State Fault Refusal := .next (runZRot (cyc .cb 0x3D s) .srl (.reg .l) s)

/-- `SRL (HL)` (R358). -/
def execZSrl_atHL (s : State) : Host.Outcome State Fault Refusal := .next (runZRot (cyc .cb 0x3E s) .srl (.mem .hl) s)

/-- `SRL A` (R358). -/
def execZSrl_A (s : State) : Host.Outcome State Fault Refusal := .next (runZRot (cyc .cb 0x3F s) .srl (.reg .a) s)

/-- `RRD` (R360). -/
def execZRrd (s : State) : Host.Outcome State Fault Refusal := .next (runZRrd (cyc .ed 0x67 s) s)

/-- `RLD` (R359). -/
def execZRld (s : State) : Host.Outcome State Fault Refusal := .next (runZRld (cyc .ed 0x6F s) s)

/-- `RLC (IX+d)` (R352). -/
def execZRlc_atIXd (d : Byte) (s : State) : Host.Outcome State Fault Refusal :=
  .next (runZRot (cyc .ddcb 0x06 s) .rlc (.mem (.idx .ix d)) s)

/-- `RRC (IX+d)` (R354). -/
def execZRrc_atIXd (d : Byte) (s : State) : Host.Outcome State Fault Refusal :=
  .next (runZRot (cyc .ddcb 0x0E s) .rrc (.mem (.idx .ix d)) s)

/-- `RL (IX+d)` (R353). -/
def execZRl_atIXd (d : Byte) (s : State) : Host.Outcome State Fault Refusal :=
  .next (runZRot (cyc .ddcb 0x16 s) .rl (.mem (.idx .ix d)) s)

/-- `RR (IX+d)` (R355). -/
def execZRr_atIXd (d : Byte) (s : State) : Host.Outcome State Fault Refusal :=
  .next (runZRot (cyc .ddcb 0x1E s) .rr (.mem (.idx .ix d)) s)

/-- `SLA (IX+d)` (R356). -/
def execZSla_atIXd (d : Byte) (s : State) : Host.Outcome State Fault Refusal :=
  .next (runZRot (cyc .ddcb 0x26 s) .sla (.mem (.idx .ix d)) s)

/-- `SRA (IX+d)` (R357). -/
def execZSra_atIXd (d : Byte) (s : State) : Host.Outcome State Fault Refusal :=
  .next (runZRot (cyc .ddcb 0x2E s) .sra (.mem (.idx .ix d)) s)

/-- `SRL (IX+d)` (R358). -/
def execZSrl_atIXd (d : Byte) (s : State) : Host.Outcome State Fault Refusal :=
  .next (runZRot (cyc .ddcb 0x3E s) .srl (.mem (.idx .ix d)) s)

/-- `RLC (IY+d)` (R352). -/
def execZRlc_atIYd (d : Byte) (s : State) : Host.Outcome State Fault Refusal :=
  .next (runZRot (cyc .fdcb 0x06 s) .rlc (.mem (.idx .iy d)) s)

/-- `RRC (IY+d)` (R354). -/
def execZRrc_atIYd (d : Byte) (s : State) : Host.Outcome State Fault Refusal :=
  .next (runZRot (cyc .fdcb 0x0E s) .rrc (.mem (.idx .iy d)) s)

/-- `RL (IY+d)` (R353). -/
def execZRl_atIYd (d : Byte) (s : State) : Host.Outcome State Fault Refusal :=
  .next (runZRot (cyc .fdcb 0x16 s) .rl (.mem (.idx .iy d)) s)

/-- `RR (IY+d)` (R355). -/
def execZRr_atIYd (d : Byte) (s : State) : Host.Outcome State Fault Refusal :=
  .next (runZRot (cyc .fdcb 0x1E s) .rr (.mem (.idx .iy d)) s)

/-- `SLA (IY+d)` (R356). -/
def execZSla_atIYd (d : Byte) (s : State) : Host.Outcome State Fault Refusal :=
  .next (runZRot (cyc .fdcb 0x26 s) .sla (.mem (.idx .iy d)) s)

/-- `SRA (IY+d)` (R357). -/
def execZSra_atIYd (d : Byte) (s : State) : Host.Outcome State Fault Refusal :=
  .next (runZRot (cyc .fdcb 0x2E s) .sra (.mem (.idx .iy d)) s)

/-- `SRL (IY+d)` (R358). -/
def execZSrl_atIYd (d : Byte) (s : State) : Host.Outcome State Fault Refusal :=
  .next (runZRot (cyc .fdcb 0x3E s) .srl (.mem (.idx .iy d)) s)

end Sys2Proof.Machine
end

