-- ==== Sys2Proof/Machine/Dispatch.lean ====
section
/-! DEFINITION. The dispatch of every instruction to its meaning, one arm per constructor. -/

namespace Sys2Proof.Machine

def exec (i : Instr) (s : State) : Host.Outcome State Fault Refusal :=
  match i with
  | .mBrk => Sys2Proof.Machine.execMBrk s
  | .mOraIzx b1 => Sys2Proof.Machine.execMOraIzx b1 s
  | .mOraZp b1 => Sys2Proof.Machine.execMOraZp b1 s
  | .mAslZp b1 => Sys2Proof.Machine.execMAslZp b1 s
  | .mPhp => Sys2Proof.Machine.execMPhp s
  | .mOraImm b1 => Sys2Proof.Machine.execMOraImm b1 s
  | .mAslAcc => Sys2Proof.Machine.execMAslAcc s
  | .mOraAbs b1 b2 => Sys2Proof.Machine.execMOraAbs b1 b2 s
  | .mAslAbs b1 b2 => Sys2Proof.Machine.execMAslAbs b1 b2 s
  | .mBpl b1 => Sys2Proof.Machine.execMBpl b1 s
  | .mOraIzy b1 => Sys2Proof.Machine.execMOraIzy b1 s
  | .mOraZpx b1 => Sys2Proof.Machine.execMOraZpx b1 s
  | .mAslZpx b1 => Sys2Proof.Machine.execMAslZpx b1 s
  | .mClc => Sys2Proof.Machine.execMClc s
  | .mOraAby b1 b2 => Sys2Proof.Machine.execMOraAby b1 b2 s
  | .mOraAbx b1 b2 => Sys2Proof.Machine.execMOraAbx b1 b2 s
  | .mAslAbx b1 b2 => Sys2Proof.Machine.execMAslAbx b1 b2 s
  | .mJsr b1 b2 => Sys2Proof.Machine.execMJsr b1 b2 s
  | .mAndIzx b1 => Sys2Proof.Machine.execMAndIzx b1 s
  | .mHaltSentinel => Sys2Proof.Machine.execMHaltSentinel s
  | .mBitZp b1 => Sys2Proof.Machine.execMBitZp b1 s
  | .mAndZp b1 => Sys2Proof.Machine.execMAndZp b1 s
  | .mRolZp b1 => Sys2Proof.Machine.execMRolZp b1 s
  | .mPlp => Sys2Proof.Machine.execMPlp s
  | .mAndImm b1 => Sys2Proof.Machine.execMAndImm b1 s
  | .mRolAcc => Sys2Proof.Machine.execMRolAcc s
  | .mBitAbs b1 b2 => Sys2Proof.Machine.execMBitAbs b1 b2 s
  | .mAndAbs b1 b2 => Sys2Proof.Machine.execMAndAbs b1 b2 s
  | .mRolAbs b1 b2 => Sys2Proof.Machine.execMRolAbs b1 b2 s
  | .mBmi b1 => Sys2Proof.Machine.execMBmi b1 s
  | .mAndIzy b1 => Sys2Proof.Machine.execMAndIzy b1 s
  | .mAndZpx b1 => Sys2Proof.Machine.execMAndZpx b1 s
  | .mRolZpx b1 => Sys2Proof.Machine.execMRolZpx b1 s
  | .mSec => Sys2Proof.Machine.execMSec s
  | .mAndAby b1 b2 => Sys2Proof.Machine.execMAndAby b1 b2 s
  | .mAndAbx b1 b2 => Sys2Proof.Machine.execMAndAbx b1 b2 s
  | .mRolAbx b1 b2 => Sys2Proof.Machine.execMRolAbx b1 b2 s
  | .mRti => Sys2Proof.Machine.execMRti s
  | .mEorIzx b1 => Sys2Proof.Machine.execMEorIzx b1 s
  | .mEorZp b1 => Sys2Proof.Machine.execMEorZp b1 s
  | .mLsrZp b1 => Sys2Proof.Machine.execMLsrZp b1 s
  | .mPha => Sys2Proof.Machine.execMPha s
  | .mEorImm b1 => Sys2Proof.Machine.execMEorImm b1 s
  | .mLsrAcc => Sys2Proof.Machine.execMLsrAcc s
  | .mJmpAbs b1 b2 => Sys2Proof.Machine.execMJmpAbs b1 b2 s
  | .mEorAbs b1 b2 => Sys2Proof.Machine.execMEorAbs b1 b2 s
  | .mLsrAbs b1 b2 => Sys2Proof.Machine.execMLsrAbs b1 b2 s
  | .mBvc b1 => Sys2Proof.Machine.execMBvc b1 s
  | .mEorIzy b1 => Sys2Proof.Machine.execMEorIzy b1 s
  | .mEorZpx b1 => Sys2Proof.Machine.execMEorZpx b1 s
  | .mLsrZpx b1 => Sys2Proof.Machine.execMLsrZpx b1 s
  | .mCli => Sys2Proof.Machine.execMCli s
  | .mEorAby b1 b2 => Sys2Proof.Machine.execMEorAby b1 b2 s
  | .mEorAbx b1 b2 => Sys2Proof.Machine.execMEorAbx b1 b2 s
  | .mLsrAbx b1 b2 => Sys2Proof.Machine.execMLsrAbx b1 b2 s
  | .mRts => Sys2Proof.Machine.execMRts s
  | .mAdcIzx b1 => Sys2Proof.Machine.execMAdcIzx b1 s
  | .mAdcZp b1 => Sys2Proof.Machine.execMAdcZp b1 s
  | .mRorZp b1 => Sys2Proof.Machine.execMRorZp b1 s
  | .mPla => Sys2Proof.Machine.execMPla s
  | .mAdcImm b1 => Sys2Proof.Machine.execMAdcImm b1 s
  | .mRorAcc => Sys2Proof.Machine.execMRorAcc s
  | .mJmpInd b1 b2 => Sys2Proof.Machine.execMJmpInd b1 b2 s
  | .mAdcAbs b1 b2 => Sys2Proof.Machine.execMAdcAbs b1 b2 s
  | .mRorAbs b1 b2 => Sys2Proof.Machine.execMRorAbs b1 b2 s
  | .mBvs b1 => Sys2Proof.Machine.execMBvs b1 s
  | .mAdcIzy b1 => Sys2Proof.Machine.execMAdcIzy b1 s
  | .mAdcZpx b1 => Sys2Proof.Machine.execMAdcZpx b1 s
  | .mRorZpx b1 => Sys2Proof.Machine.execMRorZpx b1 s
  | .mSei => Sys2Proof.Machine.execMSei s
  | .mAdcAby b1 b2 => Sys2Proof.Machine.execMAdcAby b1 b2 s
  | .mAdcAbx b1 b2 => Sys2Proof.Machine.execMAdcAbx b1 b2 s
  | .mRorAbx b1 b2 => Sys2Proof.Machine.execMRorAbx b1 b2 s
  | .mStaIzx b1 => Sys2Proof.Machine.execMStaIzx b1 s
  | .mStyZp b1 => Sys2Proof.Machine.execMStyZp b1 s
  | .mStaZp b1 => Sys2Proof.Machine.execMStaZp b1 s
  | .mStxZp b1 => Sys2Proof.Machine.execMStxZp b1 s
  | .mDey => Sys2Proof.Machine.execMDey s
  | .mTxa => Sys2Proof.Machine.execMTxa s
  | .mStyAbs b1 b2 => Sys2Proof.Machine.execMStyAbs b1 b2 s
  | .mStaAbs b1 b2 => Sys2Proof.Machine.execMStaAbs b1 b2 s
  | .mStxAbs b1 b2 => Sys2Proof.Machine.execMStxAbs b1 b2 s
  | .mBcc b1 => Sys2Proof.Machine.execMBcc b1 s
  | .mStaIzy b1 => Sys2Proof.Machine.execMStaIzy b1 s
  | .mStyZpx b1 => Sys2Proof.Machine.execMStyZpx b1 s
  | .mStaZpx b1 => Sys2Proof.Machine.execMStaZpx b1 s
  | .mStxZpy b1 => Sys2Proof.Machine.execMStxZpy b1 s
  | .mTya => Sys2Proof.Machine.execMTya s
  | .mStaAby b1 b2 => Sys2Proof.Machine.execMStaAby b1 b2 s
  | .mTxs => Sys2Proof.Machine.execMTxs s
  | .mStaAbx b1 b2 => Sys2Proof.Machine.execMStaAbx b1 b2 s
  | .mLdyImm b1 => Sys2Proof.Machine.execMLdyImm b1 s
  | .mLdaIzx b1 => Sys2Proof.Machine.execMLdaIzx b1 s
  | .mLdxImm b1 => Sys2Proof.Machine.execMLdxImm b1 s
  | .mLdyZp b1 => Sys2Proof.Machine.execMLdyZp b1 s
  | .mLdaZp b1 => Sys2Proof.Machine.execMLdaZp b1 s
  | .mLdxZp b1 => Sys2Proof.Machine.execMLdxZp b1 s
  | .mTay => Sys2Proof.Machine.execMTay s
  | .mLdaImm b1 => Sys2Proof.Machine.execMLdaImm b1 s
  | .mTax => Sys2Proof.Machine.execMTax s
  | .mLdyAbs b1 b2 => Sys2Proof.Machine.execMLdyAbs b1 b2 s
  | .mLdaAbs b1 b2 => Sys2Proof.Machine.execMLdaAbs b1 b2 s
  | .mLdxAbs b1 b2 => Sys2Proof.Machine.execMLdxAbs b1 b2 s
  | .mBcs b1 => Sys2Proof.Machine.execMBcs b1 s
  | .mLdaIzy b1 => Sys2Proof.Machine.execMLdaIzy b1 s
  | .mLdyZpx b1 => Sys2Proof.Machine.execMLdyZpx b1 s
  | .mLdaZpx b1 => Sys2Proof.Machine.execMLdaZpx b1 s
  | .mLdxZpy b1 => Sys2Proof.Machine.execMLdxZpy b1 s
  | .mClv => Sys2Proof.Machine.execMClv s
  | .mLdaAby b1 b2 => Sys2Proof.Machine.execMLdaAby b1 b2 s
  | .mTsx => Sys2Proof.Machine.execMTsx s
  | .mLdyAbx b1 b2 => Sys2Proof.Machine.execMLdyAbx b1 b2 s
  | .mLdaAbx b1 b2 => Sys2Proof.Machine.execMLdaAbx b1 b2 s
  | .mLdxAby b1 b2 => Sys2Proof.Machine.execMLdxAby b1 b2 s
  | .mCpyImm b1 => Sys2Proof.Machine.execMCpyImm b1 s
  | .mCmpIzx b1 => Sys2Proof.Machine.execMCmpIzx b1 s
  | .mCpyZp b1 => Sys2Proof.Machine.execMCpyZp b1 s
  | .mCmpZp b1 => Sys2Proof.Machine.execMCmpZp b1 s
  | .mDecZp b1 => Sys2Proof.Machine.execMDecZp b1 s
  | .mIny => Sys2Proof.Machine.execMIny s
  | .mCmpImm b1 => Sys2Proof.Machine.execMCmpImm b1 s
  | .mDex => Sys2Proof.Machine.execMDex s
  | .mCpyAbs b1 b2 => Sys2Proof.Machine.execMCpyAbs b1 b2 s
  | .mCmpAbs b1 b2 => Sys2Proof.Machine.execMCmpAbs b1 b2 s
  | .mDecAbs b1 b2 => Sys2Proof.Machine.execMDecAbs b1 b2 s
  | .mBne b1 => Sys2Proof.Machine.execMBne b1 s
  | .mCmpIzy b1 => Sys2Proof.Machine.execMCmpIzy b1 s
  | .mCmpZpx b1 => Sys2Proof.Machine.execMCmpZpx b1 s
  | .mDecZpx b1 => Sys2Proof.Machine.execMDecZpx b1 s
  | .mCld => Sys2Proof.Machine.execMCld s
  | .mCmpAby b1 b2 => Sys2Proof.Machine.execMCmpAby b1 b2 s
  | .mCmpAbx b1 b2 => Sys2Proof.Machine.execMCmpAbx b1 b2 s
  | .mDecAbx b1 b2 => Sys2Proof.Machine.execMDecAbx b1 b2 s
  | .mCpxImm b1 => Sys2Proof.Machine.execMCpxImm b1 s
  | .mSbcIzx b1 => Sys2Proof.Machine.execMSbcIzx b1 s
  | .mCpxZp b1 => Sys2Proof.Machine.execMCpxZp b1 s
  | .mSbcZp b1 => Sys2Proof.Machine.execMSbcZp b1 s
  | .mIncZp b1 => Sys2Proof.Machine.execMIncZp b1 s
  | .mInx => Sys2Proof.Machine.execMInx s
  | .mSbcImm b1 => Sys2Proof.Machine.execMSbcImm b1 s
  | .mNop => Sys2Proof.Machine.execMNop s
  | .mCpxAbs b1 b2 => Sys2Proof.Machine.execMCpxAbs b1 b2 s
  | .mSbcAbs b1 b2 => Sys2Proof.Machine.execMSbcAbs b1 b2 s
  | .mIncAbs b1 b2 => Sys2Proof.Machine.execMIncAbs b1 b2 s
  | .mBeq b1 => Sys2Proof.Machine.execMBeq b1 s
  | .mSbcIzy b1 => Sys2Proof.Machine.execMSbcIzy b1 s
  | .mSbcZpx b1 => Sys2Proof.Machine.execMSbcZpx b1 s
  | .mIncZpx b1 => Sys2Proof.Machine.execMIncZpx b1 s
  | .mSed => Sys2Proof.Machine.execMSed s
  | .mSbcAby b1 b2 => Sys2Proof.Machine.execMSbcAby b1 b2 s
  | .mSbcAbx b1 b2 => Sys2Proof.Machine.execMSbcAbx b1 b2 s
  | .mIncAbx b1 b2 => Sys2Proof.Machine.execMIncAbx b1 b2 s
  | .zNop => Sys2Proof.Machine.execZNop s
  | .zLd_BC_nn lo hi => Sys2Proof.Machine.execZLd_BC_nn lo hi s
  | .zLd_atBC_A => Sys2Proof.Machine.execZLd_atBC_A s
  | .zInc_BC => Sys2Proof.Machine.execZInc_BC s
  | .zInc_B => Sys2Proof.Machine.execZInc_B s
  | .zDec_B => Sys2Proof.Machine.execZDec_B s
  | .zLd_B_n n => Sys2Proof.Machine.execZLd_B_n n s
  | .zRlca => Sys2Proof.Machine.execZRlca s
  | .zEx_AF_AFalt => Sys2Proof.Machine.execZEx_AF_AFalt s
  | .zAdd_HL_BC => Sys2Proof.Machine.execZAdd_HL_BC s
  | .zLd_A_atBC => Sys2Proof.Machine.execZLd_A_atBC s
  | .zDec_BC => Sys2Proof.Machine.execZDec_BC s
  | .zInc_C => Sys2Proof.Machine.execZInc_C s
  | .zDec_C => Sys2Proof.Machine.execZDec_C s
  | .zLd_C_n n => Sys2Proof.Machine.execZLd_C_n n s
  | .zRrca => Sys2Proof.Machine.execZRrca s
  | .zDjnz_e e => Sys2Proof.Machine.execZDjnz_e e s
  | .zLd_DE_nn lo hi => Sys2Proof.Machine.execZLd_DE_nn lo hi s
  | .zLd_atDE_A => Sys2Proof.Machine.execZLd_atDE_A s
  | .zInc_DE => Sys2Proof.Machine.execZInc_DE s
  | .zInc_D => Sys2Proof.Machine.execZInc_D s
  | .zDec_D => Sys2Proof.Machine.execZDec_D s
  | .zLd_D_n n => Sys2Proof.Machine.execZLd_D_n n s
  | .zRla => Sys2Proof.Machine.execZRla s
  | .zJr_e e => Sys2Proof.Machine.execZJr_e e s
  | .zAdd_HL_DE => Sys2Proof.Machine.execZAdd_HL_DE s
  | .zLd_A_atDE => Sys2Proof.Machine.execZLd_A_atDE s
  | .zDec_DE => Sys2Proof.Machine.execZDec_DE s
  | .zInc_E => Sys2Proof.Machine.execZInc_E s
  | .zDec_E => Sys2Proof.Machine.execZDec_E s
  | .zLd_E_n n => Sys2Proof.Machine.execZLd_E_n n s
  | .zRra => Sys2Proof.Machine.execZRra s
  | .zJr_NZ_e e => Sys2Proof.Machine.execZJr_NZ_e e s
  | .zLd_HL_nn lo hi => Sys2Proof.Machine.execZLd_HL_nn lo hi s
  | .zLd_atnn_HL lo hi => Sys2Proof.Machine.execZLd_atnn_HL lo hi s
  | .zInc_HL => Sys2Proof.Machine.execZInc_HL s
  | .zInc_H => Sys2Proof.Machine.execZInc_H s
  | .zDec_H => Sys2Proof.Machine.execZDec_H s
  | .zLd_H_n n => Sys2Proof.Machine.execZLd_H_n n s
  | .zDaa => Sys2Proof.Machine.execZDaa s
  | .zJr_Z_e e => Sys2Proof.Machine.execZJr_Z_e e s
  | .zAdd_HL_HL => Sys2Proof.Machine.execZAdd_HL_HL s
  | .zLd_HL_atnn lo hi => Sys2Proof.Machine.execZLd_HL_atnn lo hi s
  | .zDec_HL => Sys2Proof.Machine.execZDec_HL s
  | .zInc_L => Sys2Proof.Machine.execZInc_L s
  | .zDec_L => Sys2Proof.Machine.execZDec_L s
  | .zLd_L_n n => Sys2Proof.Machine.execZLd_L_n n s
  | .zCpl => Sys2Proof.Machine.execZCpl s
  | .zJr_NC_e e => Sys2Proof.Machine.execZJr_NC_e e s
  | .zLd_SP_nn lo hi => Sys2Proof.Machine.execZLd_SP_nn lo hi s
  | .zLd_atnn_A lo hi => Sys2Proof.Machine.execZLd_atnn_A lo hi s
  | .zInc_SP => Sys2Proof.Machine.execZInc_SP s
  | .zInc_atHL => Sys2Proof.Machine.execZInc_atHL s
  | .zDec_atHL => Sys2Proof.Machine.execZDec_atHL s
  | .zLd_atHL_n n => Sys2Proof.Machine.execZLd_atHL_n n s
  | .zScf => Sys2Proof.Machine.execZScf s
  | .zJr_C_e e => Sys2Proof.Machine.execZJr_C_e e s
  | .zAdd_HL_SP => Sys2Proof.Machine.execZAdd_HL_SP s
  | .zLd_A_atnn lo hi => Sys2Proof.Machine.execZLd_A_atnn lo hi s
  | .zDec_SP => Sys2Proof.Machine.execZDec_SP s
  | .zInc_A => Sys2Proof.Machine.execZInc_A s
  | .zDec_A => Sys2Proof.Machine.execZDec_A s
  | .zLd_A_n n => Sys2Proof.Machine.execZLd_A_n n s
  | .zCcf => Sys2Proof.Machine.execZCcf s
  | .zLd_B_B => Sys2Proof.Machine.execZLd_B_B s
  | .zLd_B_C => Sys2Proof.Machine.execZLd_B_C s
  | .zLd_B_D => Sys2Proof.Machine.execZLd_B_D s
  | .zLd_B_E => Sys2Proof.Machine.execZLd_B_E s
  | .zLd_B_H => Sys2Proof.Machine.execZLd_B_H s
  | .zLd_B_L => Sys2Proof.Machine.execZLd_B_L s
  | .zLd_B_atHL => Sys2Proof.Machine.execZLd_B_atHL s
  | .zLd_B_A => Sys2Proof.Machine.execZLd_B_A s
  | .zLd_C_B => Sys2Proof.Machine.execZLd_C_B s
  | .zLd_C_C => Sys2Proof.Machine.execZLd_C_C s
  | .zLd_C_D => Sys2Proof.Machine.execZLd_C_D s
  | .zLd_C_E => Sys2Proof.Machine.execZLd_C_E s
  | .zLd_C_H => Sys2Proof.Machine.execZLd_C_H s
  | .zLd_C_L => Sys2Proof.Machine.execZLd_C_L s
  | .zLd_C_atHL => Sys2Proof.Machine.execZLd_C_atHL s
  | .zLd_C_A => Sys2Proof.Machine.execZLd_C_A s
  | .zLd_D_B => Sys2Proof.Machine.execZLd_D_B s
  | .zLd_D_C => Sys2Proof.Machine.execZLd_D_C s
  | .zLd_D_D => Sys2Proof.Machine.execZLd_D_D s
  | .zLd_D_E => Sys2Proof.Machine.execZLd_D_E s
  | .zLd_D_H => Sys2Proof.Machine.execZLd_D_H s
  | .zLd_D_L => Sys2Proof.Machine.execZLd_D_L s
  | .zLd_D_atHL => Sys2Proof.Machine.execZLd_D_atHL s
  | .zLd_D_A => Sys2Proof.Machine.execZLd_D_A s
  | .zLd_E_B => Sys2Proof.Machine.execZLd_E_B s
  | .zLd_E_C => Sys2Proof.Machine.execZLd_E_C s
  | .zLd_E_D => Sys2Proof.Machine.execZLd_E_D s
  | .zLd_E_E => Sys2Proof.Machine.execZLd_E_E s
  | .zLd_E_H => Sys2Proof.Machine.execZLd_E_H s
  | .zLd_E_L => Sys2Proof.Machine.execZLd_E_L s
  | .zLd_E_atHL => Sys2Proof.Machine.execZLd_E_atHL s
  | .zLd_E_A => Sys2Proof.Machine.execZLd_E_A s
  | .zLd_H_B => Sys2Proof.Machine.execZLd_H_B s
  | .zLd_H_C => Sys2Proof.Machine.execZLd_H_C s
  | .zLd_H_D => Sys2Proof.Machine.execZLd_H_D s
  | .zLd_H_E => Sys2Proof.Machine.execZLd_H_E s
  | .zLd_H_H => Sys2Proof.Machine.execZLd_H_H s
  | .zLd_H_L => Sys2Proof.Machine.execZLd_H_L s
  | .zLd_H_atHL => Sys2Proof.Machine.execZLd_H_atHL s
  | .zLd_H_A => Sys2Proof.Machine.execZLd_H_A s
  | .zLd_L_B => Sys2Proof.Machine.execZLd_L_B s
  | .zLd_L_C => Sys2Proof.Machine.execZLd_L_C s
  | .zLd_L_D => Sys2Proof.Machine.execZLd_L_D s
  | .zLd_L_E => Sys2Proof.Machine.execZLd_L_E s
  | .zLd_L_H => Sys2Proof.Machine.execZLd_L_H s
  | .zLd_L_L => Sys2Proof.Machine.execZLd_L_L s
  | .zLd_L_atHL => Sys2Proof.Machine.execZLd_L_atHL s
  | .zLd_L_A => Sys2Proof.Machine.execZLd_L_A s
  | .zLd_atHL_B => Sys2Proof.Machine.execZLd_atHL_B s
  | .zLd_atHL_C => Sys2Proof.Machine.execZLd_atHL_C s
  | .zLd_atHL_D => Sys2Proof.Machine.execZLd_atHL_D s
  | .zLd_atHL_E => Sys2Proof.Machine.execZLd_atHL_E s
  | .zLd_atHL_H => Sys2Proof.Machine.execZLd_atHL_H s
  | .zLd_atHL_L => Sys2Proof.Machine.execZLd_atHL_L s
  | .zHalt => Sys2Proof.Machine.execZHalt s
  | .zLd_atHL_A => Sys2Proof.Machine.execZLd_atHL_A s
  | .zLd_A_B => Sys2Proof.Machine.execZLd_A_B s
  | .zLd_A_C => Sys2Proof.Machine.execZLd_A_C s
  | .zLd_A_D => Sys2Proof.Machine.execZLd_A_D s
  | .zLd_A_E => Sys2Proof.Machine.execZLd_A_E s
  | .zLd_A_H => Sys2Proof.Machine.execZLd_A_H s
  | .zLd_A_L => Sys2Proof.Machine.execZLd_A_L s
  | .zLd_A_atHL => Sys2Proof.Machine.execZLd_A_atHL s
  | .zLd_A_A => Sys2Proof.Machine.execZLd_A_A s
  | .zAdd_A_B => Sys2Proof.Machine.execZAdd_A_B s
  | .zAdd_A_C => Sys2Proof.Machine.execZAdd_A_C s
  | .zAdd_A_D => Sys2Proof.Machine.execZAdd_A_D s
  | .zAdd_A_E => Sys2Proof.Machine.execZAdd_A_E s
  | .zAdd_A_H => Sys2Proof.Machine.execZAdd_A_H s
  | .zAdd_A_L => Sys2Proof.Machine.execZAdd_A_L s
  | .zAdd_A_atHL => Sys2Proof.Machine.execZAdd_A_atHL s
  | .zAdd_A_A => Sys2Proof.Machine.execZAdd_A_A s
  | .zAdc_A_B => Sys2Proof.Machine.execZAdc_A_B s
  | .zAdc_A_C => Sys2Proof.Machine.execZAdc_A_C s
  | .zAdc_A_D => Sys2Proof.Machine.execZAdc_A_D s
  | .zAdc_A_E => Sys2Proof.Machine.execZAdc_A_E s
  | .zAdc_A_H => Sys2Proof.Machine.execZAdc_A_H s
  | .zAdc_A_L => Sys2Proof.Machine.execZAdc_A_L s
  | .zAdc_A_atHL => Sys2Proof.Machine.execZAdc_A_atHL s
  | .zAdc_A_A => Sys2Proof.Machine.execZAdc_A_A s
  | .zSub_B => Sys2Proof.Machine.execZSub_B s
  | .zSub_C => Sys2Proof.Machine.execZSub_C s
  | .zSub_D => Sys2Proof.Machine.execZSub_D s
  | .zSub_E => Sys2Proof.Machine.execZSub_E s
  | .zSub_H => Sys2Proof.Machine.execZSub_H s
  | .zSub_L => Sys2Proof.Machine.execZSub_L s
  | .zSub_atHL => Sys2Proof.Machine.execZSub_atHL s
  | .zSub_A => Sys2Proof.Machine.execZSub_A s
  | .zSbc_A_B => Sys2Proof.Machine.execZSbc_A_B s
  | .zSbc_A_C => Sys2Proof.Machine.execZSbc_A_C s
  | .zSbc_A_D => Sys2Proof.Machine.execZSbc_A_D s
  | .zSbc_A_E => Sys2Proof.Machine.execZSbc_A_E s
  | .zSbc_A_H => Sys2Proof.Machine.execZSbc_A_H s
  | .zSbc_A_L => Sys2Proof.Machine.execZSbc_A_L s
  | .zSbc_A_atHL => Sys2Proof.Machine.execZSbc_A_atHL s
  | .zSbc_A_A => Sys2Proof.Machine.execZSbc_A_A s
  | .zAnd_B => Sys2Proof.Machine.execZAnd_B s
  | .zAnd_C => Sys2Proof.Machine.execZAnd_C s
  | .zAnd_D => Sys2Proof.Machine.execZAnd_D s
  | .zAnd_E => Sys2Proof.Machine.execZAnd_E s
  | .zAnd_H => Sys2Proof.Machine.execZAnd_H s
  | .zAnd_L => Sys2Proof.Machine.execZAnd_L s
  | .zAnd_atHL => Sys2Proof.Machine.execZAnd_atHL s
  | .zAnd_A => Sys2Proof.Machine.execZAnd_A s
  | .zXor_B => Sys2Proof.Machine.execZXor_B s
  | .zXor_C => Sys2Proof.Machine.execZXor_C s
  | .zXor_D => Sys2Proof.Machine.execZXor_D s
  | .zXor_E => Sys2Proof.Machine.execZXor_E s
  | .zXor_H => Sys2Proof.Machine.execZXor_H s
  | .zXor_L => Sys2Proof.Machine.execZXor_L s
  | .zXor_atHL => Sys2Proof.Machine.execZXor_atHL s
  | .zXor_A => Sys2Proof.Machine.execZXor_A s
  | .zOr_B => Sys2Proof.Machine.execZOr_B s
  | .zOr_C => Sys2Proof.Machine.execZOr_C s
  | .zOr_D => Sys2Proof.Machine.execZOr_D s
  | .zOr_E => Sys2Proof.Machine.execZOr_E s
  | .zOr_H => Sys2Proof.Machine.execZOr_H s
  | .zOr_L => Sys2Proof.Machine.execZOr_L s
  | .zOr_atHL => Sys2Proof.Machine.execZOr_atHL s
  | .zOr_A => Sys2Proof.Machine.execZOr_A s
  | .zCp_B => Sys2Proof.Machine.execZCp_B s
  | .zCp_C => Sys2Proof.Machine.execZCp_C s
  | .zCp_D => Sys2Proof.Machine.execZCp_D s
  | .zCp_E => Sys2Proof.Machine.execZCp_E s
  | .zCp_H => Sys2Proof.Machine.execZCp_H s
  | .zCp_L => Sys2Proof.Machine.execZCp_L s
  | .zCp_atHL => Sys2Proof.Machine.execZCp_atHL s
  | .zCp_A => Sys2Proof.Machine.execZCp_A s
  | .zRet_NZ => Sys2Proof.Machine.execZRet_NZ s
  | .zPop_BC => Sys2Proof.Machine.execZPop_BC s
  | .zJp_NZ_nn lo hi => Sys2Proof.Machine.execZJp_NZ_nn lo hi s
  | .zJp_nn lo hi => Sys2Proof.Machine.execZJp_nn lo hi s
  | .zCall_NZ_nn lo hi => Sys2Proof.Machine.execZCall_NZ_nn lo hi s
  | .zPush_BC => Sys2Proof.Machine.execZPush_BC s
  | .zAdd_A_n n => Sys2Proof.Machine.execZAdd_A_n n s
  | .zRst_00H => Sys2Proof.Machine.execZRst_00H s
  | .zRet_Z => Sys2Proof.Machine.execZRet_Z s
  | .zRet => Sys2Proof.Machine.execZRet s
  | .zJp_Z_nn lo hi => Sys2Proof.Machine.execZJp_Z_nn lo hi s
  | .zCall_Z_nn lo hi => Sys2Proof.Machine.execZCall_Z_nn lo hi s
  | .zCall_nn lo hi => Sys2Proof.Machine.execZCall_nn lo hi s
  | .zAdc_A_n n => Sys2Proof.Machine.execZAdc_A_n n s
  | .zRst_08H => Sys2Proof.Machine.execZRst_08H s
  | .zRet_NC => Sys2Proof.Machine.execZRet_NC s
  | .zPop_DE => Sys2Proof.Machine.execZPop_DE s
  | .zJp_NC_nn lo hi => Sys2Proof.Machine.execZJp_NC_nn lo hi s
  | .zOut_atn_A n => Sys2Proof.Machine.execZOut_atn_A n s
  | .zCall_NC_nn lo hi => Sys2Proof.Machine.execZCall_NC_nn lo hi s
  | .zPush_DE => Sys2Proof.Machine.execZPush_DE s
  | .zSub_n n => Sys2Proof.Machine.execZSub_n n s
  | .zRst_10H => Sys2Proof.Machine.execZRst_10H s
  | .zRet_C => Sys2Proof.Machine.execZRet_C s
  | .zExx => Sys2Proof.Machine.execZExx s
  | .zJp_C_nn lo hi => Sys2Proof.Machine.execZJp_C_nn lo hi s
  | .zIn_A_atn n => Sys2Proof.Machine.execZIn_A_atn n s
  | .zCall_C_nn lo hi => Sys2Proof.Machine.execZCall_C_nn lo hi s
  | .zSbc_A_n n => Sys2Proof.Machine.execZSbc_A_n n s
  | .zRst_18H => Sys2Proof.Machine.execZRst_18H s
  | .zRet_PO => Sys2Proof.Machine.execZRet_PO s
  | .zPop_HL => Sys2Proof.Machine.execZPop_HL s
  | .zJp_PO_nn lo hi => Sys2Proof.Machine.execZJp_PO_nn lo hi s
  | .zEx_atSP_HL => Sys2Proof.Machine.execZEx_atSP_HL s
  | .zCall_PO_nn lo hi => Sys2Proof.Machine.execZCall_PO_nn lo hi s
  | .zPush_HL => Sys2Proof.Machine.execZPush_HL s
  | .zAnd_n n => Sys2Proof.Machine.execZAnd_n n s
  | .zRst_20H => Sys2Proof.Machine.execZRst_20H s
  | .zRet_PE => Sys2Proof.Machine.execZRet_PE s
  | .zJp_atHL => Sys2Proof.Machine.execZJp_atHL s
  | .zJp_PE_nn lo hi => Sys2Proof.Machine.execZJp_PE_nn lo hi s
  | .zEx_DE_HL => Sys2Proof.Machine.execZEx_DE_HL s
  | .zCall_PE_nn lo hi => Sys2Proof.Machine.execZCall_PE_nn lo hi s
  | .zXor_n n => Sys2Proof.Machine.execZXor_n n s
  | .zRst_28H => Sys2Proof.Machine.execZRst_28H s
  | .zRet_P => Sys2Proof.Machine.execZRet_P s
  | .zPop_AF => Sys2Proof.Machine.execZPop_AF s
  | .zJp_P_nn lo hi => Sys2Proof.Machine.execZJp_P_nn lo hi s
  | .zDi => Sys2Proof.Machine.execZDi s
  | .zCall_P_nn lo hi => Sys2Proof.Machine.execZCall_P_nn lo hi s
  | .zPush_AF => Sys2Proof.Machine.execZPush_AF s
  | .zOr_n n => Sys2Proof.Machine.execZOr_n n s
  | .zRst_30H => Sys2Proof.Machine.execZRst_30H s
  | .zRet_M => Sys2Proof.Machine.execZRet_M s
  | .zLd_SP_HL => Sys2Proof.Machine.execZLd_SP_HL s
  | .zJp_M_nn lo hi => Sys2Proof.Machine.execZJp_M_nn lo hi s
  | .zEi => Sys2Proof.Machine.execZEi s
  | .zCall_M_nn lo hi => Sys2Proof.Machine.execZCall_M_nn lo hi s
  | .zCp_n n => Sys2Proof.Machine.execZCp_n n s
  | .zRst_38H => Sys2Proof.Machine.execZRst_38H s
  | .zRlc_B => Sys2Proof.Machine.execZRlc_B s
  | .zRlc_C => Sys2Proof.Machine.execZRlc_C s
  | .zRlc_D => Sys2Proof.Machine.execZRlc_D s
  | .zRlc_E => Sys2Proof.Machine.execZRlc_E s
  | .zRlc_H => Sys2Proof.Machine.execZRlc_H s
  | .zRlc_L => Sys2Proof.Machine.execZRlc_L s
  | .zRlc_atHL => Sys2Proof.Machine.execZRlc_atHL s
  | .zRlc_A => Sys2Proof.Machine.execZRlc_A s
  | .zRrc_B => Sys2Proof.Machine.execZRrc_B s
  | .zRrc_C => Sys2Proof.Machine.execZRrc_C s
  | .zRrc_D => Sys2Proof.Machine.execZRrc_D s
  | .zRrc_E => Sys2Proof.Machine.execZRrc_E s
  | .zRrc_H => Sys2Proof.Machine.execZRrc_H s
  | .zRrc_L => Sys2Proof.Machine.execZRrc_L s
  | .zRrc_atHL => Sys2Proof.Machine.execZRrc_atHL s
  | .zRrc_A => Sys2Proof.Machine.execZRrc_A s
  | .zRl_B => Sys2Proof.Machine.execZRl_B s
  | .zRl_C => Sys2Proof.Machine.execZRl_C s
  | .zRl_D => Sys2Proof.Machine.execZRl_D s
  | .zRl_E => Sys2Proof.Machine.execZRl_E s
  | .zRl_H => Sys2Proof.Machine.execZRl_H s
  | .zRl_L => Sys2Proof.Machine.execZRl_L s
  | .zRl_atHL => Sys2Proof.Machine.execZRl_atHL s
  | .zRl_A => Sys2Proof.Machine.execZRl_A s
  | .zRr_B => Sys2Proof.Machine.execZRr_B s
  | .zRr_C => Sys2Proof.Machine.execZRr_C s
  | .zRr_D => Sys2Proof.Machine.execZRr_D s
  | .zRr_E => Sys2Proof.Machine.execZRr_E s
  | .zRr_H => Sys2Proof.Machine.execZRr_H s
  | .zRr_L => Sys2Proof.Machine.execZRr_L s
  | .zRr_atHL => Sys2Proof.Machine.execZRr_atHL s
  | .zRr_A => Sys2Proof.Machine.execZRr_A s
  | .zSla_B => Sys2Proof.Machine.execZSla_B s
  | .zSla_C => Sys2Proof.Machine.execZSla_C s
  | .zSla_D => Sys2Proof.Machine.execZSla_D s
  | .zSla_E => Sys2Proof.Machine.execZSla_E s
  | .zSla_H => Sys2Proof.Machine.execZSla_H s
  | .zSla_L => Sys2Proof.Machine.execZSla_L s
  | .zSla_atHL => Sys2Proof.Machine.execZSla_atHL s
  | .zSla_A => Sys2Proof.Machine.execZSla_A s
  | .zSra_B => Sys2Proof.Machine.execZSra_B s
  | .zSra_C => Sys2Proof.Machine.execZSra_C s
  | .zSra_D => Sys2Proof.Machine.execZSra_D s
  | .zSra_E => Sys2Proof.Machine.execZSra_E s
  | .zSra_H => Sys2Proof.Machine.execZSra_H s
  | .zSra_L => Sys2Proof.Machine.execZSra_L s
  | .zSra_atHL => Sys2Proof.Machine.execZSra_atHL s
  | .zSra_A => Sys2Proof.Machine.execZSra_A s
  | .zSrl_B => Sys2Proof.Machine.execZSrl_B s
  | .zSrl_C => Sys2Proof.Machine.execZSrl_C s
  | .zSrl_D => Sys2Proof.Machine.execZSrl_D s
  | .zSrl_E => Sys2Proof.Machine.execZSrl_E s
  | .zSrl_H => Sys2Proof.Machine.execZSrl_H s
  | .zSrl_L => Sys2Proof.Machine.execZSrl_L s
  | .zSrl_atHL => Sys2Proof.Machine.execZSrl_atHL s
  | .zSrl_A => Sys2Proof.Machine.execZSrl_A s
  | .zBit_0_B => Sys2Proof.Machine.execZBit_0_B s
  | .zBit_0_C => Sys2Proof.Machine.execZBit_0_C s
  | .zBit_0_D => Sys2Proof.Machine.execZBit_0_D s
  | .zBit_0_E => Sys2Proof.Machine.execZBit_0_E s
  | .zBit_0_H => Sys2Proof.Machine.execZBit_0_H s
  | .zBit_0_L => Sys2Proof.Machine.execZBit_0_L s
  | .zBit_0_atHL => Sys2Proof.Machine.execZBit_0_atHL s
  | .zBit_0_A => Sys2Proof.Machine.execZBit_0_A s
  | .zBit_1_B => Sys2Proof.Machine.execZBit_1_B s
  | .zBit_1_C => Sys2Proof.Machine.execZBit_1_C s
  | .zBit_1_D => Sys2Proof.Machine.execZBit_1_D s
  | .zBit_1_E => Sys2Proof.Machine.execZBit_1_E s
  | .zBit_1_H => Sys2Proof.Machine.execZBit_1_H s
  | .zBit_1_L => Sys2Proof.Machine.execZBit_1_L s
  | .zBit_1_atHL => Sys2Proof.Machine.execZBit_1_atHL s
  | .zBit_1_A => Sys2Proof.Machine.execZBit_1_A s
  | .zBit_2_B => Sys2Proof.Machine.execZBit_2_B s
  | .zBit_2_C => Sys2Proof.Machine.execZBit_2_C s
  | .zBit_2_D => Sys2Proof.Machine.execZBit_2_D s
  | .zBit_2_E => Sys2Proof.Machine.execZBit_2_E s
  | .zBit_2_H => Sys2Proof.Machine.execZBit_2_H s
  | .zBit_2_L => Sys2Proof.Machine.execZBit_2_L s
  | .zBit_2_atHL => Sys2Proof.Machine.execZBit_2_atHL s
  | .zBit_2_A => Sys2Proof.Machine.execZBit_2_A s
  | .zBit_3_B => Sys2Proof.Machine.execZBit_3_B s
  | .zBit_3_C => Sys2Proof.Machine.execZBit_3_C s
  | .zBit_3_D => Sys2Proof.Machine.execZBit_3_D s
  | .zBit_3_E => Sys2Proof.Machine.execZBit_3_E s
  | .zBit_3_H => Sys2Proof.Machine.execZBit_3_H s
  | .zBit_3_L => Sys2Proof.Machine.execZBit_3_L s
  | .zBit_3_atHL => Sys2Proof.Machine.execZBit_3_atHL s
  | .zBit_3_A => Sys2Proof.Machine.execZBit_3_A s
  | .zBit_4_B => Sys2Proof.Machine.execZBit_4_B s
  | .zBit_4_C => Sys2Proof.Machine.execZBit_4_C s
  | .zBit_4_D => Sys2Proof.Machine.execZBit_4_D s
  | .zBit_4_E => Sys2Proof.Machine.execZBit_4_E s
  | .zBit_4_H => Sys2Proof.Machine.execZBit_4_H s
  | .zBit_4_L => Sys2Proof.Machine.execZBit_4_L s
  | .zBit_4_atHL => Sys2Proof.Machine.execZBit_4_atHL s
  | .zBit_4_A => Sys2Proof.Machine.execZBit_4_A s
  | .zBit_5_B => Sys2Proof.Machine.execZBit_5_B s
  | .zBit_5_C => Sys2Proof.Machine.execZBit_5_C s
  | .zBit_5_D => Sys2Proof.Machine.execZBit_5_D s
  | .zBit_5_E => Sys2Proof.Machine.execZBit_5_E s
  | .zBit_5_H => Sys2Proof.Machine.execZBit_5_H s
  | .zBit_5_L => Sys2Proof.Machine.execZBit_5_L s
  | .zBit_5_atHL => Sys2Proof.Machine.execZBit_5_atHL s
  | .zBit_5_A => Sys2Proof.Machine.execZBit_5_A s
  | .zBit_6_B => Sys2Proof.Machine.execZBit_6_B s
  | .zBit_6_C => Sys2Proof.Machine.execZBit_6_C s
  | .zBit_6_D => Sys2Proof.Machine.execZBit_6_D s
  | .zBit_6_E => Sys2Proof.Machine.execZBit_6_E s
  | .zBit_6_H => Sys2Proof.Machine.execZBit_6_H s
  | .zBit_6_L => Sys2Proof.Machine.execZBit_6_L s
  | .zBit_6_atHL => Sys2Proof.Machine.execZBit_6_atHL s
  | .zBit_6_A => Sys2Proof.Machine.execZBit_6_A s
  | .zBit_7_B => Sys2Proof.Machine.execZBit_7_B s
  | .zBit_7_C => Sys2Proof.Machine.execZBit_7_C s
  | .zBit_7_D => Sys2Proof.Machine.execZBit_7_D s
  | .zBit_7_E => Sys2Proof.Machine.execZBit_7_E s
  | .zBit_7_H => Sys2Proof.Machine.execZBit_7_H s
  | .zBit_7_L => Sys2Proof.Machine.execZBit_7_L s
  | .zBit_7_atHL => Sys2Proof.Machine.execZBit_7_atHL s
  | .zBit_7_A => Sys2Proof.Machine.execZBit_7_A s
  | .zRes_0_B => Sys2Proof.Machine.execZRes_0_B s
  | .zRes_0_C => Sys2Proof.Machine.execZRes_0_C s
  | .zRes_0_D => Sys2Proof.Machine.execZRes_0_D s
  | .zRes_0_E => Sys2Proof.Machine.execZRes_0_E s
  | .zRes_0_H => Sys2Proof.Machine.execZRes_0_H s
  | .zRes_0_L => Sys2Proof.Machine.execZRes_0_L s
  | .zRes_0_atHL => Sys2Proof.Machine.execZRes_0_atHL s
  | .zRes_0_A => Sys2Proof.Machine.execZRes_0_A s
  | .zRes_1_B => Sys2Proof.Machine.execZRes_1_B s
  | .zRes_1_C => Sys2Proof.Machine.execZRes_1_C s
  | .zRes_1_D => Sys2Proof.Machine.execZRes_1_D s
  | .zRes_1_E => Sys2Proof.Machine.execZRes_1_E s
  | .zRes_1_H => Sys2Proof.Machine.execZRes_1_H s
  | .zRes_1_L => Sys2Proof.Machine.execZRes_1_L s
  | .zRes_1_atHL => Sys2Proof.Machine.execZRes_1_atHL s
  | .zRes_1_A => Sys2Proof.Machine.execZRes_1_A s
  | .zRes_2_B => Sys2Proof.Machine.execZRes_2_B s
  | .zRes_2_C => Sys2Proof.Machine.execZRes_2_C s
  | .zRes_2_D => Sys2Proof.Machine.execZRes_2_D s
  | .zRes_2_E => Sys2Proof.Machine.execZRes_2_E s
  | .zRes_2_H => Sys2Proof.Machine.execZRes_2_H s
  | .zRes_2_L => Sys2Proof.Machine.execZRes_2_L s
  | .zRes_2_atHL => Sys2Proof.Machine.execZRes_2_atHL s
  | .zRes_2_A => Sys2Proof.Machine.execZRes_2_A s
  | .zRes_3_B => Sys2Proof.Machine.execZRes_3_B s
  | .zRes_3_C => Sys2Proof.Machine.execZRes_3_C s
  | .zRes_3_D => Sys2Proof.Machine.execZRes_3_D s
  | .zRes_3_E => Sys2Proof.Machine.execZRes_3_E s
  | .zRes_3_H => Sys2Proof.Machine.execZRes_3_H s
  | .zRes_3_L => Sys2Proof.Machine.execZRes_3_L s
  | .zRes_3_atHL => Sys2Proof.Machine.execZRes_3_atHL s
  | .zRes_3_A => Sys2Proof.Machine.execZRes_3_A s
  | .zRes_4_B => Sys2Proof.Machine.execZRes_4_B s
  | .zRes_4_C => Sys2Proof.Machine.execZRes_4_C s
  | .zRes_4_D => Sys2Proof.Machine.execZRes_4_D s
  | .zRes_4_E => Sys2Proof.Machine.execZRes_4_E s
  | .zRes_4_H => Sys2Proof.Machine.execZRes_4_H s
  | .zRes_4_L => Sys2Proof.Machine.execZRes_4_L s
  | .zRes_4_atHL => Sys2Proof.Machine.execZRes_4_atHL s
  | .zRes_4_A => Sys2Proof.Machine.execZRes_4_A s
  | .zRes_5_B => Sys2Proof.Machine.execZRes_5_B s
  | .zRes_5_C => Sys2Proof.Machine.execZRes_5_C s
  | .zRes_5_D => Sys2Proof.Machine.execZRes_5_D s
  | .zRes_5_E => Sys2Proof.Machine.execZRes_5_E s
  | .zRes_5_H => Sys2Proof.Machine.execZRes_5_H s
  | .zRes_5_L => Sys2Proof.Machine.execZRes_5_L s
  | .zRes_5_atHL => Sys2Proof.Machine.execZRes_5_atHL s
  | .zRes_5_A => Sys2Proof.Machine.execZRes_5_A s
  | .zRes_6_B => Sys2Proof.Machine.execZRes_6_B s
  | .zRes_6_C => Sys2Proof.Machine.execZRes_6_C s
  | .zRes_6_D => Sys2Proof.Machine.execZRes_6_D s
  | .zRes_6_E => Sys2Proof.Machine.execZRes_6_E s
  | .zRes_6_H => Sys2Proof.Machine.execZRes_6_H s
  | .zRes_6_L => Sys2Proof.Machine.execZRes_6_L s
  | .zRes_6_atHL => Sys2Proof.Machine.execZRes_6_atHL s
  | .zRes_6_A => Sys2Proof.Machine.execZRes_6_A s
  | .zRes_7_B => Sys2Proof.Machine.execZRes_7_B s
  | .zRes_7_C => Sys2Proof.Machine.execZRes_7_C s
  | .zRes_7_D => Sys2Proof.Machine.execZRes_7_D s
  | .zRes_7_E => Sys2Proof.Machine.execZRes_7_E s
  | .zRes_7_H => Sys2Proof.Machine.execZRes_7_H s
  | .zRes_7_L => Sys2Proof.Machine.execZRes_7_L s
  | .zRes_7_atHL => Sys2Proof.Machine.execZRes_7_atHL s
  | .zRes_7_A => Sys2Proof.Machine.execZRes_7_A s
  | .zSet_0_B => Sys2Proof.Machine.execZSet_0_B s
  | .zSet_0_C => Sys2Proof.Machine.execZSet_0_C s
  | .zSet_0_D => Sys2Proof.Machine.execZSet_0_D s
  | .zSet_0_E => Sys2Proof.Machine.execZSet_0_E s
  | .zSet_0_H => Sys2Proof.Machine.execZSet_0_H s
  | .zSet_0_L => Sys2Proof.Machine.execZSet_0_L s
  | .zSet_0_atHL => Sys2Proof.Machine.execZSet_0_atHL s
  | .zSet_0_A => Sys2Proof.Machine.execZSet_0_A s
  | .zSet_1_B => Sys2Proof.Machine.execZSet_1_B s
  | .zSet_1_C => Sys2Proof.Machine.execZSet_1_C s
  | .zSet_1_D => Sys2Proof.Machine.execZSet_1_D s
  | .zSet_1_E => Sys2Proof.Machine.execZSet_1_E s
  | .zSet_1_H => Sys2Proof.Machine.execZSet_1_H s
  | .zSet_1_L => Sys2Proof.Machine.execZSet_1_L s
  | .zSet_1_atHL => Sys2Proof.Machine.execZSet_1_atHL s
  | .zSet_1_A => Sys2Proof.Machine.execZSet_1_A s
  | .zSet_2_B => Sys2Proof.Machine.execZSet_2_B s
  | .zSet_2_C => Sys2Proof.Machine.execZSet_2_C s
  | .zSet_2_D => Sys2Proof.Machine.execZSet_2_D s
  | .zSet_2_E => Sys2Proof.Machine.execZSet_2_E s
  | .zSet_2_H => Sys2Proof.Machine.execZSet_2_H s
  | .zSet_2_L => Sys2Proof.Machine.execZSet_2_L s
  | .zSet_2_atHL => Sys2Proof.Machine.execZSet_2_atHL s
  | .zSet_2_A => Sys2Proof.Machine.execZSet_2_A s
  | .zSet_3_B => Sys2Proof.Machine.execZSet_3_B s
  | .zSet_3_C => Sys2Proof.Machine.execZSet_3_C s
  | .zSet_3_D => Sys2Proof.Machine.execZSet_3_D s
  | .zSet_3_E => Sys2Proof.Machine.execZSet_3_E s
  | .zSet_3_H => Sys2Proof.Machine.execZSet_3_H s
  | .zSet_3_L => Sys2Proof.Machine.execZSet_3_L s
  | .zSet_3_atHL => Sys2Proof.Machine.execZSet_3_atHL s
  | .zSet_3_A => Sys2Proof.Machine.execZSet_3_A s
  | .zSet_4_B => Sys2Proof.Machine.execZSet_4_B s
  | .zSet_4_C => Sys2Proof.Machine.execZSet_4_C s
  | .zSet_4_D => Sys2Proof.Machine.execZSet_4_D s
  | .zSet_4_E => Sys2Proof.Machine.execZSet_4_E s
  | .zSet_4_H => Sys2Proof.Machine.execZSet_4_H s
  | .zSet_4_L => Sys2Proof.Machine.execZSet_4_L s
  | .zSet_4_atHL => Sys2Proof.Machine.execZSet_4_atHL s
  | .zSet_4_A => Sys2Proof.Machine.execZSet_4_A s
  | .zSet_5_B => Sys2Proof.Machine.execZSet_5_B s
  | .zSet_5_C => Sys2Proof.Machine.execZSet_5_C s
  | .zSet_5_D => Sys2Proof.Machine.execZSet_5_D s
  | .zSet_5_E => Sys2Proof.Machine.execZSet_5_E s
  | .zSet_5_H => Sys2Proof.Machine.execZSet_5_H s
  | .zSet_5_L => Sys2Proof.Machine.execZSet_5_L s
  | .zSet_5_atHL => Sys2Proof.Machine.execZSet_5_atHL s
  | .zSet_5_A => Sys2Proof.Machine.execZSet_5_A s
  | .zSet_6_B => Sys2Proof.Machine.execZSet_6_B s
  | .zSet_6_C => Sys2Proof.Machine.execZSet_6_C s
  | .zSet_6_D => Sys2Proof.Machine.execZSet_6_D s
  | .zSet_6_E => Sys2Proof.Machine.execZSet_6_E s
  | .zSet_6_H => Sys2Proof.Machine.execZSet_6_H s
  | .zSet_6_L => Sys2Proof.Machine.execZSet_6_L s
  | .zSet_6_atHL => Sys2Proof.Machine.execZSet_6_atHL s
  | .zSet_6_A => Sys2Proof.Machine.execZSet_6_A s
  | .zSet_7_B => Sys2Proof.Machine.execZSet_7_B s
  | .zSet_7_C => Sys2Proof.Machine.execZSet_7_C s
  | .zSet_7_D => Sys2Proof.Machine.execZSet_7_D s
  | .zSet_7_E => Sys2Proof.Machine.execZSet_7_E s
  | .zSet_7_H => Sys2Proof.Machine.execZSet_7_H s
  | .zSet_7_L => Sys2Proof.Machine.execZSet_7_L s
  | .zSet_7_atHL => Sys2Proof.Machine.execZSet_7_atHL s
  | .zSet_7_A => Sys2Proof.Machine.execZSet_7_A s
  | .zIn_B_atC => Sys2Proof.Machine.execZIn_B_atC s
  | .zOut_atC_B => Sys2Proof.Machine.execZOut_atC_B s
  | .zIn_C_atC => Sys2Proof.Machine.execZIn_C_atC s
  | .zOut_atC_C => Sys2Proof.Machine.execZOut_atC_C s
  | .zIn_D_atC => Sys2Proof.Machine.execZIn_D_atC s
  | .zOut_atC_D => Sys2Proof.Machine.execZOut_atC_D s
  | .zIn_E_atC => Sys2Proof.Machine.execZIn_E_atC s
  | .zOut_atC_E => Sys2Proof.Machine.execZOut_atC_E s
  | .zIn_H_atC => Sys2Proof.Machine.execZIn_H_atC s
  | .zOut_atC_H => Sys2Proof.Machine.execZOut_atC_H s
  | .zIn_L_atC => Sys2Proof.Machine.execZIn_L_atC s
  | .zOut_atC_L => Sys2Proof.Machine.execZOut_atC_L s
  | .zIn_A_atC => Sys2Proof.Machine.execZIn_A_atC s
  | .zOut_atC_A => Sys2Proof.Machine.execZOut_atC_A s
  | .zSbc_HL_BC => Sys2Proof.Machine.execZSbc_HL_BC s
  | .zAdc_HL_BC => Sys2Proof.Machine.execZAdc_HL_BC s
  | .zLd_atnn_BC lo hi => Sys2Proof.Machine.execZLd_atnn_BC lo hi s
  | .zLd_BC_atnn lo hi => Sys2Proof.Machine.execZLd_BC_atnn lo hi s
  | .zSbc_HL_DE => Sys2Proof.Machine.execZSbc_HL_DE s
  | .zAdc_HL_DE => Sys2Proof.Machine.execZAdc_HL_DE s
  | .zLd_atnn_DE lo hi => Sys2Proof.Machine.execZLd_atnn_DE lo hi s
  | .zLd_DE_atnn lo hi => Sys2Proof.Machine.execZLd_DE_atnn lo hi s
  | .zSbc_HL_HL => Sys2Proof.Machine.execZSbc_HL_HL s
  | .zAdc_HL_HL => Sys2Proof.Machine.execZAdc_HL_HL s
  | .zLdEd_atnn_HL lo hi => Sys2Proof.Machine.execZLdEd_atnn_HL lo hi s
  | .zLdEd_HL_atnn lo hi => Sys2Proof.Machine.execZLdEd_HL_atnn lo hi s
  | .zSbc_HL_SP => Sys2Proof.Machine.execZSbc_HL_SP s
  | .zAdc_HL_SP => Sys2Proof.Machine.execZAdc_HL_SP s
  | .zLd_atnn_SP lo hi => Sys2Proof.Machine.execZLd_atnn_SP lo hi s
  | .zLd_SP_atnn lo hi => Sys2Proof.Machine.execZLd_SP_atnn lo hi s
  | .zNeg => Sys2Proof.Machine.execZNeg s
  | .zRetn => Sys2Proof.Machine.execZRetn s
  | .zReti => Sys2Proof.Machine.execZReti s
  | .zIm_0 => Sys2Proof.Machine.execZIm_0 s
  | .zIm_1 => Sys2Proof.Machine.execZIm_1 s
  | .zIm_2 => Sys2Proof.Machine.execZIm_2 s
  | .zLd_I_A => Sys2Proof.Machine.execZLd_I_A s
  | .zLd_R_A => Sys2Proof.Machine.execZLd_R_A s
  | .zLd_A_I => Sys2Proof.Machine.execZLd_A_I s
  | .zLd_A_R => Sys2Proof.Machine.execZLd_A_R s
  | .zRrd => Sys2Proof.Machine.execZRrd s
  | .zRld => Sys2Proof.Machine.execZRld s
  | .zLdi => Sys2Proof.Machine.execZLdi s
  | .zCpi => Sys2Proof.Machine.execZCpi s
  | .zIni => Sys2Proof.Machine.execZIni s
  | .zOuti => Sys2Proof.Machine.execZOuti s
  | .zLdd => Sys2Proof.Machine.execZLdd s
  | .zCpd => Sys2Proof.Machine.execZCpd s
  | .zInd => Sys2Proof.Machine.execZInd s
  | .zOutd => Sys2Proof.Machine.execZOutd s
  | .zLdir => Sys2Proof.Machine.execZLdir s
  | .zCpir => Sys2Proof.Machine.execZCpir s
  | .zInir => Sys2Proof.Machine.execZInir s
  | .zOtir => Sys2Proof.Machine.execZOtir s
  | .zLddr => Sys2Proof.Machine.execZLddr s
  | .zCpdr => Sys2Proof.Machine.execZCpdr s
  | .zIndr => Sys2Proof.Machine.execZIndr s
  | .zOtdr => Sys2Proof.Machine.execZOtdr s
  | .zAdd_IX_BC => Sys2Proof.Machine.execZAdd_IX_BC s
  | .zAdd_IX_DE => Sys2Proof.Machine.execZAdd_IX_DE s
  | .zAdd_IX_IX => Sys2Proof.Machine.execZAdd_IX_IX s
  | .zAdd_IX_SP => Sys2Proof.Machine.execZAdd_IX_SP s
  | .zLd_IX_nn lo hi => Sys2Proof.Machine.execZLd_IX_nn lo hi s
  | .zLd_atnn_IX lo hi => Sys2Proof.Machine.execZLd_atnn_IX lo hi s
  | .zInc_IX => Sys2Proof.Machine.execZInc_IX s
  | .zLd_IX_atnn lo hi => Sys2Proof.Machine.execZLd_IX_atnn lo hi s
  | .zDec_IX => Sys2Proof.Machine.execZDec_IX s
  | .zInc_atIXd d => Sys2Proof.Machine.execZInc_atIXd d s
  | .zDec_atIXd d => Sys2Proof.Machine.execZDec_atIXd d s
  | .zLd_atIXd_n d n => Sys2Proof.Machine.execZLd_atIXd_n d n s
  | .zLd_B_atIXd d => Sys2Proof.Machine.execZLd_B_atIXd d s
  | .zLd_C_atIXd d => Sys2Proof.Machine.execZLd_C_atIXd d s
  | .zLd_D_atIXd d => Sys2Proof.Machine.execZLd_D_atIXd d s
  | .zLd_E_atIXd d => Sys2Proof.Machine.execZLd_E_atIXd d s
  | .zLd_H_atIXd d => Sys2Proof.Machine.execZLd_H_atIXd d s
  | .zLd_L_atIXd d => Sys2Proof.Machine.execZLd_L_atIXd d s
  | .zLd_A_atIXd d => Sys2Proof.Machine.execZLd_A_atIXd d s
  | .zLd_atIXd_B d => Sys2Proof.Machine.execZLd_atIXd_B d s
  | .zLd_atIXd_C d => Sys2Proof.Machine.execZLd_atIXd_C d s
  | .zLd_atIXd_D d => Sys2Proof.Machine.execZLd_atIXd_D d s
  | .zLd_atIXd_E d => Sys2Proof.Machine.execZLd_atIXd_E d s
  | .zLd_atIXd_H d => Sys2Proof.Machine.execZLd_atIXd_H d s
  | .zLd_atIXd_L d => Sys2Proof.Machine.execZLd_atIXd_L d s
  | .zLd_atIXd_A d => Sys2Proof.Machine.execZLd_atIXd_A d s
  | .zAdd_A_atIXd d => Sys2Proof.Machine.execZAdd_A_atIXd d s
  | .zAdc_A_atIXd d => Sys2Proof.Machine.execZAdc_A_atIXd d s
  | .zSub_atIXd d => Sys2Proof.Machine.execZSub_atIXd d s
  | .zSbc_A_atIXd d => Sys2Proof.Machine.execZSbc_A_atIXd d s
  | .zAnd_atIXd d => Sys2Proof.Machine.execZAnd_atIXd d s
  | .zXor_atIXd d => Sys2Proof.Machine.execZXor_atIXd d s
  | .zOr_atIXd d => Sys2Proof.Machine.execZOr_atIXd d s
  | .zCp_atIXd d => Sys2Proof.Machine.execZCp_atIXd d s
  | .zPop_IX => Sys2Proof.Machine.execZPop_IX s
  | .zEx_atSP_IX => Sys2Proof.Machine.execZEx_atSP_IX s
  | .zPush_IX => Sys2Proof.Machine.execZPush_IX s
  | .zJp_atIX => Sys2Proof.Machine.execZJp_atIX s
  | .zLd_SP_IX => Sys2Proof.Machine.execZLd_SP_IX s
  | .zRlc_atIXd d => Sys2Proof.Machine.execZRlc_atIXd d s
  | .zRrc_atIXd d => Sys2Proof.Machine.execZRrc_atIXd d s
  | .zRl_atIXd d => Sys2Proof.Machine.execZRl_atIXd d s
  | .zRr_atIXd d => Sys2Proof.Machine.execZRr_atIXd d s
  | .zSla_atIXd d => Sys2Proof.Machine.execZSla_atIXd d s
  | .zSra_atIXd d => Sys2Proof.Machine.execZSra_atIXd d s
  | .zSrl_atIXd d => Sys2Proof.Machine.execZSrl_atIXd d s
  | .zBit_0_atIXd d => Sys2Proof.Machine.execZBit_0_atIXd d s
  | .zBit_1_atIXd d => Sys2Proof.Machine.execZBit_1_atIXd d s
  | .zBit_2_atIXd d => Sys2Proof.Machine.execZBit_2_atIXd d s
  | .zBit_3_atIXd d => Sys2Proof.Machine.execZBit_3_atIXd d s
  | .zBit_4_atIXd d => Sys2Proof.Machine.execZBit_4_atIXd d s
  | .zBit_5_atIXd d => Sys2Proof.Machine.execZBit_5_atIXd d s
  | .zBit_6_atIXd d => Sys2Proof.Machine.execZBit_6_atIXd d s
  | .zBit_7_atIXd d => Sys2Proof.Machine.execZBit_7_atIXd d s
  | .zRes_0_atIXd d => Sys2Proof.Machine.execZRes_0_atIXd d s
  | .zRes_1_atIXd d => Sys2Proof.Machine.execZRes_1_atIXd d s
  | .zRes_2_atIXd d => Sys2Proof.Machine.execZRes_2_atIXd d s
  | .zRes_3_atIXd d => Sys2Proof.Machine.execZRes_3_atIXd d s
  | .zRes_4_atIXd d => Sys2Proof.Machine.execZRes_4_atIXd d s
  | .zRes_5_atIXd d => Sys2Proof.Machine.execZRes_5_atIXd d s
  | .zRes_6_atIXd d => Sys2Proof.Machine.execZRes_6_atIXd d s
  | .zRes_7_atIXd d => Sys2Proof.Machine.execZRes_7_atIXd d s
  | .zSet_0_atIXd d => Sys2Proof.Machine.execZSet_0_atIXd d s
  | .zSet_1_atIXd d => Sys2Proof.Machine.execZSet_1_atIXd d s
  | .zSet_2_atIXd d => Sys2Proof.Machine.execZSet_2_atIXd d s
  | .zSet_3_atIXd d => Sys2Proof.Machine.execZSet_3_atIXd d s
  | .zSet_4_atIXd d => Sys2Proof.Machine.execZSet_4_atIXd d s
  | .zSet_5_atIXd d => Sys2Proof.Machine.execZSet_5_atIXd d s
  | .zSet_6_atIXd d => Sys2Proof.Machine.execZSet_6_atIXd d s
  | .zSet_7_atIXd d => Sys2Proof.Machine.execZSet_7_atIXd d s
  | .zAdd_IY_BC => Sys2Proof.Machine.execZAdd_IY_BC s
  | .zAdd_IY_DE => Sys2Proof.Machine.execZAdd_IY_DE s
  | .zAdd_IY_IY => Sys2Proof.Machine.execZAdd_IY_IY s
  | .zAdd_IY_SP => Sys2Proof.Machine.execZAdd_IY_SP s
  | .zLd_IY_nn lo hi => Sys2Proof.Machine.execZLd_IY_nn lo hi s
  | .zLd_atnn_IY lo hi => Sys2Proof.Machine.execZLd_atnn_IY lo hi s
  | .zInc_IY => Sys2Proof.Machine.execZInc_IY s
  | .zLd_IY_atnn lo hi => Sys2Proof.Machine.execZLd_IY_atnn lo hi s
  | .zDec_IY => Sys2Proof.Machine.execZDec_IY s
  | .zInc_atIYd d => Sys2Proof.Machine.execZInc_atIYd d s
  | .zDec_atIYd d => Sys2Proof.Machine.execZDec_atIYd d s
  | .zLd_atIYd_n d n => Sys2Proof.Machine.execZLd_atIYd_n d n s
  | .zLd_B_atIYd d => Sys2Proof.Machine.execZLd_B_atIYd d s
  | .zLd_C_atIYd d => Sys2Proof.Machine.execZLd_C_atIYd d s
  | .zLd_D_atIYd d => Sys2Proof.Machine.execZLd_D_atIYd d s
  | .zLd_E_atIYd d => Sys2Proof.Machine.execZLd_E_atIYd d s
  | .zLd_H_atIYd d => Sys2Proof.Machine.execZLd_H_atIYd d s
  | .zLd_L_atIYd d => Sys2Proof.Machine.execZLd_L_atIYd d s
  | .zLd_A_atIYd d => Sys2Proof.Machine.execZLd_A_atIYd d s
  | .zLd_atIYd_B d => Sys2Proof.Machine.execZLd_atIYd_B d s
  | .zLd_atIYd_C d => Sys2Proof.Machine.execZLd_atIYd_C d s
  | .zLd_atIYd_D d => Sys2Proof.Machine.execZLd_atIYd_D d s
  | .zLd_atIYd_E d => Sys2Proof.Machine.execZLd_atIYd_E d s
  | .zLd_atIYd_H d => Sys2Proof.Machine.execZLd_atIYd_H d s
  | .zLd_atIYd_L d => Sys2Proof.Machine.execZLd_atIYd_L d s
  | .zLd_atIYd_A d => Sys2Proof.Machine.execZLd_atIYd_A d s
  | .zAdd_A_atIYd d => Sys2Proof.Machine.execZAdd_A_atIYd d s
  | .zAdc_A_atIYd d => Sys2Proof.Machine.execZAdc_A_atIYd d s
  | .zSub_atIYd d => Sys2Proof.Machine.execZSub_atIYd d s
  | .zSbc_A_atIYd d => Sys2Proof.Machine.execZSbc_A_atIYd d s
  | .zAnd_atIYd d => Sys2Proof.Machine.execZAnd_atIYd d s
  | .zXor_atIYd d => Sys2Proof.Machine.execZXor_atIYd d s
  | .zOr_atIYd d => Sys2Proof.Machine.execZOr_atIYd d s
  | .zCp_atIYd d => Sys2Proof.Machine.execZCp_atIYd d s
  | .zPop_IY => Sys2Proof.Machine.execZPop_IY s
  | .zEx_atSP_IY => Sys2Proof.Machine.execZEx_atSP_IY s
  | .zPush_IY => Sys2Proof.Machine.execZPush_IY s
  | .zJp_atIY => Sys2Proof.Machine.execZJp_atIY s
  | .zLd_SP_IY => Sys2Proof.Machine.execZLd_SP_IY s
  | .zRlc_atIYd d => Sys2Proof.Machine.execZRlc_atIYd d s
  | .zRrc_atIYd d => Sys2Proof.Machine.execZRrc_atIYd d s
  | .zRl_atIYd d => Sys2Proof.Machine.execZRl_atIYd d s
  | .zRr_atIYd d => Sys2Proof.Machine.execZRr_atIYd d s
  | .zSla_atIYd d => Sys2Proof.Machine.execZSla_atIYd d s
  | .zSra_atIYd d => Sys2Proof.Machine.execZSra_atIYd d s
  | .zSrl_atIYd d => Sys2Proof.Machine.execZSrl_atIYd d s
  | .zBit_0_atIYd d => Sys2Proof.Machine.execZBit_0_atIYd d s
  | .zBit_1_atIYd d => Sys2Proof.Machine.execZBit_1_atIYd d s
  | .zBit_2_atIYd d => Sys2Proof.Machine.execZBit_2_atIYd d s
  | .zBit_3_atIYd d => Sys2Proof.Machine.execZBit_3_atIYd d s
  | .zBit_4_atIYd d => Sys2Proof.Machine.execZBit_4_atIYd d s
  | .zBit_5_atIYd d => Sys2Proof.Machine.execZBit_5_atIYd d s
  | .zBit_6_atIYd d => Sys2Proof.Machine.execZBit_6_atIYd d s
  | .zBit_7_atIYd d => Sys2Proof.Machine.execZBit_7_atIYd d s
  | .zRes_0_atIYd d => Sys2Proof.Machine.execZRes_0_atIYd d s
  | .zRes_1_atIYd d => Sys2Proof.Machine.execZRes_1_atIYd d s
  | .zRes_2_atIYd d => Sys2Proof.Machine.execZRes_2_atIYd d s
  | .zRes_3_atIYd d => Sys2Proof.Machine.execZRes_3_atIYd d s
  | .zRes_4_atIYd d => Sys2Proof.Machine.execZRes_4_atIYd d s
  | .zRes_5_atIYd d => Sys2Proof.Machine.execZRes_5_atIYd d s
  | .zRes_6_atIYd d => Sys2Proof.Machine.execZRes_6_atIYd d s
  | .zRes_7_atIYd d => Sys2Proof.Machine.execZRes_7_atIYd d s
  | .zSet_0_atIYd d => Sys2Proof.Machine.execZSet_0_atIYd d s
  | .zSet_1_atIYd d => Sys2Proof.Machine.execZSet_1_atIYd d s
  | .zSet_2_atIYd d => Sys2Proof.Machine.execZSet_2_atIYd d s
  | .zSet_3_atIYd d => Sys2Proof.Machine.execZSet_3_atIYd d s
  | .zSet_4_atIYd d => Sys2Proof.Machine.execZSet_4_atIYd d s
  | .zSet_5_atIYd d => Sys2Proof.Machine.execZSet_5_atIYd d s
  | .zSet_6_atIYd d => Sys2Proof.Machine.execZSet_6_atIYd d s
  | .zSet_7_atIYd d => Sys2Proof.Machine.execZSet_7_atIYd d s

end Sys2Proof.Machine
end

