-- ==== Sys2Proof/Machine/Run.lean ====
section
/-! DEFINITION. The opcode maps of Sys2Proof.Decode with the meaning of each instruction in its place, for compiled runs
alone: Lean's run-time cannot hold the type `Instr` (see Sys2Proof.Decode). `runDecode_eq` proves that they are the decoder
followed by `exec`; no definition of the machine rests on them. -/

namespace Sys2Proof.Machine

/-- The meaning of an instruction whose operands are known. -/
abbrev Meaning := State → Host.Outcome State Fault Refusal

/-- The meanings of `gridZ80`. -/
def runZ80 (b1 b2 : Byte) : Nat → List (Option Meaning)
  | 0x0 =>
    [some execZNop, some (execZLd_BC_nn b1 b2), some execZLd_atBC_A, some execZInc_BC, some execZInc_B,
      some execZDec_B, some (execZLd_B_n b1), some execZRlca, some execZEx_AF_AFalt, some execZAdd_HL_BC,
      some execZLd_A_atBC, some execZDec_BC, some execZInc_C, some execZDec_C, some (execZLd_C_n b1), some execZRrca]
  | 0x1 =>
    [some (execZDjnz_e b1), some (execZLd_DE_nn b1 b2), some execZLd_atDE_A, some execZInc_DE, some execZInc_D,
      some execZDec_D, some (execZLd_D_n b1), some execZRla, some (execZJr_e b1), some execZAdd_HL_DE,
      some execZLd_A_atDE, some execZDec_DE, some execZInc_E, some execZDec_E, some (execZLd_E_n b1), some execZRra]
  | 0x2 =>
    [some (execZJr_NZ_e b1), some (execZLd_HL_nn b1 b2), some (execZLd_atnn_HL b1 b2), some execZInc_HL,
      some execZInc_H, some execZDec_H, some (execZLd_H_n b1), some execZDaa, some (execZJr_Z_e b1),
      some execZAdd_HL_HL, some (execZLd_HL_atnn b1 b2), some execZDec_HL, some execZInc_L, some execZDec_L,
      some (execZLd_L_n b1), some execZCpl]
  | 0x3 =>
    [some (execZJr_NC_e b1), some (execZLd_SP_nn b1 b2), some (execZLd_atnn_A b1 b2), some execZInc_SP,
      some execZInc_atHL, some execZDec_atHL, some (execZLd_atHL_n b1), some execZScf, some (execZJr_C_e b1),
      some execZAdd_HL_SP, some (execZLd_A_atnn b1 b2), some execZDec_SP, some execZInc_A, some execZDec_A,
      some (execZLd_A_n b1), some execZCcf]
  | 0x4 =>
    [some execZLd_B_B, some execZLd_B_C, some execZLd_B_D, some execZLd_B_E, some execZLd_B_H, some execZLd_B_L,
      some execZLd_B_atHL, some execZLd_B_A, some execZLd_C_B, some execZLd_C_C, some execZLd_C_D, some execZLd_C_E,
      some execZLd_C_H, some execZLd_C_L, some execZLd_C_atHL, some execZLd_C_A]
  | 0x5 =>
    [some execZLd_D_B, some execZLd_D_C, some execZLd_D_D, some execZLd_D_E, some execZLd_D_H, some execZLd_D_L,
      some execZLd_D_atHL, some execZLd_D_A, some execZLd_E_B, some execZLd_E_C, some execZLd_E_D, some execZLd_E_E,
      some execZLd_E_H, some execZLd_E_L, some execZLd_E_atHL, some execZLd_E_A]
  | 0x6 =>
    [some execZLd_H_B, some execZLd_H_C, some execZLd_H_D, some execZLd_H_E, some execZLd_H_H, some execZLd_H_L,
      some execZLd_H_atHL, some execZLd_H_A, some execZLd_L_B, some execZLd_L_C, some execZLd_L_D, some execZLd_L_E,
      some execZLd_L_H, some execZLd_L_L, some execZLd_L_atHL, some execZLd_L_A]
  | 0x7 =>
    [some execZLd_atHL_B, some execZLd_atHL_C, some execZLd_atHL_D, some execZLd_atHL_E, some execZLd_atHL_H,
      some execZLd_atHL_L, some execZHalt, some execZLd_atHL_A, some execZLd_A_B, some execZLd_A_C, some execZLd_A_D,
      some execZLd_A_E, some execZLd_A_H, some execZLd_A_L, some execZLd_A_atHL, some execZLd_A_A]
  | 0x8 =>
    [some execZAdd_A_B, some execZAdd_A_C, some execZAdd_A_D, some execZAdd_A_E, some execZAdd_A_H,
      some execZAdd_A_L, some execZAdd_A_atHL, some execZAdd_A_A, some execZAdc_A_B, some execZAdc_A_C,
      some execZAdc_A_D, some execZAdc_A_E, some execZAdc_A_H, some execZAdc_A_L, some execZAdc_A_atHL,
      some execZAdc_A_A]
  | 0x9 =>
    [some execZSub_B, some execZSub_C, some execZSub_D, some execZSub_E, some execZSub_H, some execZSub_L,
      some execZSub_atHL, some execZSub_A, some execZSbc_A_B, some execZSbc_A_C, some execZSbc_A_D,
      some execZSbc_A_E, some execZSbc_A_H, some execZSbc_A_L, some execZSbc_A_atHL, some execZSbc_A_A]
  | 0xA =>
    [some execZAnd_B, some execZAnd_C, some execZAnd_D, some execZAnd_E, some execZAnd_H, some execZAnd_L,
      some execZAnd_atHL, some execZAnd_A, some execZXor_B, some execZXor_C, some execZXor_D, some execZXor_E,
      some execZXor_H, some execZXor_L, some execZXor_atHL, some execZXor_A]
  | 0xB =>
    [some execZOr_B, some execZOr_C, some execZOr_D, some execZOr_E, some execZOr_H, some execZOr_L,
      some execZOr_atHL, some execZOr_A, some execZCp_B, some execZCp_C, some execZCp_D, some execZCp_E,
      some execZCp_H, some execZCp_L, some execZCp_atHL, some execZCp_A]
  | 0xC =>
    [some execZRet_NZ, some execZPop_BC, some (execZJp_NZ_nn b1 b2), some (execZJp_nn b1 b2),
      some (execZCall_NZ_nn b1 b2), some execZPush_BC, some (execZAdd_A_n b1), some execZRst_00H, some execZRet_Z,
      some execZRet, some (execZJp_Z_nn b1 b2), none, some (execZCall_Z_nn b1 b2), some (execZCall_nn b1 b2),
      some (execZAdc_A_n b1), some execZRst_08H]
  | 0xD =>
    [some execZRet_NC, some execZPop_DE, some (execZJp_NC_nn b1 b2), some (execZOut_atn_A b1),
      some (execZCall_NC_nn b1 b2), some execZPush_DE, some (execZSub_n b1), some execZRst_10H, some execZRet_C,
      some execZExx, some (execZJp_C_nn b1 b2), some (execZIn_A_atn b1), some (execZCall_C_nn b1 b2), none,
      some (execZSbc_A_n b1), some execZRst_18H]
  | 0xE =>
    [some execZRet_PO, some execZPop_HL, some (execZJp_PO_nn b1 b2), some execZEx_atSP_HL,
      some (execZCall_PO_nn b1 b2), some execZPush_HL, some (execZAnd_n b1), some execZRst_20H, some execZRet_PE,
      some execZJp_atHL, some (execZJp_PE_nn b1 b2), some execZEx_DE_HL, some (execZCall_PE_nn b1 b2), none,
      some (execZXor_n b1), some execZRst_28H]
  | 0xF =>
    [some execZRet_P, some execZPop_AF, some (execZJp_P_nn b1 b2), some execZDi, some (execZCall_P_nn b1 b2),
      some execZPush_AF, some (execZOr_n b1), some execZRst_30H, some execZRet_M, some execZLd_SP_HL,
      some (execZJp_M_nn b1 b2), some execZEi, some (execZCall_M_nn b1 b2), none, some (execZCp_n b1),
      some execZRst_38H]
  | _ => []

theorem runZ80_eq (b1 b2 : Byte) : ∀ n, runZ80 b1 b2 n = (gridZ80 b1 b2 n).map (Option.map exec)
  | 0 => rfl
  | 1 => rfl
  | 2 => rfl
  | 3 => rfl
  | 4 => rfl
  | 5 => rfl
  | 6 => rfl
  | 7 => rfl
  | 8 => rfl
  | 9 => rfl
  | 10 => rfl
  | 11 => rfl
  | 12 => rfl
  | 13 => rfl
  | 14 => rfl
  | 15 => rfl
  | _ + 16 => rfl

/-- The meanings of `gridCb`. -/
def runCb : Nat → List (Option Meaning)
  | 0x0 =>
    [some execZRlc_B, some execZRlc_C, some execZRlc_D, some execZRlc_E, some execZRlc_H, some execZRlc_L,
      some execZRlc_atHL, some execZRlc_A, some execZRrc_B, some execZRrc_C, some execZRrc_D, some execZRrc_E,
      some execZRrc_H, some execZRrc_L, some execZRrc_atHL, some execZRrc_A]
  | 0x1 =>
    [some execZRl_B, some execZRl_C, some execZRl_D, some execZRl_E, some execZRl_H, some execZRl_L,
      some execZRl_atHL, some execZRl_A, some execZRr_B, some execZRr_C, some execZRr_D, some execZRr_E,
      some execZRr_H, some execZRr_L, some execZRr_atHL, some execZRr_A]
  | 0x2 =>
    [some execZSla_B, some execZSla_C, some execZSla_D, some execZSla_E, some execZSla_H, some execZSla_L,
      some execZSla_atHL, some execZSla_A, some execZSra_B, some execZSra_C, some execZSra_D, some execZSra_E,
      some execZSra_H, some execZSra_L, some execZSra_atHL, some execZSra_A]
  | 0x3 =>
    [none, none, none, none, none, none, none, none, some execZSrl_B, some execZSrl_C, some execZSrl_D,
      some execZSrl_E, some execZSrl_H, some execZSrl_L, some execZSrl_atHL, some execZSrl_A]
  | 0x4 =>
    [some execZBit_0_B, some execZBit_0_C, some execZBit_0_D, some execZBit_0_E, some execZBit_0_H,
      some execZBit_0_L, some execZBit_0_atHL, some execZBit_0_A, some execZBit_1_B, some execZBit_1_C,
      some execZBit_1_D, some execZBit_1_E, some execZBit_1_H, some execZBit_1_L, some execZBit_1_atHL,
      some execZBit_1_A]
  | 0x5 =>
    [some execZBit_2_B, some execZBit_2_C, some execZBit_2_D, some execZBit_2_E, some execZBit_2_H,
      some execZBit_2_L, some execZBit_2_atHL, some execZBit_2_A, some execZBit_3_B, some execZBit_3_C,
      some execZBit_3_D, some execZBit_3_E, some execZBit_3_H, some execZBit_3_L, some execZBit_3_atHL,
      some execZBit_3_A]
  | 0x6 =>
    [some execZBit_4_B, some execZBit_4_C, some execZBit_4_D, some execZBit_4_E, some execZBit_4_H,
      some execZBit_4_L, some execZBit_4_atHL, some execZBit_4_A, some execZBit_5_B, some execZBit_5_C,
      some execZBit_5_D, some execZBit_5_E, some execZBit_5_H, some execZBit_5_L, some execZBit_5_atHL,
      some execZBit_5_A]
  | 0x7 =>
    [some execZBit_6_B, some execZBit_6_C, some execZBit_6_D, some execZBit_6_E, some execZBit_6_H,
      some execZBit_6_L, some execZBit_6_atHL, some execZBit_6_A, some execZBit_7_B, some execZBit_7_C,
      some execZBit_7_D, some execZBit_7_E, some execZBit_7_H, some execZBit_7_L, some execZBit_7_atHL,
      some execZBit_7_A]
  | 0x8 =>
    [some execZRes_0_B, some execZRes_0_C, some execZRes_0_D, some execZRes_0_E, some execZRes_0_H,
      some execZRes_0_L, some execZRes_0_atHL, some execZRes_0_A, some execZRes_1_B, some execZRes_1_C,
      some execZRes_1_D, some execZRes_1_E, some execZRes_1_H, some execZRes_1_L, some execZRes_1_atHL,
      some execZRes_1_A]
  | 0x9 =>
    [some execZRes_2_B, some execZRes_2_C, some execZRes_2_D, some execZRes_2_E, some execZRes_2_H,
      some execZRes_2_L, some execZRes_2_atHL, some execZRes_2_A, some execZRes_3_B, some execZRes_3_C,
      some execZRes_3_D, some execZRes_3_E, some execZRes_3_H, some execZRes_3_L, some execZRes_3_atHL,
      some execZRes_3_A]
  | 0xA =>
    [some execZRes_4_B, some execZRes_4_C, some execZRes_4_D, some execZRes_4_E, some execZRes_4_H,
      some execZRes_4_L, some execZRes_4_atHL, some execZRes_4_A, some execZRes_5_B, some execZRes_5_C,
      some execZRes_5_D, some execZRes_5_E, some execZRes_5_H, some execZRes_5_L, some execZRes_5_atHL,
      some execZRes_5_A]
  | 0xB =>
    [some execZRes_6_B, some execZRes_6_C, some execZRes_6_D, some execZRes_6_E, some execZRes_6_H,
      some execZRes_6_L, some execZRes_6_atHL, some execZRes_6_A, some execZRes_7_B, some execZRes_7_C,
      some execZRes_7_D, some execZRes_7_E, some execZRes_7_H, some execZRes_7_L, some execZRes_7_atHL,
      some execZRes_7_A]
  | 0xC =>
    [some execZSet_0_B, some execZSet_0_C, some execZSet_0_D, some execZSet_0_E, some execZSet_0_H,
      some execZSet_0_L, some execZSet_0_atHL, some execZSet_0_A, some execZSet_1_B, some execZSet_1_C,
      some execZSet_1_D, some execZSet_1_E, some execZSet_1_H, some execZSet_1_L, some execZSet_1_atHL,
      some execZSet_1_A]
  | 0xD =>
    [some execZSet_2_B, some execZSet_2_C, some execZSet_2_D, some execZSet_2_E, some execZSet_2_H,
      some execZSet_2_L, some execZSet_2_atHL, some execZSet_2_A, some execZSet_3_B, some execZSet_3_C,
      some execZSet_3_D, some execZSet_3_E, some execZSet_3_H, some execZSet_3_L, some execZSet_3_atHL,
      some execZSet_3_A]
  | 0xE =>
    [some execZSet_4_B, some execZSet_4_C, some execZSet_4_D, some execZSet_4_E, some execZSet_4_H,
      some execZSet_4_L, some execZSet_4_atHL, some execZSet_4_A, some execZSet_5_B, some execZSet_5_C,
      some execZSet_5_D, some execZSet_5_E, some execZSet_5_H, some execZSet_5_L, some execZSet_5_atHL,
      some execZSet_5_A]
  | 0xF =>
    [some execZSet_6_B, some execZSet_6_C, some execZSet_6_D, some execZSet_6_E, some execZSet_6_H,
      some execZSet_6_L, some execZSet_6_atHL, some execZSet_6_A, some execZSet_7_B, some execZSet_7_C,
      some execZSet_7_D, some execZSet_7_E, some execZSet_7_H, some execZSet_7_L, some execZSet_7_atHL,
      some execZSet_7_A]
  | _ => []

theorem runCb_eq : ∀ n, runCb n = (gridCb n).map (Option.map exec)
  | 0 => rfl
  | 1 => rfl
  | 2 => rfl
  | 3 => rfl
  | 4 => rfl
  | 5 => rfl
  | 6 => rfl
  | 7 => rfl
  | 8 => rfl
  | 9 => rfl
  | 10 => rfl
  | 11 => rfl
  | 12 => rfl
  | 13 => rfl
  | 14 => rfl
  | 15 => rfl
  | _ + 16 => rfl

/-- The meanings of `gridEd`. -/
def runEd (b2 b3 : Byte) : Nat → List (Option Meaning)
  | 0x4 =>
    [some execZIn_B_atC, some execZOut_atC_B, some execZSbc_HL_BC, some (execZLd_atnn_BC b2 b3), some execZNeg,
      some execZRetn, some execZIm_0, some execZLd_I_A, some execZIn_C_atC, some execZOut_atC_C, some execZAdc_HL_BC,
      some (execZLd_BC_atnn b2 b3), none, some execZReti, none, some execZLd_R_A]
  | 0x5 =>
    [some execZIn_D_atC, some execZOut_atC_D, some execZSbc_HL_DE, some (execZLd_atnn_DE b2 b3), none, none,
      some execZIm_1, some execZLd_A_I, some execZIn_E_atC, some execZOut_atC_E, some execZAdc_HL_DE,
      some (execZLd_DE_atnn b2 b3), none, none, some execZIm_2, some execZLd_A_R]
  | 0x6 =>
    [some execZIn_H_atC, some execZOut_atC_H, some execZSbc_HL_HL, some (execZLdEd_atnn_HL b2 b3), none, none, none,
      some execZRrd, some execZIn_L_atC, some execZOut_atC_L, some execZAdc_HL_HL, some (execZLdEd_HL_atnn b2 b3),
      none, none, none, some execZRld]
  | 0x7 =>
    [none, none, some execZSbc_HL_SP, some (execZLd_atnn_SP b2 b3), none, none, none, none, some execZIn_A_atC,
      some execZOut_atC_A, some execZAdc_HL_SP, some (execZLd_SP_atnn b2 b3), none, none, none, none]
  | 0xA =>
    [some execZLdi, some execZCpi, some execZIni, some execZOuti, none, none, none, none, some execZLdd,
      some execZCpd, some execZInd, some execZOutd, none, none, none, none]
  | 0xB =>
    [some execZLdir, some execZCpir, some execZInir, some execZOtir, none, none, none, none, some execZLddr,
      some execZCpdr, some execZIndr, some execZOtdr, none, none, none, none]
  | _ => []

theorem runEd_eq (b2 b3 : Byte) : ∀ n, runEd b2 b3 n = (gridEd b2 b3 n).map (Option.map exec)
  | 0 => rfl
  | 1 => rfl
  | 2 => rfl
  | 3 => rfl
  | 4 => rfl
  | 5 => rfl
  | 6 => rfl
  | 7 => rfl
  | 8 => rfl
  | 9 => rfl
  | 10 => rfl
  | 11 => rfl
  | 12 => rfl
  | 13 => rfl
  | 14 => rfl
  | 15 => rfl
  | _ + 16 => rfl

/-- The meanings of `gridDd`. -/
def runDd (b2 b3 : Byte) : Nat → List (Option Meaning)
  | 0x0 =>
    [none, none, none, none, none, none, none, none, none, some execZAdd_IX_BC, none, none, none, none, none, none]
  | 0x1 =>
    [none, none, none, none, none, none, none, none, none, some execZAdd_IX_DE, none, none, none, none, none, none]
  | 0x2 =>
    [none, some (execZLd_IX_nn b2 b3), some (execZLd_atnn_IX b2 b3), some execZInc_IX, none, none, none, none, none,
      some execZAdd_IX_IX, some (execZLd_IX_atnn b2 b3), some execZDec_IX, none, none, none, none]
  | 0x3 =>
    [none, none, none, none, some (execZInc_atIXd b2), some (execZDec_atIXd b2), some (execZLd_atIXd_n b2 b3), none,
      none, some execZAdd_IX_SP, none, none, none, none, none, none]
  | 0x4 =>
    [none, none, none, none, none, none, some (execZLd_B_atIXd b2), none, none, none, none, none, none, none,
      some (execZLd_C_atIXd b2), none]
  | 0x5 =>
    [none, none, none, none, none, none, some (execZLd_D_atIXd b2), none, none, none, none, none, none, none,
      some (execZLd_E_atIXd b2), none]
  | 0x6 =>
    [none, none, none, none, none, none, some (execZLd_H_atIXd b2), none, none, none, none, none, none, none,
      some (execZLd_L_atIXd b2), none]
  | 0x7 =>
    [some (execZLd_atIXd_B b2), some (execZLd_atIXd_C b2), some (execZLd_atIXd_D b2), some (execZLd_atIXd_E b2),
      some (execZLd_atIXd_H b2), some (execZLd_atIXd_L b2), none, some (execZLd_atIXd_A b2), none, none, none, none,
      none, none, some (execZLd_A_atIXd b2), none]
  | 0x8 =>
    [none, none, none, none, none, none, some (execZAdd_A_atIXd b2), none, none, none, none, none, none, none,
      some (execZAdc_A_atIXd b2), none]
  | 0x9 =>
    [none, none, none, none, none, none, some (execZSub_atIXd b2), none, none, none, none, none, none, none,
      some (execZSbc_A_atIXd b2), none]
  | 0xA =>
    [none, none, none, none, none, none, some (execZAnd_atIXd b2), none, none, none, none, none, none, none,
      some (execZXor_atIXd b2), none]
  | 0xB =>
    [none, none, none, none, none, none, some (execZOr_atIXd b2), none, none, none, none, none, none, none,
      some (execZCp_atIXd b2), none]
  | 0xE =>
    [none, some execZPop_IX, none, some execZEx_atSP_IX, none, some execZPush_IX, none, none, none,
      some execZJp_atIX, none, none, none, none, none, none]
  | 0xF =>
    [none, none, none, none, none, none, none, none, none, some execZLd_SP_IX, none, none, none, none, none, none]
  | _ => []

theorem runDd_eq (b2 b3 : Byte) : ∀ n, runDd b2 b3 n = (gridDd b2 b3 n).map (Option.map exec)
  | 0 => rfl
  | 1 => rfl
  | 2 => rfl
  | 3 => rfl
  | 4 => rfl
  | 5 => rfl
  | 6 => rfl
  | 7 => rfl
  | 8 => rfl
  | 9 => rfl
  | 10 => rfl
  | 11 => rfl
  | 12 => rfl
  | 13 => rfl
  | 14 => rfl
  | 15 => rfl
  | _ + 16 => rfl

/-- The meanings of `gridFd`. -/
def runFd (b2 b3 : Byte) : Nat → List (Option Meaning)
  | 0x0 =>
    [none, none, none, none, none, none, none, none, none, some execZAdd_IY_BC, none, none, none, none, none, none]
  | 0x1 =>
    [none, none, none, none, none, none, none, none, none, some execZAdd_IY_DE, none, none, none, none, none, none]
  | 0x2 =>
    [none, some (execZLd_IY_nn b2 b3), some (execZLd_atnn_IY b2 b3), some execZInc_IY, none, none, none, none, none,
      some execZAdd_IY_IY, some (execZLd_IY_atnn b2 b3), some execZDec_IY, none, none, none, none]
  | 0x3 =>
    [none, none, none, none, some (execZInc_atIYd b2), some (execZDec_atIYd b2), some (execZLd_atIYd_n b2 b3), none,
      none, some execZAdd_IY_SP, none, none, none, none, none, none]
  | 0x4 =>
    [none, none, none, none, none, none, some (execZLd_B_atIYd b2), none, none, none, none, none, none, none,
      some (execZLd_C_atIYd b2), none]
  | 0x5 =>
    [none, none, none, none, none, none, some (execZLd_D_atIYd b2), none, none, none, none, none, none, none,
      some (execZLd_E_atIYd b2), none]
  | 0x6 =>
    [none, none, none, none, none, none, some (execZLd_H_atIYd b2), none, none, none, none, none, none, none,
      some (execZLd_L_atIYd b2), none]
  | 0x7 =>
    [some (execZLd_atIYd_B b2), some (execZLd_atIYd_C b2), some (execZLd_atIYd_D b2), some (execZLd_atIYd_E b2),
      some (execZLd_atIYd_H b2), some (execZLd_atIYd_L b2), none, some (execZLd_atIYd_A b2), none, none, none, none,
      none, none, some (execZLd_A_atIYd b2), none]
  | 0x8 =>
    [none, none, none, none, none, none, some (execZAdd_A_atIYd b2), none, none, none, none, none, none, none,
      some (execZAdc_A_atIYd b2), none]
  | 0x9 =>
    [none, none, none, none, none, none, some (execZSub_atIYd b2), none, none, none, none, none, none, none,
      some (execZSbc_A_atIYd b2), none]
  | 0xA =>
    [none, none, none, none, none, none, some (execZAnd_atIYd b2), none, none, none, none, none, none, none,
      some (execZXor_atIYd b2), none]
  | 0xB =>
    [none, none, none, none, none, none, some (execZOr_atIYd b2), none, none, none, none, none, none, none,
      some (execZCp_atIYd b2), none]
  | 0xE =>
    [none, some execZPop_IY, none, some execZEx_atSP_IY, none, some execZPush_IY, none, none, none,
      some execZJp_atIY, none, none, none, none, none, none]
  | 0xF =>
    [none, none, none, none, none, none, none, none, none, some execZLd_SP_IY, none, none, none, none, none, none]
  | _ => []

theorem runFd_eq (b2 b3 : Byte) : ∀ n, runFd b2 b3 n = (gridFd b2 b3 n).map (Option.map exec)
  | 0 => rfl
  | 1 => rfl
  | 2 => rfl
  | 3 => rfl
  | 4 => rfl
  | 5 => rfl
  | 6 => rfl
  | 7 => rfl
  | 8 => rfl
  | 9 => rfl
  | 10 => rfl
  | 11 => rfl
  | 12 => rfl
  | 13 => rfl
  | 14 => rfl
  | 15 => rfl
  | _ + 16 => rfl

/-- The meanings of `gridDdCb`. -/
def runDdCb (d : Byte) : Nat → List (Option Meaning)
  | 0x0 =>
    [none, none, none, none, none, none, some (execZRlc_atIXd d), none, none, none, none, none, none, none,
      some (execZRrc_atIXd d), none]
  | 0x1 =>
    [none, none, none, none, none, none, some (execZRl_atIXd d), none, none, none, none, none, none, none,
      some (execZRr_atIXd d), none]
  | 0x2 =>
    [none, none, none, none, none, none, some (execZSla_atIXd d), none, none, none, none, none, none, none,
      some (execZSra_atIXd d), none]
  | 0x3 =>
    [none, none, none, none, none, none, none, none, none, none, none, none, none, none, some (execZSrl_atIXd d),
      none]
  | 0x4 =>
    [none, none, none, none, none, none, some (execZBit_0_atIXd d), none, none, none, none, none, none, none,
      some (execZBit_1_atIXd d), none]
  | 0x5 =>
    [none, none, none, none, none, none, some (execZBit_2_atIXd d), none, none, none, none, none, none, none,
      some (execZBit_3_atIXd d), none]
  | 0x6 =>
    [none, none, none, none, none, none, some (execZBit_4_atIXd d), none, none, none, none, none, none, none,
      some (execZBit_5_atIXd d), none]
  | 0x7 =>
    [none, none, none, none, none, none, some (execZBit_6_atIXd d), none, none, none, none, none, none, none,
      some (execZBit_7_atIXd d), none]
  | 0x8 =>
    [none, none, none, none, none, none, some (execZRes_0_atIXd d), none, none, none, none, none, none, none,
      some (execZRes_1_atIXd d), none]
  | 0x9 =>
    [none, none, none, none, none, none, some (execZRes_2_atIXd d), none, none, none, none, none, none, none,
      some (execZRes_3_atIXd d), none]
  | 0xA =>
    [none, none, none, none, none, none, some (execZRes_4_atIXd d), none, none, none, none, none, none, none,
      some (execZRes_5_atIXd d), none]
  | 0xB =>
    [none, none, none, none, none, none, some (execZRes_6_atIXd d), none, none, none, none, none, none, none,
      some (execZRes_7_atIXd d), none]
  | 0xC =>
    [none, none, none, none, none, none, some (execZSet_0_atIXd d), none, none, none, none, none, none, none,
      some (execZSet_1_atIXd d), none]
  | 0xD =>
    [none, none, none, none, none, none, some (execZSet_2_atIXd d), none, none, none, none, none, none, none,
      some (execZSet_3_atIXd d), none]
  | 0xE =>
    [none, none, none, none, none, none, some (execZSet_4_atIXd d), none, none, none, none, none, none, none,
      some (execZSet_5_atIXd d), none]
  | 0xF =>
    [none, none, none, none, none, none, some (execZSet_6_atIXd d), none, none, none, none, none, none, none,
      some (execZSet_7_atIXd d), none]
  | _ => []

theorem runDdCb_eq (d : Byte) : ∀ n, runDdCb d n = (gridDdCb d n).map (Option.map exec)
  | 0 => rfl
  | 1 => rfl
  | 2 => rfl
  | 3 => rfl
  | 4 => rfl
  | 5 => rfl
  | 6 => rfl
  | 7 => rfl
  | 8 => rfl
  | 9 => rfl
  | 10 => rfl
  | 11 => rfl
  | 12 => rfl
  | 13 => rfl
  | 14 => rfl
  | 15 => rfl
  | _ + 16 => rfl

/-- The meanings of `gridFdCb`. -/
def runFdCb (d : Byte) : Nat → List (Option Meaning)
  | 0x0 =>
    [none, none, none, none, none, none, some (execZRlc_atIYd d), none, none, none, none, none, none, none,
      some (execZRrc_atIYd d), none]
  | 0x1 =>
    [none, none, none, none, none, none, some (execZRl_atIYd d), none, none, none, none, none, none, none,
      some (execZRr_atIYd d), none]
  | 0x2 =>
    [none, none, none, none, none, none, some (execZSla_atIYd d), none, none, none, none, none, none, none,
      some (execZSra_atIYd d), none]
  | 0x3 =>
    [none, none, none, none, none, none, none, none, none, none, none, none, none, none, some (execZSrl_atIYd d),
      none]
  | 0x4 =>
    [none, none, none, none, none, none, some (execZBit_0_atIYd d), none, none, none, none, none, none, none,
      some (execZBit_1_atIYd d), none]
  | 0x5 =>
    [none, none, none, none, none, none, some (execZBit_2_atIYd d), none, none, none, none, none, none, none,
      some (execZBit_3_atIYd d), none]
  | 0x6 =>
    [none, none, none, none, none, none, some (execZBit_4_atIYd d), none, none, none, none, none, none, none,
      some (execZBit_5_atIYd d), none]
  | 0x7 =>
    [none, none, none, none, none, none, some (execZBit_6_atIYd d), none, none, none, none, none, none, none,
      some (execZBit_7_atIYd d), none]
  | 0x8 =>
    [none, none, none, none, none, none, some (execZRes_0_atIYd d), none, none, none, none, none, none, none,
      some (execZRes_1_atIYd d), none]
  | 0x9 =>
    [none, none, none, none, none, none, some (execZRes_2_atIYd d), none, none, none, none, none, none, none,
      some (execZRes_3_atIYd d), none]
  | 0xA =>
    [none, none, none, none, none, none, some (execZRes_4_atIYd d), none, none, none, none, none, none, none,
      some (execZRes_5_atIYd d), none]
  | 0xB =>
    [none, none, none, none, none, none, some (execZRes_6_atIYd d), none, none, none, none, none, none, none,
      some (execZRes_7_atIYd d), none]
  | 0xC =>
    [none, none, none, none, none, none, some (execZSet_0_atIYd d), none, none, none, none, none, none, none,
      some (execZSet_1_atIYd d), none]
  | 0xD =>
    [none, none, none, none, none, none, some (execZSet_2_atIYd d), none, none, none, none, none, none, none,
      some (execZSet_3_atIYd d), none]
  | 0xE =>
    [none, none, none, none, none, none, some (execZSet_4_atIYd d), none, none, none, none, none, none, none,
      some (execZSet_5_atIYd d), none]
  | 0xF =>
    [none, none, none, none, none, none, some (execZSet_6_atIYd d), none, none, none, none, none, none, none,
      some (execZSet_7_atIYd d), none]
  | _ => []

theorem runFdCb_eq (d : Byte) : ∀ n, runFdCb d n = (gridFdCb d n).map (Option.map exec)
  | 0 => rfl
  | 1 => rfl
  | 2 => rfl
  | 3 => rfl
  | 4 => rfl
  | 5 => rfl
  | 6 => rfl
  | 7 => rfl
  | 8 => rfl
  | 9 => rfl
  | 10 => rfl
  | 11 => rfl
  | 12 => rfl
  | 13 => rfl
  | 14 => rfl
  | 15 => rfl
  | _ + 16 => rfl

/-- The entry of an opcode byte in a map of meanings. -/
def runAt (g : Nat → List (Option Meaning)) (op : Byte) : Option Meaning :=
  (g (op.toNat / 16)).getD (op.toNat % 16) none

theorem runAt_eq (g : Nat → List (Option Instr)) (r : Nat → List (Option Meaning))
    (h : ∀ n, r n = (g n).map (Option.map exec)) (op : Byte) : runAt r op = (gridAt g op).map exec := by
  simp only [runAt, gridAt, h, List.getD_eq_getElem?_getD, List.getElem?_map]
  cases (g (op.toNat / 16))[op.toNat % 16]? <;> rfl

/-- The meaning the bytes at `pc` select, or the kind of illegal opcode they are. -/
def runOr (k : Illegal) : Option Meaning → Meaning
  | some f => f
  | none => fun s => .next (takeIllegal k s)

/-- The decoder of Sys2Proof.Decode followed by `exec`, without a value of type `Instr` for the Z80. -/
def runDecode (fam : Family) (atIdle : Bool) (b0 b1 b2 b3 : Byte) : Meaning :=
  match fam with
  | .m6502 =>
    if b0 = 0x22 ∧ atIdle then exec .mHaltSentinel
    else runOr .m6502 ((gridAt (gridM6502 b1 b2) b0).map exec)
  | .z80 =>
    if b0 = 0xCB then runOr .z80Cb (runAt runCb b1)
    else if b0 = 0xED then runOr .z80Ed (runAt (runEd b2 b3) b1)
    else if b0 = 0xDD then
      if b1 = 0xCB then runOr .z80IndexCb (runAt (runDdCb b2) b3)
      else runOr .z80Prefix (runAt (runDd b2 b3) b1)
    else if b0 = 0xFD then
      if b1 = 0xCB then runOr .z80IndexCb (runAt (runFdCb b2) b3)
      else runOr .z80Prefix (runAt (runFd b2 b3) b1)
    else runOr .z80Prefix (runAt (runZ80 b1 b2) b0)

/-- What the machine does with decoded bytes: the instruction, or the illegal-opcode path (R153, R158). -/
def execDecoded : Decoded → Meaning
  | .instr i => exec i
  | .illegal k => fun s => .next (takeIllegal k s)

theorem runOr_eq (k : Illegal) (o : Option Instr) : runOr k (o.map exec) = execDecoded (orIllegal k o) := by
  cases o <;> rfl

theorem runDecode_eq (fam : Family) (atIdle : Bool) (b0 b1 b2 b3 : Byte) :
    runDecode fam atIdle b0 b1 b2 b3 = execDecoded (decode fam atIdle b0 b1 b2 b3) := by
  cases fam
  · simp only [runDecode, decode]
    split
    · rfl
    · exact runOr_eq _ _
  · simp only [runDecode, decode, runAt_eq _ _ runCb_eq, runAt_eq _ _ (runEd_eq b2 b3), runAt_eq _ _ (runDd_eq b2 b3),
      runAt_eq _ _ (runFd_eq b2 b3), runAt_eq _ _ (runDdCb_eq b2), runAt_eq _ _ (runFdCb_eq b2),
      runAt_eq _ _ (runZ80_eq b1 b2), runOr_eq]
    repeat' split
    all_goals rfl

end Sys2Proof.Machine
end

