-- ==== Sys2Proof/Machine/Driver.lean ====
section
/-! DEFINITION. The machine driver and the host's calls: starting a track, the passes of a frame, what the end of a slice
leads to, tempo, mute and warnings, the CPU core's own operations (R150, R530 to R554); one pass of the dispatch loop
(R152, R153); and the placing of one instruction where the next fetch finds it. -/

namespace Sys2Proof.Machine

/-! ### The chips, as the driver reaches them -/

/-- `chip.reset()` (R66). -/
def chipReset (c : Chip) (s : State) : State :=
  match c with
  | .nesApu => { s with nes := Nes.reset s.cfg.nesConsts }
  | .ay => { s with ay := Ay.reset s.cfg.ayConsts }
  | .pokey => { s with pokey := Pokey.reset }

/-- `chip.end_frame(t)` (R454, R488, R512). -/
def chipEndFrame (t : Int) (c : Chip) (s : State) : State :=
  match c with
  | .nesApu => nesEndFrame t s
  | .ay => ayEndFrame t s
  | .pokey => pokeyEndFrame t s

/-- `chip.set_output(voice, s)` (R455, R489, R513). -/
def chipSetOutput (c : Chip) (voice : Nat) (o : Option Channel) (s : State) : State :=
  match c with
  | .nesApu => let x := Nes.setOutput voice o (s.nes, s.sink); { s with nes := x.1, sink := x.2 }
  | .ay => let x := Ay.setOutput s.cfg.ayConsts voice o (s.ay, s.sink); { s with ay := x.1, sink := x.2 }
  | .pokey => let x := Pokey.setOutput voice o (s.pokey, s.sink); { s with pokey := x.1, sink := x.2 }

/-- `set_output(v, none if voice_mute[v] = 1 else sink channel v)` for each voice of a chip (R531, R549). -/
def muteChip (mask : Nat) (c : Chip) (s : State) : State :=
  (List.range c.voices).foldl
    (fun s v => chipSetOutput c v (if mask.testBit v then none else some ⟨c, v⟩) s) s

/-- The outputs of every attached chip. -/
def muteAll (mask : Nat) (s : State) : State := s.cfg.chips.foldl (fun s c => muteChip mask c s) s

/-- Every chip's `end_frame(t)`, then the sink's (R531, R546, R623). -/
def closeFrame (t : Int) (s : State) : State :=
  let u := s.cfg.chips.foldl (fun s c => chipEndFrame t c s) s
  { u with sink := .endFrame t :: u.sink }

/-! ### The CPU core's operations (R150) -/

/-- `reset(unmapped_fill)` (R62 to R65). -/
def cpuReset (fill : Byte) (s : State) : State :=
  { s with
    time := 0
    endTime := 0
    errorCount := 0
    pc := 0
    phase := .reset
    m := M6502Regs.reset
    z := Z80Regs.reset
    unmappedFill := fill
    readPage := PageEntry.table s.cfg .unmappedRead
    writePage := PageEntry.table s.cfg .unmappedWrite }

/-- `run(end)` begins: `end_time <- end; phase <- Running` (R151). -/
def beginSlice (c : Caller) (bound : Int) (s : State) : State :=
  { s with endTime := bound, phase := .running, control := .slice c }

/-- A host call is finished. -/
def finish (r : HostResult) (s : State) : State := { s with results := r :: s.results, control := .host }

/-- A host call is refused: recorded, and nothing else changes (R578). -/
def finishRefused (r : CallRefusal) (s : State) : State := finish (.refused r) (refuse r s)

/-- The core's operations, called between slices. -/
def coreCall (c : CoreCall) (s : State) : State :=
  match c with
  | .reset fill => finish .done (cpuReset fill s)
  | .map m => finish (if mapOk s m then .done else .refused .misalignedMap) (applyMap m s)
  | .setEndTime t => finish .done { s with endTime := t }
  | .setTime t => finish .done { s with time := t }
  | .readTime => finish (.timeWas s.time) s
  | .run bound => beginSlice .direct bound s
  | .jsrThenStop addr => finish .done (jsrThenStop addr s)
  | .readRegs => finish (.regsWere (snapshot s)) s
  | .writeRegs p => finish .done { s with pc := p.pc, m := p.m, z := p.z }

/-! ### Starting a track (R531, R532) -/

/-- Copy bytes into a region from an offset on; what lies beyond its length is cut off (R570 b). -/
def copyBlock : Nat → List Byte → Region → Region
  | _, [], r => r
  | o, b :: bs, r => copyBlock (o + 1) bs (regionWrite o b r)

/-- A region of zeros with the image's blocks copied in (R531, R68). -/
def buildRegion (r : RegionImage) : Region :=
  r.blocks.foldl (fun g b => copyBlock b.1 b.2 g) ⟨r.size, []⟩

/-- `SetStack()` (R532). -/
def setStack (s : State) : State :=
  match s.cfg.family with
  | .m6502 => { s with m := { s.m with sp := lo8 s.cfg.initSp } }
  | .z80 => { s with z := { s.z with sp := s.cfg.initSp } }

/-- The value of an entry register; the track index is reduced to the register's width (R532). -/
def entryValue (track : Nat) : EntryVal → Word
  | .const w => w
  | .track => BitVec.ofNat 16 track

/-- The interrupt mode a value names: 1 and 2 name themselves, any other value mode 0 (log entry 3). -/
def entryIm (w : Word) : ImMode := if w = 1 then .im1 else if w = 2 then .im2 else .im0

/-- Write one entry register: a byte register takes the low byte, an interrupt flip-flop bit 0; P and F are written as `PLP`
and `POP AF` write them (R532). -/
def setEntryReg (track : Nat) (s : State) (e : EntrySet) : State :=
  let w := entryValue track e.val
  match e.reg with
  | .mA => { s with m := { s.m with a := lo8 w } }
  | .mX => { s with m := { s.m with x := lo8 w } }
  | .mY => { s with m := { s.m with y := lo8 w } }
  | .mSP => { s with m := { s.m with sp := lo8 w } }
  | .mP => { s with m := { s.m with p := MFlags.ofByte (lo8 w) } }
  | .zR8 r => { s with z := r.set (lo8 w) s.z }
  | .zPair p => { s with z := p.set w s.z }
  | .zXY x => { s with z := x.set w s.z }
  | .zF => { s with z := { s.z with f := ZFlags.ofByte (lo8 w) } }
  | .zAltAF => { s with z := { s.z with aAlt := hi8 w, fAlt := ZFlags.ofByte (lo8 w) } }
  | .zAltBC => { s with z := { s.z with bcAlt := w } }
  | .zAltDE => { s with z := { s.z with deAlt := w } }
  | .zAltHL => { s with z := { s.z with hlAlt := w } }
  | .zI => { s with z := { s.z with i := lo8 w } }
  | .zR => { s with z := { s.z with r := lo8 w } }
  | .zIff1 => { s with z := { s.z with iff1 := w.getLsbD 0 } }
  | .zIff2 => { s with z := { s.z with iff2 := w.getLsbD 0 } }
  | .zIm => { s with z := { s.z with im := entryIm w } }

/-- `SetEntryRegs(which, index)` (R532). -/
def setEntryRegs (es : List EntrySet) (track : Nat) (s : State) : State := es.foldl (setEntryReg track) s

/-- `max(1, floor(PLAY_PERIOD / tempo))` (R531, R548). -/
def periodAt (playPeriod : Nat) (tempo : Rat) : Nat := max 1 ((playPeriod : Rat) / tempo).floor.toNat

/-- `PLAY_PERIOD` of a track: the launch parameter the loader supplied (R19), else the configuration's (R7). Log entry 30. -/
def Image.period (image : Image) (c : Cfg) : Nat := image.playPeriod.getD c.playPeriod

/-- `INIT_BUDGET`; its default is `PLAY_PERIOD` (R7). -/
def Image.budget (image : Image) (c : Cfg) : Nat := c.initBudget.getD (image.period c)

/-- The memory of a new track: the core reset, the regions built, the mapping plan applied, the halt sentinel ensured
(R531, R614). -/
def loadTrack (image : Image) (s : State) : State :=
  let s1 := cpuReset s.cfg.unmappedFill s
  let s2 := { s1 with regions := image.regions.map buildRegion }
  ensureHalt (image.plan.foldl (fun s c => applyMap c s) s2)

/-- The driver's own fields at the start of a track (R67, R531). -/
def armDriver (index : Nat) (image : Image) (s : State) : State :=
  { s with
    suspended := none
    playCalls := 0
    track := index
    playPeriod := periodAt (image.period s.cfg) s.tempo
    started := true
    initAddr := image.initAddr
    playAddr := image.playAddr
    image := image }

/-- `start_track(index, image)` up to its `run(INIT_BUDGET)` (R531); `sliceEnd` does the rest. The record of refused calls
(R578) is kept: no rule clears it (log entry 29). -/
def startTrack (index : Nat) (image : Image) (s : State) : State :=
  if image.trackCount ≤ index then finish (.failure "bad track index") s
  else
    let s1 := loadTrack image s
    let s2 := s1.cfg.chips.foldl (fun s c => chipReset c s) s1
    let s3 := armDriver index image (muteAll s2.voiceMute s2)
    let s4 := setEntryRegs s3.cfg.entryInit index (setStack s3)
    beginSlice .initPhase (image.budget s4.cfg) (jsrThenStop image.initAddr s4)

/-! ### The frame (R540 to R547) -/

/-- A play call that is due: made, made on top of a suspended routine, or skipped (R540, R544). -/
def playDue (s : State) : State :=
  let t := { s with nextPlayTime := s.nextPlayTime + s.playPeriod }
  if t.pc ≠ t.cfg.idleAddr ∧ t.suspended.isSome then warn "play call skipped: previous play still running" t
  else
    let u := if t.pc ≠ t.cfg.idleAddr then warn "play called during init" (suspend t) else t
    let v := jsrThenStop u.playAddr (setEntryRegs u.cfg.entryPlay u.track u)
    { v with playCalls := v.playCalls + 1 }

/-- `end_time` when the times of a frame of this length are rebased: written, as R22 says, or left, as R546 says. Log entry
27. -/
def rebaseEndTime (length : Int) (s : State) : State :=
  { s with endTime := s.cfg.endTimeRebase.apply length s.endTime }

/-- `cpu.set_time(cpu.time() - target)`, and what rebasing does to `end_time`; a negative time is clamped to 0 with a warning,
as R546 and R571 say and U8 does not (log entry 28). -/
def rebaseTime (target : Int) (s : State) : State :=
  let t := rebaseEndTime target s
  if t.time < target then warn "time rebasing invariant" { t with time := 0 } else { t with time := t.time - target }

/-- The end of a frame: rebasing, the chips and the sink, the illegal-opcode warning (R545 to R547). -/
def finishFrame (target : Int) (errors : Nat) (s : State) : State :=
  let t := rebaseTime target s
  let u := closeFrame target { t with nextPlayTime := t.nextPlayTime - target }
  finish (.duration target) (if errors < u.errorCount then warn "unsupported CPU instruction" u else u)

/-- One pass of the loop of `end_frame` up to its `run`, or the end of the frame (R540). -/
def framePass (target : Int) (errors : Nat) (s : State) : State :=
  if s.time < target then
    let t := if s.nextPlayTime ≤ s.time then playDue s else s
    let bound := min target t.nextPlayTime
    beginSlice (.frame target errors bound) bound t
  else finishFrame target errors s

/-- What follows a slice that ended for reason `r`: the end of the init phase (R531), the bottom of a pass of `end_frame`
(R540 to R543), or the host itself. -/
def sliceEnd (c : Caller) (r : StopReason) (s : State) : State :=
  match c with
  | .initPhase => finish .success { rebaseEndTime s.time (closeFrame s.time s) with time := 0, nextPlayTime := 0 }
  | .frame target errors bound =>
    let t :=
      if r = .haltedAtIdle then
        match s.suspended with
        | some p => restore p s
        | none => { s with time := bound }
      else s
    { t with control := .frame target errors }
  | .direct => finish (.stopped r) s

/-! ### The host's calls (R548 to R550, R554, R578, R579) -/

/-- Begin, or carry out, a host call. -/
def hostCall (c : HostCall) (s : State) : State :=
  match c with
  | .startTrack index image => startTrack index image s
  | .endFrame target =>
    if !s.started then finish (.duration 0) (refuse .noTrack s)
    else if target ≤ 0 then finishRefused .badDuration s
    else { s with control := .frame target s.errorCount }
  | .setTempo m =>
    if !s.started then finishRefused .noTrack s
    else if m ≤ 0 then finishRefused .badTempo s
    else finish .done { s with tempo := m, playPeriod := periodAt (s.image.period s.cfg) m }
  | .setVoiceMute mask =>
    if !s.started then finishRefused .noTrack s
    else finish .done (muteAll mask { s with voiceMute := mask })
  | .takeWarning => finish (.warningWas s.warning) { s with warning := none }
  | .warn text => finish .done (warn text s)
  | .ayWrite t r v => finish .done (ayWrite t r v s)
  | .core c => coreCall c s

/-- Between calls the host makes its next pending call; with none pending the machine waits. -/
def hostTurn (s : State) : State :=
  match s.calls with
  | [] => s
  | c :: cs => hostCall c { s with calls := cs }

/-! ### The dispatch loop (R151 to R162) -/

/-- The bytes at `pc`, decoded (R79, R110, R153). The four reads have no side effect. -/
noncomputable def decodeAt (s : State) : Decoded :=
  decode s.cfg.family (decide (s.pc = s.cfg.idleAddr)) (ptRead s s.pc) (ptRead s (s.pc + 1)) (ptRead s (s.pc + 2))
    (ptRead s (s.pc + 3))

/-- One instruction or one illegal opcode (R153, R158). -/
noncomputable def cpuStep (s : State) : Host.Outcome State Fault Refusal := execDecoded (decodeAt s) s

/-- The compiled form of `cpuStep`. -/
def cpuStepRun (s : State) : Host.Outcome State Fault Refusal :=
  runDecode s.cfg.family (decide (s.pc = s.cfg.idleAddr)) (ptRead s s.pc) (ptRead s (s.pc + 1)) (ptRead s (s.pc + 2))
    (ptRead s (s.pc + 3)) s

@[csimp] theorem cpuStep_eq_cpuStepRun : @cpuStep = @cpuStepRun := by
  funext s
  simp only [cpuStep, cpuStepRun, runDecode_eq, decodeAt]

/-- One pass of the loop of `run` (R152): the slice has ended by a halt, or by time, or one instruction runs. -/
def sliceStep (c : Caller) (s : State) : Host.Outcome State Fault Refusal :=
  match s.phase with
  | .haltedAtIdle => .next (sliceEnd c .haltedAtIdle s)
  | .haltedElsewhere => .next (sliceEnd c .haltedElsewhere s)
  | _ => if s.endTime ≤ s.time then .next (sliceEnd c .timeUp s) else cpuStep s

/-! ### Placing one instruction (log entry 5) -/

/-- The machine of the family an instruction belongs to: this one, or one of the other family with nothing mapped. -/
def withFamily (fam : Family) (s : State) : State :=
  if s.cfg.family = fam then s
  else
    { s with
      cfg := Config.machineOf fam
      readPage := PageEntry.table (Config.machineOf fam) .unmappedRead
      writePage := PageEntry.table (Config.machineOf fam) .unmappedWrite
      unmappedWrite := [] }

/-- Store bytes where fetches from an address on find them. -/
def placeBytes (a : Word) : List Byte → State → State
  | [], s => s
  | b :: bs, s => placeBytes (a + 1) bs (poke a b (ensureBacked a s))

/-- A slice of one instruction is running at `pc`. -/
def readyToFetch (s : State) : State := beginSlice .direct (s.time + 1) s

/-- The instruction of a table word stands at `pc` and is the next one to run; the halt sentinel stands at `IDLE_ADDR`. -/
noncomputable def placeWord (nbits w : Nat) (s : State) : State :=
  let t := withFamily (tableFamily nbits w) s
  let u := placeBytes t.pc
    [tableByte nbits w 0, tableByte nbits w 1, tableByte nbits w 2, tableByte nbits w 3] t
  readyToFetch (if decodeTableWord nbits w = some .mHaltSentinel then { u with cfg := { u.cfg with idleAddr := u.pc } } else u)

end Sys2Proof.Machine
end

