-- ==== Sys2Proof/Machine/Step.lean ====
section
/-! DEFINITION. One step of the whole machine: whoever moves next (R15) moves. -/

namespace Sys2Proof.Machine

/-- One step: the host makes a call, the driver makes a pass of `end_frame`, or the dispatch loop makes a pass (R15, R152,
R540). -/
def step (s : State) : Host.Outcome State Fault Refusal :=
  match s.control with
  | .host => .next (hostTurn s)
  | .frame target errors => .next (framePass target errors s)
  | .slice c => sliceStep c s

/-- The state with one instruction of the opcode table stored where the next step fetches it. -/
noncomputable def State.withFetchWord (s : State) (nbits w : Nat) : State := placeWord nbits w s

end Sys2Proof.Machine
end

