-- ==== Sys2Proof/Table.lean ====
section
/-! DEFINITION. Length and fixed cost of every row of the opcode table, transcribed from it row by row (R111, R124, R139). -/

namespace Sys2Proof

/-- The `len` and `cycles` fields of a row. -/
structure Row where
  len : Nat
  cyc : Nat
deriving DecidableEq, Repr

/-- The row of each instruction. -/
def Instr.row : Instr → Row
  | .mBrk => ⟨1, 7⟩
  | .mOraIzx _ => ⟨2, 6⟩
  | .mOraZp _ => ⟨2, 3⟩
  | .mAslZp _ => ⟨2, 5⟩
  | .mPhp => ⟨1, 3⟩
  | .mOraImm _ => ⟨2, 2⟩
  | .mAslAcc => ⟨1, 2⟩
  | .mOraAbs _ _ => ⟨3, 4⟩
  | .mAslAbs _ _ => ⟨3, 6⟩
  | .mBpl _ => ⟨2, 2⟩
  | .mOraIzy _ => ⟨2, 5⟩
  | .mOraZpx _ => ⟨2, 4⟩
  | .mAslZpx _ => ⟨2, 6⟩
  | .mClc => ⟨1, 2⟩
  | .mOraAby _ _ => ⟨3, 4⟩
  | .mOraAbx _ _ => ⟨3, 4⟩
  | .mAslAbx _ _ => ⟨3, 7⟩
  | .mJsr _ _ => ⟨3, 6⟩
  | .mAndIzx _ => ⟨2, 6⟩
  | .mHaltSentinel => ⟨1, 0⟩
  | .mBitZp _ => ⟨2, 3⟩
  | .mAndZp _ => ⟨2, 3⟩
  | .mRolZp _ => ⟨2, 5⟩
  | .mPlp => ⟨1, 4⟩
  | .mAndImm _ => ⟨2, 2⟩
  | .mRolAcc => ⟨1, 2⟩
  | .mBitAbs _ _ => ⟨3, 4⟩
  | .mAndAbs _ _ => ⟨3, 4⟩
  | .mRolAbs _ _ => ⟨3, 6⟩
  | .mBmi _ => ⟨2, 2⟩
  | .mAndIzy _ => ⟨2, 5⟩
  | .mAndZpx _ => ⟨2, 4⟩
  | .mRolZpx _ => ⟨2, 6⟩
  | .mSec => ⟨1, 2⟩
  | .mAndAby _ _ => ⟨3, 4⟩
  | .mAndAbx _ _ => ⟨3, 4⟩
  | .mRolAbx _ _ => ⟨3, 7⟩
  | .mRti => ⟨1, 6⟩
  | .mEorIzx _ => ⟨2, 6⟩
  | .mEorZp _ => ⟨2, 3⟩
  | .mLsrZp _ => ⟨2, 5⟩
  | .mPha => ⟨1, 3⟩
  | .mEorImm _ => ⟨2, 2⟩
  | .mLsrAcc => ⟨1, 2⟩
  | .mJmpAbs _ _ => ⟨3, 3⟩
  | .mEorAbs _ _ => ⟨3, 4⟩
  | .mLsrAbs _ _ => ⟨3, 6⟩
  | .mBvc _ => ⟨2, 2⟩
  | .mEorIzy _ => ⟨2, 5⟩
  | .mEorZpx _ => ⟨2, 4⟩
  | .mLsrZpx _ => ⟨2, 6⟩
  | .mCli => ⟨1, 2⟩
  | .mEorAby _ _ => ⟨3, 4⟩
  | .mEorAbx _ _ => ⟨3, 4⟩
  | .mLsrAbx _ _ => ⟨3, 7⟩
  | .mRts => ⟨1, 6⟩
  | .mAdcIzx _ => ⟨2, 6⟩
  | .mAdcZp _ => ⟨2, 3⟩
  | .mRorZp _ => ⟨2, 5⟩
  | .mPla => ⟨1, 4⟩
  | .mAdcImm _ => ⟨2, 2⟩
  | .mRorAcc => ⟨1, 2⟩
  | .mJmpInd _ _ => ⟨3, 5⟩
  | .mAdcAbs _ _ => ⟨3, 4⟩
  | .mRorAbs _ _ => ⟨3, 6⟩
  | .mBvs _ => ⟨2, 2⟩
  | .mAdcIzy _ => ⟨2, 5⟩
  | .mAdcZpx _ => ⟨2, 4⟩
  | .mRorZpx _ => ⟨2, 6⟩
  | .mSei => ⟨1, 2⟩
  | .mAdcAby _ _ => ⟨3, 4⟩
  | .mAdcAbx _ _ => ⟨3, 4⟩
  | .mRorAbx _ _ => ⟨3, 7⟩
  | .mStaIzx _ => ⟨2, 6⟩
  | .mStyZp _ => ⟨2, 3⟩
  | .mStaZp _ => ⟨2, 3⟩
  | .mStxZp _ => ⟨2, 3⟩
  | .mDey => ⟨1, 2⟩
  | .mTxa => ⟨1, 2⟩
  | .mStyAbs _ _ => ⟨3, 4⟩
  | .mStaAbs _ _ => ⟨3, 4⟩
  | .mStxAbs _ _ => ⟨3, 4⟩
  | .mBcc _ => ⟨2, 2⟩
  | .mStaIzy _ => ⟨2, 6⟩
  | .mStyZpx _ => ⟨2, 4⟩
  | .mStaZpx _ => ⟨2, 4⟩
  | .mStxZpy _ => ⟨2, 4⟩
  | .mTya => ⟨1, 2⟩
  | .mStaAby _ _ => ⟨3, 5⟩
  | .mTxs => ⟨1, 2⟩
  | .mStaAbx _ _ => ⟨3, 5⟩
  | .mLdyImm _ => ⟨2, 2⟩
  | .mLdaIzx _ => ⟨2, 6⟩
  | .mLdxImm _ => ⟨2, 2⟩
  | .mLdyZp _ => ⟨2, 3⟩
  | .mLdaZp _ => ⟨2, 3⟩
  | .mLdxZp _ => ⟨2, 3⟩
  | .mTay => ⟨1, 2⟩
  | .mLdaImm _ => ⟨2, 2⟩
  | .mTax => ⟨1, 2⟩
  | .mLdyAbs _ _ => ⟨3, 4⟩
  | .mLdaAbs _ _ => ⟨3, 4⟩
  | .mLdxAbs _ _ => ⟨3, 4⟩
  | .mBcs _ => ⟨2, 2⟩
  | .mLdaIzy _ => ⟨2, 5⟩
  | .mLdyZpx _ => ⟨2, 4⟩
  | .mLdaZpx _ => ⟨2, 4⟩
  | .mLdxZpy _ => ⟨2, 4⟩
  | .mClv => ⟨1, 2⟩
  | .mLdaAby _ _ => ⟨3, 4⟩
  | .mTsx => ⟨1, 2⟩
  | .mLdyAbx _ _ => ⟨3, 4⟩
  | .mLdaAbx _ _ => ⟨3, 4⟩
  | .mLdxAby _ _ => ⟨3, 4⟩
  | .mCpyImm _ => ⟨2, 2⟩
  | .mCmpIzx _ => ⟨2, 6⟩
  | .mCpyZp _ => ⟨2, 3⟩
  | .mCmpZp _ => ⟨2, 3⟩
  | .mDecZp _ => ⟨2, 5⟩
  | .mIny => ⟨1, 2⟩
  | .mCmpImm _ => ⟨2, 2⟩
  | .mDex => ⟨1, 2⟩
  | .mCpyAbs _ _ => ⟨3, 4⟩
  | .mCmpAbs _ _ => ⟨3, 4⟩
  | .mDecAbs _ _ => ⟨3, 6⟩
  | .mBne _ => ⟨2, 2⟩
  | .mCmpIzy _ => ⟨2, 5⟩
  | .mCmpZpx _ => ⟨2, 4⟩
  | .mDecZpx _ => ⟨2, 6⟩
  | .mCld => ⟨1, 2⟩
  | .mCmpAby _ _ => ⟨3, 4⟩
  | .mCmpAbx _ _ => ⟨3, 4⟩
  | .mDecAbx _ _ => ⟨3, 7⟩
  | .mCpxImm _ => ⟨2, 2⟩
  | .mSbcIzx _ => ⟨2, 6⟩
  | .mCpxZp _ => ⟨2, 3⟩
  | .mSbcZp _ => ⟨2, 3⟩
  | .mIncZp _ => ⟨2, 5⟩
  | .mInx => ⟨1, 2⟩
  | .mSbcImm _ => ⟨2, 2⟩
  | .mNop => ⟨1, 2⟩
  | .mCpxAbs _ _ => ⟨3, 4⟩
  | .mSbcAbs _ _ => ⟨3, 4⟩
  | .mIncAbs _ _ => ⟨3, 6⟩
  | .mBeq _ => ⟨2, 2⟩
  | .mSbcIzy _ => ⟨2, 5⟩
  | .mSbcZpx _ => ⟨2, 4⟩
  | .mIncZpx _ => ⟨2, 6⟩
  | .mSed => ⟨1, 2⟩
  | .mSbcAby _ _ => ⟨3, 4⟩
  | .mSbcAbx _ _ => ⟨3, 4⟩
  | .mIncAbx _ _ => ⟨3, 7⟩
  | .zNop => ⟨1, 4⟩
  | .zLd_BC_nn _ _ => ⟨3, 10⟩
  | .zLd_atBC_A => ⟨1, 7⟩
  | .zInc_BC => ⟨1, 6⟩
  | .zInc_B => ⟨1, 4⟩
  | .zDec_B => ⟨1, 4⟩
  | .zLd_B_n _ => ⟨2, 7⟩
  | .zRlca => ⟨1, 4⟩
  | .zEx_AF_AFalt => ⟨1, 4⟩
  | .zAdd_HL_BC => ⟨1, 11⟩
  | .zLd_A_atBC => ⟨1, 7⟩
  | .zDec_BC => ⟨1, 6⟩
  | .zInc_C => ⟨1, 4⟩
  | .zDec_C => ⟨1, 4⟩
  | .zLd_C_n _ => ⟨2, 7⟩
  | .zRrca => ⟨1, 4⟩
  | .zDjnz_e _ => ⟨2, 8⟩
  | .zLd_DE_nn _ _ => ⟨3, 10⟩
  | .zLd_atDE_A => ⟨1, 7⟩
  | .zInc_DE => ⟨1, 6⟩
  | .zInc_D => ⟨1, 4⟩
  | .zDec_D => ⟨1, 4⟩
  | .zLd_D_n _ => ⟨2, 7⟩
  | .zRla => ⟨1, 4⟩
  | .zJr_e _ => ⟨2, 12⟩
  | .zAdd_HL_DE => ⟨1, 11⟩
  | .zLd_A_atDE => ⟨1, 7⟩
  | .zDec_DE => ⟨1, 6⟩
  | .zInc_E => ⟨1, 4⟩
  | .zDec_E => ⟨1, 4⟩
  | .zLd_E_n _ => ⟨2, 7⟩
  | .zRra => ⟨1, 4⟩
  | .zJr_NZ_e _ => ⟨2, 7⟩
  | .zLd_HL_nn _ _ => ⟨3, 10⟩
  | .zLd_atnn_HL _ _ => ⟨3, 16⟩
  | .zInc_HL => ⟨1, 6⟩
  | .zInc_H => ⟨1, 4⟩
  | .zDec_H => ⟨1, 4⟩
  | .zLd_H_n _ => ⟨2, 7⟩
  | .zDaa => ⟨1, 4⟩
  | .zJr_Z_e _ => ⟨2, 7⟩
  | .zAdd_HL_HL => ⟨1, 11⟩
  | .zLd_HL_atnn _ _ => ⟨3, 16⟩
  | .zDec_HL => ⟨1, 6⟩
  | .zInc_L => ⟨1, 4⟩
  | .zDec_L => ⟨1, 4⟩
  | .zLd_L_n _ => ⟨2, 7⟩
  | .zCpl => ⟨1, 4⟩
  | .zJr_NC_e _ => ⟨2, 7⟩
  | .zLd_SP_nn _ _ => ⟨3, 10⟩
  | .zLd_atnn_A _ _ => ⟨3, 13⟩
  | .zInc_SP => ⟨1, 6⟩
  | .zInc_atHL => ⟨1, 11⟩
  | .zDec_atHL => ⟨1, 11⟩
  | .zLd_atHL_n _ => ⟨2, 10⟩
  | .zScf => ⟨1, 4⟩
  | .zJr_C_e _ => ⟨2, 7⟩
  | .zAdd_HL_SP => ⟨1, 11⟩
  | .zLd_A_atnn _ _ => ⟨3, 13⟩
  | .zDec_SP => ⟨1, 6⟩
  | .zInc_A => ⟨1, 4⟩
  | .zDec_A => ⟨1, 4⟩
  | .zLd_A_n _ => ⟨2, 7⟩
  | .zCcf => ⟨1, 4⟩
  | .zLd_B_B => ⟨1, 4⟩
  | .zLd_B_C => ⟨1, 4⟩
  | .zLd_B_D => ⟨1, 4⟩
  | .zLd_B_E => ⟨1, 4⟩
  | .zLd_B_H => ⟨1, 4⟩
  | .zLd_B_L => ⟨1, 4⟩
  | .zLd_B_atHL => ⟨1, 7⟩
  | .zLd_B_A => ⟨1, 4⟩
  | .zLd_C_B => ⟨1, 4⟩
  | .zLd_C_C => ⟨1, 4⟩
  | .zLd_C_D => ⟨1, 4⟩
  | .zLd_C_E => ⟨1, 4⟩
  | .zLd_C_H => ⟨1, 4⟩
  | .zLd_C_L => ⟨1, 4⟩
  | .zLd_C_atHL => ⟨1, 7⟩
  | .zLd_C_A => ⟨1, 4⟩
  | .zLd_D_B => ⟨1, 4⟩
  | .zLd_D_C => ⟨1, 4⟩
  | .zLd_D_D => ⟨1, 4⟩
  | .zLd_D_E => ⟨1, 4⟩
  | .zLd_D_H => ⟨1, 4⟩
  | .zLd_D_L => ⟨1, 4⟩
  | .zLd_D_atHL => ⟨1, 7⟩
  | .zLd_D_A => ⟨1, 4⟩
  | .zLd_E_B => ⟨1, 4⟩
  | .zLd_E_C => ⟨1, 4⟩
  | .zLd_E_D => ⟨1, 4⟩
  | .zLd_E_E => ⟨1, 4⟩
  | .zLd_E_H => ⟨1, 4⟩
  | .zLd_E_L => ⟨1, 4⟩
  | .zLd_E_atHL => ⟨1, 7⟩
  | .zLd_E_A => ⟨1, 4⟩
  | .zLd_H_B => ⟨1, 4⟩
  | .zLd_H_C => ⟨1, 4⟩
  | .zLd_H_D => ⟨1, 4⟩
  | .zLd_H_E => ⟨1, 4⟩
  | .zLd_H_H => ⟨1, 4⟩
  | .zLd_H_L => ⟨1, 4⟩
  | .zLd_H_atHL => ⟨1, 7⟩
  | .zLd_H_A => ⟨1, 4⟩
  | .zLd_L_B => ⟨1, 4⟩
  | .zLd_L_C => ⟨1, 4⟩
  | .zLd_L_D => ⟨1, 4⟩
  | .zLd_L_E => ⟨1, 4⟩
  | .zLd_L_H => ⟨1, 4⟩
  | .zLd_L_L => ⟨1, 4⟩
  | .zLd_L_atHL => ⟨1, 7⟩
  | .zLd_L_A => ⟨1, 4⟩
  | .zLd_atHL_B => ⟨1, 7⟩
  | .zLd_atHL_C => ⟨1, 7⟩
  | .zLd_atHL_D => ⟨1, 7⟩
  | .zLd_atHL_E => ⟨1, 7⟩
  | .zLd_atHL_H => ⟨1, 7⟩
  | .zLd_atHL_L => ⟨1, 7⟩
  | .zHalt => ⟨1, 4⟩
  | .zLd_atHL_A => ⟨1, 7⟩
  | .zLd_A_B => ⟨1, 4⟩
  | .zLd_A_C => ⟨1, 4⟩
  | .zLd_A_D => ⟨1, 4⟩
  | .zLd_A_E => ⟨1, 4⟩
  | .zLd_A_H => ⟨1, 4⟩
  | .zLd_A_L => ⟨1, 4⟩
  | .zLd_A_atHL => ⟨1, 7⟩
  | .zLd_A_A => ⟨1, 4⟩
  | .zAdd_A_B => ⟨1, 4⟩
  | .zAdd_A_C => ⟨1, 4⟩
  | .zAdd_A_D => ⟨1, 4⟩
  | .zAdd_A_E => ⟨1, 4⟩
  | .zAdd_A_H => ⟨1, 4⟩
  | .zAdd_A_L => ⟨1, 4⟩
  | .zAdd_A_atHL => ⟨1, 7⟩
  | .zAdd_A_A => ⟨1, 4⟩
  | .zAdc_A_B => ⟨1, 4⟩
  | .zAdc_A_C => ⟨1, 4⟩
  | .zAdc_A_D => ⟨1, 4⟩
  | .zAdc_A_E => ⟨1, 4⟩
  | .zAdc_A_H => ⟨1, 4⟩
  | .zAdc_A_L => ⟨1, 4⟩
  | .zAdc_A_atHL => ⟨1, 7⟩
  | .zAdc_A_A => ⟨1, 4⟩
  | .zSub_B => ⟨1, 4⟩
  | .zSub_C => ⟨1, 4⟩
  | .zSub_D => ⟨1, 4⟩
  | .zSub_E => ⟨1, 4⟩
  | .zSub_H => ⟨1, 4⟩
  | .zSub_L => ⟨1, 4⟩
  | .zSub_atHL => ⟨1, 7⟩
  | .zSub_A => ⟨1, 4⟩
  | .zSbc_A_B => ⟨1, 4⟩
  | .zSbc_A_C => ⟨1, 4⟩
  | .zSbc_A_D => ⟨1, 4⟩
  | .zSbc_A_E => ⟨1, 4⟩
  | .zSbc_A_H => ⟨1, 4⟩
  | .zSbc_A_L => ⟨1, 4⟩
  | .zSbc_A_atHL => ⟨1, 7⟩
  | .zSbc_A_A => ⟨1, 4⟩
  | .zAnd_B => ⟨1, 4⟩
  | .zAnd_C => ⟨1, 4⟩
  | .zAnd_D => ⟨1, 4⟩
  | .zAnd_E => ⟨1, 4⟩
  | .zAnd_H => ⟨1, 4⟩
  | .zAnd_L => ⟨1, 4⟩
  | .zAnd_atHL => ⟨1, 7⟩
  | .zAnd_A => ⟨1, 4⟩
  | .zXor_B => ⟨1, 4⟩
  | .zXor_C => ⟨1, 4⟩
  | .zXor_D => ⟨1, 4⟩
  | .zXor_E => ⟨1, 4⟩
  | .zXor_H => ⟨1, 4⟩
  | .zXor_L => ⟨1, 4⟩
  | .zXor_atHL => ⟨1, 7⟩
  | .zXor_A => ⟨1, 4⟩
  | .zOr_B => ⟨1, 4⟩
  | .zOr_C => ⟨1, 4⟩
  | .zOr_D => ⟨1, 4⟩
  | .zOr_E => ⟨1, 4⟩
  | .zOr_H => ⟨1, 4⟩
  | .zOr_L => ⟨1, 4⟩
  | .zOr_atHL => ⟨1, 7⟩
  | .zOr_A => ⟨1, 4⟩
  | .zCp_B => ⟨1, 4⟩
  | .zCp_C => ⟨1, 4⟩
  | .zCp_D => ⟨1, 4⟩
  | .zCp_E => ⟨1, 4⟩
  | .zCp_H => ⟨1, 4⟩
  | .zCp_L => ⟨1, 4⟩
  | .zCp_atHL => ⟨1, 7⟩
  | .zCp_A => ⟨1, 4⟩
  | .zRet_NZ => ⟨1, 5⟩
  | .zPop_BC => ⟨1, 10⟩
  | .zJp_NZ_nn _ _ => ⟨3, 10⟩
  | .zJp_nn _ _ => ⟨3, 10⟩
  | .zCall_NZ_nn _ _ => ⟨3, 10⟩
  | .zPush_BC => ⟨1, 11⟩
  | .zAdd_A_n _ => ⟨2, 7⟩
  | .zRst_00H => ⟨1, 11⟩
  | .zRet_Z => ⟨1, 5⟩
  | .zRet => ⟨1, 10⟩
  | .zJp_Z_nn _ _ => ⟨3, 10⟩
  | .zCall_Z_nn _ _ => ⟨3, 10⟩
  | .zCall_nn _ _ => ⟨3, 17⟩
  | .zAdc_A_n _ => ⟨2, 7⟩
  | .zRst_08H => ⟨1, 11⟩
  | .zRet_NC => ⟨1, 5⟩
  | .zPop_DE => ⟨1, 10⟩
  | .zJp_NC_nn _ _ => ⟨3, 10⟩
  | .zOut_atn_A _ => ⟨2, 11⟩
  | .zCall_NC_nn _ _ => ⟨3, 10⟩
  | .zPush_DE => ⟨1, 11⟩
  | .zSub_n _ => ⟨2, 7⟩
  | .zRst_10H => ⟨1, 11⟩
  | .zRet_C => ⟨1, 5⟩
  | .zExx => ⟨1, 4⟩
  | .zJp_C_nn _ _ => ⟨3, 10⟩
  | .zIn_A_atn _ => ⟨2, 11⟩
  | .zCall_C_nn _ _ => ⟨3, 10⟩
  | .zSbc_A_n _ => ⟨2, 7⟩
  | .zRst_18H => ⟨1, 11⟩
  | .zRet_PO => ⟨1, 5⟩
  | .zPop_HL => ⟨1, 10⟩
  | .zJp_PO_nn _ _ => ⟨3, 10⟩
  | .zEx_atSP_HL => ⟨1, 19⟩
  | .zCall_PO_nn _ _ => ⟨3, 10⟩
  | .zPush_HL => ⟨1, 11⟩
  | .zAnd_n _ => ⟨2, 7⟩
  | .zRst_20H => ⟨1, 11⟩
  | .zRet_PE => ⟨1, 5⟩
  | .zJp_atHL => ⟨1, 4⟩
  | .zJp_PE_nn _ _ => ⟨3, 10⟩
  | .zEx_DE_HL => ⟨1, 4⟩
  | .zCall_PE_nn _ _ => ⟨3, 10⟩
  | .zXor_n _ => ⟨2, 7⟩
  | .zRst_28H => ⟨1, 11⟩
  | .zRet_P => ⟨1, 5⟩
  | .zPop_AF => ⟨1, 10⟩
  | .zJp_P_nn _ _ => ⟨3, 10⟩
  | .zDi => ⟨1, 4⟩
  | .zCall_P_nn _ _ => ⟨3, 10⟩
  | .zPush_AF => ⟨1, 11⟩
  | .zOr_n _ => ⟨2, 7⟩
  | .zRst_30H => ⟨1, 11⟩
  | .zRet_M => ⟨1, 5⟩
  | .zLd_SP_HL => ⟨1, 6⟩
  | .zJp_M_nn _ _ => ⟨3, 10⟩
  | .zEi => ⟨1, 4⟩
  | .zCall_M_nn _ _ => ⟨3, 10⟩
  | .zCp_n _ => ⟨2, 7⟩
  | .zRst_38H => ⟨1, 11⟩
  | .zRlc_B => ⟨2, 8⟩
  | .zRlc_C => ⟨2, 8⟩
  | .zRlc_D => ⟨2, 8⟩
  | .zRlc_E => ⟨2, 8⟩
  | .zRlc_H => ⟨2, 8⟩
  | .zRlc_L => ⟨2, 8⟩
  | .zRlc_atHL => ⟨2, 15⟩
  | .zRlc_A => ⟨2, 8⟩
  | .zRrc_B => ⟨2, 8⟩
  | .zRrc_C => ⟨2, 8⟩
  | .zRrc_D => ⟨2, 8⟩
  | .zRrc_E => ⟨2, 8⟩
  | .zRrc_H => ⟨2, 8⟩
  | .zRrc_L => ⟨2, 8⟩
  | .zRrc_atHL => ⟨2, 15⟩
  | .zRrc_A => ⟨2, 8⟩
  | .zRl_B => ⟨2, 8⟩
  | .zRl_C => ⟨2, 8⟩
  | .zRl_D => ⟨2, 8⟩
  | .zRl_E => ⟨2, 8⟩
  | .zRl_H => ⟨2, 8⟩
  | .zRl_L => ⟨2, 8⟩
  | .zRl_atHL => ⟨2, 15⟩
  | .zRl_A => ⟨2, 8⟩
  | .zRr_B => ⟨2, 8⟩
  | .zRr_C => ⟨2, 8⟩
  | .zRr_D => ⟨2, 8⟩
  | .zRr_E => ⟨2, 8⟩
  | .zRr_H => ⟨2, 8⟩
  | .zRr_L => ⟨2, 8⟩
  | .zRr_atHL => ⟨2, 15⟩
  | .zRr_A => ⟨2, 8⟩
  | .zSla_B => ⟨2, 8⟩
  | .zSla_C => ⟨2, 8⟩
  | .zSla_D => ⟨2, 8⟩
  | .zSla_E => ⟨2, 8⟩
  | .zSla_H => ⟨2, 8⟩
  | .zSla_L => ⟨2, 8⟩
  | .zSla_atHL => ⟨2, 15⟩
  | .zSla_A => ⟨2, 8⟩
  | .zSra_B => ⟨2, 8⟩
  | .zSra_C => ⟨2, 8⟩
  | .zSra_D => ⟨2, 8⟩
  | .zSra_E => ⟨2, 8⟩
  | .zSra_H => ⟨2, 8⟩
  | .zSra_L => ⟨2, 8⟩
  | .zSra_atHL => ⟨2, 15⟩
  | .zSra_A => ⟨2, 8⟩
  | .zSrl_B => ⟨2, 8⟩
  | .zSrl_C => ⟨2, 8⟩
  | .zSrl_D => ⟨2, 8⟩
  | .zSrl_E => ⟨2, 8⟩
  | .zSrl_H => ⟨2, 8⟩
  | .zSrl_L => ⟨2, 8⟩
  | .zSrl_atHL => ⟨2, 15⟩
  | .zSrl_A => ⟨2, 8⟩
  | .zBit_0_B => ⟨2, 8⟩
  | .zBit_0_C => ⟨2, 8⟩
  | .zBit_0_D => ⟨2, 8⟩
  | .zBit_0_E => ⟨2, 8⟩
  | .zBit_0_H => ⟨2, 8⟩
  | .zBit_0_L => ⟨2, 8⟩
  | .zBit_0_atHL => ⟨2, 12⟩
  | .zBit_0_A => ⟨2, 8⟩
  | .zBit_1_B => ⟨2, 8⟩
  | .zBit_1_C => ⟨2, 8⟩
  | .zBit_1_D => ⟨2, 8⟩
  | .zBit_1_E => ⟨2, 8⟩
  | .zBit_1_H => ⟨2, 8⟩
  | .zBit_1_L => ⟨2, 8⟩
  | .zBit_1_atHL => ⟨2, 12⟩
  | .zBit_1_A => ⟨2, 8⟩
  | .zBit_2_B => ⟨2, 8⟩
  | .zBit_2_C => ⟨2, 8⟩
  | .zBit_2_D => ⟨2, 8⟩
  | .zBit_2_E => ⟨2, 8⟩
  | .zBit_2_H => ⟨2, 8⟩
  | .zBit_2_L => ⟨2, 8⟩
  | .zBit_2_atHL => ⟨2, 12⟩
  | .zBit_2_A => ⟨2, 8⟩
  | .zBit_3_B => ⟨2, 8⟩
  | .zBit_3_C => ⟨2, 8⟩
  | .zBit_3_D => ⟨2, 8⟩
  | .zBit_3_E => ⟨2, 8⟩
  | .zBit_3_H => ⟨2, 8⟩
  | .zBit_3_L => ⟨2, 8⟩
  | .zBit_3_atHL => ⟨2, 12⟩
  | .zBit_3_A => ⟨2, 8⟩
  | .zBit_4_B => ⟨2, 8⟩
  | .zBit_4_C => ⟨2, 8⟩
  | .zBit_4_D => ⟨2, 8⟩
  | .zBit_4_E => ⟨2, 8⟩
  | .zBit_4_H => ⟨2, 8⟩
  | .zBit_4_L => ⟨2, 8⟩
  | .zBit_4_atHL => ⟨2, 12⟩
  | .zBit_4_A => ⟨2, 8⟩
  | .zBit_5_B => ⟨2, 8⟩
  | .zBit_5_C => ⟨2, 8⟩
  | .zBit_5_D => ⟨2, 8⟩
  | .zBit_5_E => ⟨2, 8⟩
  | .zBit_5_H => ⟨2, 8⟩
  | .zBit_5_L => ⟨2, 8⟩
  | .zBit_5_atHL => ⟨2, 12⟩
  | .zBit_5_A => ⟨2, 8⟩
  | .zBit_6_B => ⟨2, 8⟩
  | .zBit_6_C => ⟨2, 8⟩
  | .zBit_6_D => ⟨2, 8⟩
  | .zBit_6_E => ⟨2, 8⟩
  | .zBit_6_H => ⟨2, 8⟩
  | .zBit_6_L => ⟨2, 8⟩
  | .zBit_6_atHL => ⟨2, 12⟩
  | .zBit_6_A => ⟨2, 8⟩
  | .zBit_7_B => ⟨2, 8⟩
  | .zBit_7_C => ⟨2, 8⟩
  | .zBit_7_D => ⟨2, 8⟩
  | .zBit_7_E => ⟨2, 8⟩
  | .zBit_7_H => ⟨2, 8⟩
  | .zBit_7_L => ⟨2, 8⟩
  | .zBit_7_atHL => ⟨2, 12⟩
  | .zBit_7_A => ⟨2, 8⟩
  | .zRes_0_B => ⟨2, 8⟩
  | .zRes_0_C => ⟨2, 8⟩
  | .zRes_0_D => ⟨2, 8⟩
  | .zRes_0_E => ⟨2, 8⟩
  | .zRes_0_H => ⟨2, 8⟩
  | .zRes_0_L => ⟨2, 8⟩
  | .zRes_0_atHL => ⟨2, 15⟩
  | .zRes_0_A => ⟨2, 8⟩
  | .zRes_1_B => ⟨2, 8⟩
  | .zRes_1_C => ⟨2, 8⟩
  | .zRes_1_D => ⟨2, 8⟩
  | .zRes_1_E => ⟨2, 8⟩
  | .zRes_1_H => ⟨2, 8⟩
  | .zRes_1_L => ⟨2, 8⟩
  | .zRes_1_atHL => ⟨2, 15⟩
  | .zRes_1_A => ⟨2, 8⟩
  | .zRes_2_B => ⟨2, 8⟩
  | .zRes_2_C => ⟨2, 8⟩
  | .zRes_2_D => ⟨2, 8⟩
  | .zRes_2_E => ⟨2, 8⟩
  | .zRes_2_H => ⟨2, 8⟩
  | .zRes_2_L => ⟨2, 8⟩
  | .zRes_2_atHL => ⟨2, 15⟩
  | .zRes_2_A => ⟨2, 8⟩
  | .zRes_3_B => ⟨2, 8⟩
  | .zRes_3_C => ⟨2, 8⟩
  | .zRes_3_D => ⟨2, 8⟩
  | .zRes_3_E => ⟨2, 8⟩
  | .zRes_3_H => ⟨2, 8⟩
  | .zRes_3_L => ⟨2, 8⟩
  | .zRes_3_atHL => ⟨2, 15⟩
  | .zRes_3_A => ⟨2, 8⟩
  | .zRes_4_B => ⟨2, 8⟩
  | .zRes_4_C => ⟨2, 8⟩
  | .zRes_4_D => ⟨2, 8⟩
  | .zRes_4_E => ⟨2, 8⟩
  | .zRes_4_H => ⟨2, 8⟩
  | .zRes_4_L => ⟨2, 8⟩
  | .zRes_4_atHL => ⟨2, 15⟩
  | .zRes_4_A => ⟨2, 8⟩
  | .zRes_5_B => ⟨2, 8⟩
  | .zRes_5_C => ⟨2, 8⟩
  | .zRes_5_D => ⟨2, 8⟩
  | .zRes_5_E => ⟨2, 8⟩
  | .zRes_5_H => ⟨2, 8⟩
  | .zRes_5_L => ⟨2, 8⟩
  | .zRes_5_atHL => ⟨2, 15⟩
  | .zRes_5_A => ⟨2, 8⟩
  | .zRes_6_B => ⟨2, 8⟩
  | .zRes_6_C => ⟨2, 8⟩
  | .zRes_6_D => ⟨2, 8⟩
  | .zRes_6_E => ⟨2, 8⟩
  | .zRes_6_H => ⟨2, 8⟩
  | .zRes_6_L => ⟨2, 8⟩
  | .zRes_6_atHL => ⟨2, 15⟩
  | .zRes_6_A => ⟨2, 8⟩
  | .zRes_7_B => ⟨2, 8⟩
  | .zRes_7_C => ⟨2, 8⟩
  | .zRes_7_D => ⟨2, 8⟩
  | .zRes_7_E => ⟨2, 8⟩
  | .zRes_7_H => ⟨2, 8⟩
  | .zRes_7_L => ⟨2, 8⟩
  | .zRes_7_atHL => ⟨2, 15⟩
  | .zRes_7_A => ⟨2, 8⟩
  | .zSet_0_B => ⟨2, 8⟩
  | .zSet_0_C => ⟨2, 8⟩
  | .zSet_0_D => ⟨2, 8⟩
  | .zSet_0_E => ⟨2, 8⟩
  | .zSet_0_H => ⟨2, 8⟩
  | .zSet_0_L => ⟨2, 8⟩
  | .zSet_0_atHL => ⟨2, 15⟩
  | .zSet_0_A => ⟨2, 8⟩
  | .zSet_1_B => ⟨2, 8⟩
  | .zSet_1_C => ⟨2, 8⟩
  | .zSet_1_D => ⟨2, 8⟩
  | .zSet_1_E => ⟨2, 8⟩
  | .zSet_1_H => ⟨2, 8⟩
  | .zSet_1_L => ⟨2, 8⟩
  | .zSet_1_atHL => ⟨2, 15⟩
  | .zSet_1_A => ⟨2, 8⟩
  | .zSet_2_B => ⟨2, 8⟩
  | .zSet_2_C => ⟨2, 8⟩
  | .zSet_2_D => ⟨2, 8⟩
  | .zSet_2_E => ⟨2, 8⟩
  | .zSet_2_H => ⟨2, 8⟩
  | .zSet_2_L => ⟨2, 8⟩
  | .zSet_2_atHL => ⟨2, 15⟩
  | .zSet_2_A => ⟨2, 8⟩
  | .zSet_3_B => ⟨2, 8⟩
  | .zSet_3_C => ⟨2, 8⟩
  | .zSet_3_D => ⟨2, 8⟩
  | .zSet_3_E => ⟨2, 8⟩
  | .zSet_3_H => ⟨2, 8⟩
  | .zSet_3_L => ⟨2, 8⟩
  | .zSet_3_atHL => ⟨2, 15⟩
  | .zSet_3_A => ⟨2, 8⟩
  | .zSet_4_B => ⟨2, 8⟩
  | .zSet_4_C => ⟨2, 8⟩
  | .zSet_4_D => ⟨2, 8⟩
  | .zSet_4_E => ⟨2, 8⟩
  | .zSet_4_H => ⟨2, 8⟩
  | .zSet_4_L => ⟨2, 8⟩
  | .zSet_4_atHL => ⟨2, 15⟩
  | .zSet_4_A => ⟨2, 8⟩
  | .zSet_5_B => ⟨2, 8⟩
  | .zSet_5_C => ⟨2, 8⟩
  | .zSet_5_D => ⟨2, 8⟩
  | .zSet_5_E => ⟨2, 8⟩
  | .zSet_5_H => ⟨2, 8⟩
  | .zSet_5_L => ⟨2, 8⟩
  | .zSet_5_atHL => ⟨2, 15⟩
  | .zSet_5_A => ⟨2, 8⟩
  | .zSet_6_B => ⟨2, 8⟩
  | .zSet_6_C => ⟨2, 8⟩
  | .zSet_6_D => ⟨2, 8⟩
  | .zSet_6_E => ⟨2, 8⟩
  | .zSet_6_H => ⟨2, 8⟩
  | .zSet_6_L => ⟨2, 8⟩
  | .zSet_6_atHL => ⟨2, 15⟩
  | .zSet_6_A => ⟨2, 8⟩
  | .zSet_7_B => ⟨2, 8⟩
  | .zSet_7_C => ⟨2, 8⟩
  | .zSet_7_D => ⟨2, 8⟩
  | .zSet_7_E => ⟨2, 8⟩
  | .zSet_7_H => ⟨2, 8⟩
  | .zSet_7_L => ⟨2, 8⟩
  | .zSet_7_atHL => ⟨2, 15⟩
  | .zSet_7_A => ⟨2, 8⟩
  | .zIn_B_atC => ⟨2, 12⟩
  | .zOut_atC_B => ⟨2, 12⟩
  | .zIn_C_atC => ⟨2, 12⟩
  | .zOut_atC_C => ⟨2, 12⟩
  | .zIn_D_atC => ⟨2, 12⟩
  | .zOut_atC_D => ⟨2, 12⟩
  | .zIn_E_atC => ⟨2, 12⟩
  | .zOut_atC_E => ⟨2, 12⟩
  | .zIn_H_atC => ⟨2, 12⟩
  | .zOut_atC_H => ⟨2, 12⟩
  | .zIn_L_atC => ⟨2, 12⟩
  | .zOut_atC_L => ⟨2, 12⟩
  | .zIn_A_atC => ⟨2, 12⟩
  | .zOut_atC_A => ⟨2, 12⟩
  | .zSbc_HL_BC => ⟨2, 15⟩
  | .zAdc_HL_BC => ⟨2, 15⟩
  | .zLd_atnn_BC _ _ => ⟨4, 20⟩
  | .zLd_BC_atnn _ _ => ⟨4, 20⟩
  | .zSbc_HL_DE => ⟨2, 15⟩
  | .zAdc_HL_DE => ⟨2, 15⟩
  | .zLd_atnn_DE _ _ => ⟨4, 20⟩
  | .zLd_DE_atnn _ _ => ⟨4, 20⟩
  | .zSbc_HL_HL => ⟨2, 15⟩
  | .zAdc_HL_HL => ⟨2, 15⟩
  | .zLdEd_atnn_HL _ _ => ⟨4, 20⟩
  | .zLdEd_HL_atnn _ _ => ⟨4, 20⟩
  | .zSbc_HL_SP => ⟨2, 15⟩
  | .zAdc_HL_SP => ⟨2, 15⟩
  | .zLd_atnn_SP _ _ => ⟨4, 20⟩
  | .zLd_SP_atnn _ _ => ⟨4, 20⟩
  | .zNeg => ⟨2, 8⟩
  | .zRetn => ⟨2, 14⟩
  | .zReti => ⟨2, 14⟩
  | .zIm_0 => ⟨2, 8⟩
  | .zIm_1 => ⟨2, 8⟩
  | .zIm_2 => ⟨2, 8⟩
  | .zLd_I_A => ⟨2, 9⟩
  | .zLd_R_A => ⟨2, 9⟩
  | .zLd_A_I => ⟨2, 9⟩
  | .zLd_A_R => ⟨2, 9⟩
  | .zRrd => ⟨2, 18⟩
  | .zRld => ⟨2, 18⟩
  | .zLdi => ⟨2, 16⟩
  | .zCpi => ⟨2, 16⟩
  | .zIni => ⟨2, 16⟩
  | .zOuti => ⟨2, 16⟩
  | .zLdd => ⟨2, 16⟩
  | .zCpd => ⟨2, 16⟩
  | .zInd => ⟨2, 16⟩
  | .zOutd => ⟨2, 16⟩
  | .zLdir => ⟨2, 16⟩
  | .zCpir => ⟨2, 16⟩
  | .zInir => ⟨2, 16⟩
  | .zOtir => ⟨2, 16⟩
  | .zLddr => ⟨2, 16⟩
  | .zCpdr => ⟨2, 16⟩
  | .zIndr => ⟨2, 16⟩
  | .zOtdr => ⟨2, 16⟩
  | .zAdd_IX_BC => ⟨2, 15⟩
  | .zAdd_IX_DE => ⟨2, 15⟩
  | .zAdd_IX_IX => ⟨2, 15⟩
  | .zAdd_IX_SP => ⟨2, 15⟩
  | .zLd_IX_nn _ _ => ⟨4, 14⟩
  | .zLd_atnn_IX _ _ => ⟨4, 20⟩
  | .zInc_IX => ⟨2, 10⟩
  | .zLd_IX_atnn _ _ => ⟨4, 20⟩
  | .zDec_IX => ⟨2, 10⟩
  | .zInc_atIXd _ => ⟨3, 23⟩
  | .zDec_atIXd _ => ⟨3, 23⟩
  | .zLd_atIXd_n _ _ => ⟨4, 19⟩
  | .zLd_B_atIXd _ => ⟨3, 19⟩
  | .zLd_C_atIXd _ => ⟨3, 19⟩
  | .zLd_D_atIXd _ => ⟨3, 19⟩
  | .zLd_E_atIXd _ => ⟨3, 19⟩
  | .zLd_H_atIXd _ => ⟨3, 19⟩
  | .zLd_L_atIXd _ => ⟨3, 19⟩
  | .zLd_A_atIXd _ => ⟨3, 19⟩
  | .zLd_atIXd_B _ => ⟨3, 19⟩
  | .zLd_atIXd_C _ => ⟨3, 19⟩
  | .zLd_atIXd_D _ => ⟨3, 19⟩
  | .zLd_atIXd_E _ => ⟨3, 19⟩
  | .zLd_atIXd_H _ => ⟨3, 19⟩
  | .zLd_atIXd_L _ => ⟨3, 19⟩
  | .zLd_atIXd_A _ => ⟨3, 19⟩
  | .zAdd_A_atIXd _ => ⟨3, 19⟩
  | .zAdc_A_atIXd _ => ⟨3, 19⟩
  | .zSub_atIXd _ => ⟨3, 19⟩
  | .zSbc_A_atIXd _ => ⟨3, 19⟩
  | .zAnd_atIXd _ => ⟨3, 19⟩
  | .zXor_atIXd _ => ⟨3, 19⟩
  | .zOr_atIXd _ => ⟨3, 19⟩
  | .zCp_atIXd _ => ⟨3, 19⟩
  | .zPop_IX => ⟨2, 14⟩
  | .zEx_atSP_IX => ⟨2, 23⟩
  | .zPush_IX => ⟨2, 15⟩
  | .zJp_atIX => ⟨2, 8⟩
  | .zLd_SP_IX => ⟨2, 10⟩
  | .zRlc_atIXd _ => ⟨4, 23⟩
  | .zRrc_atIXd _ => ⟨4, 23⟩
  | .zRl_atIXd _ => ⟨4, 23⟩
  | .zRr_atIXd _ => ⟨4, 23⟩
  | .zSla_atIXd _ => ⟨4, 23⟩
  | .zSra_atIXd _ => ⟨4, 23⟩
  | .zSrl_atIXd _ => ⟨4, 23⟩
  | .zBit_0_atIXd _ => ⟨4, 20⟩
  | .zBit_1_atIXd _ => ⟨4, 20⟩
  | .zBit_2_atIXd _ => ⟨4, 20⟩
  | .zBit_3_atIXd _ => ⟨4, 20⟩
  | .zBit_4_atIXd _ => ⟨4, 20⟩
  | .zBit_5_atIXd _ => ⟨4, 20⟩
  | .zBit_6_atIXd _ => ⟨4, 20⟩
  | .zBit_7_atIXd _ => ⟨4, 20⟩
  | .zRes_0_atIXd _ => ⟨4, 23⟩
  | .zRes_1_atIXd _ => ⟨4, 23⟩
  | .zRes_2_atIXd _ => ⟨4, 23⟩
  | .zRes_3_atIXd _ => ⟨4, 23⟩
  | .zRes_4_atIXd _ => ⟨4, 23⟩
  | .zRes_5_atIXd _ => ⟨4, 23⟩
  | .zRes_6_atIXd _ => ⟨4, 23⟩
  | .zRes_7_atIXd _ => ⟨4, 23⟩
  | .zSet_0_atIXd _ => ⟨4, 23⟩
  | .zSet_1_atIXd _ => ⟨4, 23⟩
  | .zSet_2_atIXd _ => ⟨4, 23⟩
  | .zSet_3_atIXd _ => ⟨4, 23⟩
  | .zSet_4_atIXd _ => ⟨4, 23⟩
  | .zSet_5_atIXd _ => ⟨4, 23⟩
  | .zSet_6_atIXd _ => ⟨4, 23⟩
  | .zSet_7_atIXd _ => ⟨4, 23⟩
  | .zAdd_IY_BC => ⟨2, 15⟩
  | .zAdd_IY_DE => ⟨2, 15⟩
  | .zAdd_IY_IY => ⟨2, 15⟩
  | .zAdd_IY_SP => ⟨2, 15⟩
  | .zLd_IY_nn _ _ => ⟨4, 14⟩
  | .zLd_atnn_IY _ _ => ⟨4, 20⟩
  | .zInc_IY => ⟨2, 10⟩
  | .zLd_IY_atnn _ _ => ⟨4, 20⟩
  | .zDec_IY => ⟨2, 10⟩
  | .zInc_atIYd _ => ⟨3, 23⟩
  | .zDec_atIYd _ => ⟨3, 23⟩
  | .zLd_atIYd_n _ _ => ⟨4, 19⟩
  | .zLd_B_atIYd _ => ⟨3, 19⟩
  | .zLd_C_atIYd _ => ⟨3, 19⟩
  | .zLd_D_atIYd _ => ⟨3, 19⟩
  | .zLd_E_atIYd _ => ⟨3, 19⟩
  | .zLd_H_atIYd _ => ⟨3, 19⟩
  | .zLd_L_atIYd _ => ⟨3, 19⟩
  | .zLd_A_atIYd _ => ⟨3, 19⟩
  | .zLd_atIYd_B _ => ⟨3, 19⟩
  | .zLd_atIYd_C _ => ⟨3, 19⟩
  | .zLd_atIYd_D _ => ⟨3, 19⟩
  | .zLd_atIYd_E _ => ⟨3, 19⟩
  | .zLd_atIYd_H _ => ⟨3, 19⟩
  | .zLd_atIYd_L _ => ⟨3, 19⟩
  | .zLd_atIYd_A _ => ⟨3, 19⟩
  | .zAdd_A_atIYd _ => ⟨3, 19⟩
  | .zAdc_A_atIYd _ => ⟨3, 19⟩
  | .zSub_atIYd _ => ⟨3, 19⟩
  | .zSbc_A_atIYd _ => ⟨3, 19⟩
  | .zAnd_atIYd _ => ⟨3, 19⟩
  | .zXor_atIYd _ => ⟨3, 19⟩
  | .zOr_atIYd _ => ⟨3, 19⟩
  | .zCp_atIYd _ => ⟨3, 19⟩
  | .zPop_IY => ⟨2, 14⟩
  | .zEx_atSP_IY => ⟨2, 23⟩
  | .zPush_IY => ⟨2, 15⟩
  | .zJp_atIY => ⟨2, 8⟩
  | .zLd_SP_IY => ⟨2, 10⟩
  | .zRlc_atIYd _ => ⟨4, 23⟩
  | .zRrc_atIYd _ => ⟨4, 23⟩
  | .zRl_atIYd _ => ⟨4, 23⟩
  | .zRr_atIYd _ => ⟨4, 23⟩
  | .zSla_atIYd _ => ⟨4, 23⟩
  | .zSra_atIYd _ => ⟨4, 23⟩
  | .zSrl_atIYd _ => ⟨4, 23⟩
  | .zBit_0_atIYd _ => ⟨4, 20⟩
  | .zBit_1_atIYd _ => ⟨4, 20⟩
  | .zBit_2_atIYd _ => ⟨4, 20⟩
  | .zBit_3_atIYd _ => ⟨4, 20⟩
  | .zBit_4_atIYd _ => ⟨4, 20⟩
  | .zBit_5_atIYd _ => ⟨4, 20⟩
  | .zBit_6_atIYd _ => ⟨4, 20⟩
  | .zBit_7_atIYd _ => ⟨4, 20⟩
  | .zRes_0_atIYd _ => ⟨4, 23⟩
  | .zRes_1_atIYd _ => ⟨4, 23⟩
  | .zRes_2_atIYd _ => ⟨4, 23⟩
  | .zRes_3_atIYd _ => ⟨4, 23⟩
  | .zRes_4_atIYd _ => ⟨4, 23⟩
  | .zRes_5_atIYd _ => ⟨4, 23⟩
  | .zRes_6_atIYd _ => ⟨4, 23⟩
  | .zRes_7_atIYd _ => ⟨4, 23⟩
  | .zSet_0_atIYd _ => ⟨4, 23⟩
  | .zSet_1_atIYd _ => ⟨4, 23⟩
  | .zSet_2_atIYd _ => ⟨4, 23⟩
  | .zSet_3_atIYd _ => ⟨4, 23⟩
  | .zSet_4_atIYd _ => ⟨4, 23⟩
  | .zSet_5_atIYd _ => ⟨4, 23⟩
  | .zSet_6_atIYd _ => ⟨4, 23⟩
  | .zSet_7_atIYd _ => ⟨4, 23⟩

end Sys2Proof
end

