-- ==== Sys2Proof/Safety.lean ====
section
/-! DEFINITION. The terms statements are made in: what an instruction finds before its body (R153), the operands and results
of the instruction rules in the spec's own arithmetic, the bytes an instruction stores to, and the invariants of memory and
of the chips. Nothing of the machine rests on this file. -/

namespace Sys2Proof

/-! ### The encodings, as the spec lists them -/

/-- The 105 illegal opcode bytes of the M6502, row by row of R126. -/
def illegalM6502 : List Byte :=
  [0x02, 0x03, 0x04, 0x07, 0x0B, 0x0C, 0x0F, 0x12, 0x13, 0x14, 0x17, 0x1A, 0x1B, 0x1C, 0x1F]
    ++ [0x22, 0x23, 0x27, 0x2B, 0x2F, 0x32, 0x33, 0x34, 0x37, 0x3A, 0x3B, 0x3C, 0x3F]
    ++ [0x42, 0x43, 0x44, 0x47, 0x4B, 0x4F, 0x52, 0x53, 0x54, 0x57, 0x5A, 0x5B, 0x5C, 0x5F]
    ++ [0x62, 0x63, 0x64, 0x67, 0x6B, 0x6F, 0x72, 0x73, 0x74, 0x77, 0x7A, 0x7B, 0x7C, 0x7F]
    ++ [0x80, 0x82, 0x83, 0x87, 0x89, 0x8B, 0x8F, 0x92, 0x93, 0x97, 0x9B, 0x9C, 0x9E, 0x9F]
    ++ [0xA3, 0xA7, 0xAB, 0xAF, 0xB2, 0xB3, 0xB7, 0xBB, 0xBF]
    ++ [0xC2, 0xC3, 0xC7, 0xCB, 0xCF, 0xD2, 0xD3, 0xD4, 0xD7, 0xDA, 0xDB, 0xDC, 0xDF]
    ++ [0xE2, 0xE3, 0xE7, 0xEB, 0xEF, 0xF2, 0xF3, 0xF4, 0xF7, 0xFA, 0xFB, 0xFC, 0xFF]

/-- The 58 second bytes defined after `ED` (R134), in the order of its table. -/
def definedEd : List Byte :=
  [0x40, 0x48, 0x50, 0x58, 0x60, 0x68, 0x78] ++ [0x41, 0x49, 0x51, 0x59, 0x61, 0x69, 0x79]
    ++ [0x42, 0x52, 0x62, 0x72, 0x4A, 0x5A, 0x6A, 0x7A] ++ [0x43, 0x53, 0x63, 0x73, 0x4B, 0x5B, 0x6B, 0x7B]
    ++ [0x44, 0x45, 0x4D] ++ [0x46, 0x56, 0x5E] ++ [0x47, 0x4F, 0x57, 0x5F, 0x67, 0x6F]
    ++ [0xA0, 0xA1, 0xA2, 0xA3, 0xA8, 0xA9, 0xAA, 0xAB] ++ [0xB0, 0xB1, 0xB2, 0xB3, 0xB8, 0xB9, 0xBA, 0xBB]

/-- The 39 second bytes defined after `DD` and `FD` apart from `CB` (R135), in the order of its list. -/
def definedIndexed : List Byte :=
  [0x09, 0x19, 0x29, 0x39, 0x21, 0x22, 0x23, 0x2A, 0x2B, 0x34, 0x35, 0x36]
    ++ [0x46, 0x4E, 0x56, 0x5E, 0x66, 0x6E, 0x7E] ++ [0x70, 0x71, 0x72, 0x73, 0x74, 0x75, 0x77]
    ++ [0x86, 0x8E, 0x96, 0x9E, 0xA6, 0xAE, 0xB6, 0xBE] ++ [0xE1, 0xE3, 0xE5, 0xE9, 0xF9]

/-- The operand that the field `z` of the `CB` group names (R130). -/
def cbOperand (z : Nat) : ZTgt :=
  match z with
  | 0 => .reg .b
  | 1 => .reg .c
  | 2 => .reg .d
  | 3 => .reg .e
  | 4 => .reg .h
  | 5 => .reg .l
  | 6 => .mem .hl
  | _ => .reg .a

/-- `rot[y]` (R130); `y = 6` is illegal and never asked for. -/
def cbRotate (y : Nat) : ZRot :=
  match y with
  | 0 => .rlc
  | 1 => .rrc
  | 2 => .rl
  | 3 => .rr
  | 4 => .sla
  | 5 => .sra
  | _ => .srl

/-- The operation that the fields `x` and `y` of the `CB` group name (R133, R136). -/
def cbView (x y : Nat) (m : ZTgt) : ZView :=
  match x with
  | 0 => .rot (cbRotate y) m
  | 1 => .bit y m
  | 2 => .resB y m
  | _ => .setB y m

/-! ### Before the body (R153, R154, R171) -/

/-- How many bytes the refresh counter counts: two with a `CB`, `ED`, `DD` or `FD` prefix, else one (R37, R171). -/
def Instr.opcodeFetches (i : Instr) : Nat :=
  match encode i with
  | [] => 0
  | b :: _ => if b ∈ [0xCB, 0xED, 0xDD, 0xFD] then 2 else 1

/-- The opcode map and the opcode byte that name the row of an instruction, read off its encoding (R132 to R136). -/
def Instr.opcode (i : Instr) : OpMap × Byte :=
  match i.family, encode i with
  | _, [] => (.main, 0)
  | .m6502, b :: _ => (.main, b)
  | .z80, b :: rest =>
    if b = 0xCB then (.cb, rest.getD 0 0)
    else if b = 0xED then (.ed, rest.getD 0 0)
    else if b = 0xDD then if rest.getD 0 0 = 0xCB then (.ddcb, rest.getD 2 0) else (.dd, rest.getD 0 0)
    else if b = 0xFD then if rest.getD 0 0 = 0xCB then (.fdcb, rest.getD 2 0) else (.fd, rest.getD 0 0)
    else (.main, b)

/-- `CYC[row]` of an instruction on a machine (R153, R630). -/
def Instr.cyc (i : Instr) (c : Cfg) : Nat := c.cyc.cost i.opcode.1 i.opcode.2

/-- A machine with the cycle costs of the spec: `CYC`, `EXTRA`, `ILLEGAL_LEN` and `ILLEGAL_CYC` (R124 to R126, R137, R139,
R140). Others may be substituted (R630). -/
def Cfg.standardCosts (c : Cfg) : Prop :=
  c.cyc = (Config.machineOf c.family).cyc ∧ c.extra = Config.extraCycles ∧ c.illegal = Config.illegalCosts

/-! ### Instructions that do not go on to the next one -/

/-- The instruction may leave `pc` elsewhere than past its bytes: a transfer of control, a repeating block instruction, a
halt. -/
def View.transfers : View → Bool
  | .m (.jmp _ _) => true
  | .m (.jmpInd _ _) => true
  | .m (.jsr _ _) => true
  | .m .rts => true
  | .m .rti => true
  | .m (.branch _ _) => true
  | .m .brk => true
  | .m .halt => true
  | .z (.ldBlock _ true) => true
  | .z (.cpBlock _ true) => true
  | .z (.jp _ _) => true
  | .z (.jpCC _ _ _) => true
  | .z (.jr _) => true
  | .z (.jrCC _ _) => true
  | .z (.jpHL _) => true
  | .z (.djnz _) => true
  | .z (.call _ _) => true
  | .z (.callCC _ _ _) => true
  | .z .ret => true
  | .z (.retCC _) => true
  | .z .reti => true
  | .z .retn => true
  | .z (.rst _) => true
  | .z .halt => true
  | .z (.inBlock _ true) => true
  | .z (.outBlock _ true) => true
  | _ => false

/-- The two halts, whose time is not the table's (R159, R160). -/
def View.halts : View → Bool
  | .m .halt => true
  | .z .halt => true
  | _ => false

namespace Machine

/-- The refresh counter after `n` counted bytes: bits 6 to 0 count modulo 128, bit 7 stays (R37). -/
def refreshed (n : Nat) (r : Byte) : Byte := BitVec.ofNat 8 (128 * (r.toNat / 128) + (r.toNat + n) % 128)

/-- The state in which the body of `i` runs: `pc` past the bytes of its row, the row's `CYC` added, the opcode bytes
counted (R153, R154, R171). -/
def fetched (i : Instr) (s : State) : State :=
  match i.family with
  | .m6502 => { s with pc := s.pc + BitVec.ofNat 16 i.row.len, time := s.time + i.cyc s.cfg }
  | .z80 =>
    { s with
      pc := s.pc + BitVec.ofNat 16 i.row.len
      time := s.time + i.cyc s.cfg
      z := { s.z with r := refreshed i.opcodeFetches s.z.r } }

/-! ### M6502: operands and results in the spec's arithmetic -/

/-- The operand `M` of a read-class instruction, and the state after it is read (R113 to R119, R210). -/
def mOperand (f : MForm) (t : State) : Byte × State :=
  match f with
  | .imm b => (b, t)
  | .mem md => memRead (md.ea t).addr (md.ea t).st

/-- `EXTRA` of a read-class instruction: what the machine adds if the index crosses a page (R125). -/
def mExtra (f : MForm) (t : State) : Nat :=
  match f with
  | .imm _ => 0
  | .mem md => if (md.ea t).crossed = true then t.cfg.extra.pageCross else 0

/-- `SetNZ(v)` (R181). -/
def withNZ (v : Byte) (p : MFlags) : MFlags := { p with n := decide (128 ≤ v.toNat), z := decide (v.toNat = 0) }

/-- The true signed value is outside the range of a byte (R230, R366). -/
def outside8 (x : Int) : Bool := decide (x < -128 ∨ 127 < x)

/-- The true signed value is outside the range of 16 bits (R366). -/
def outside16 (x : Int) : Bool := decide (x < -32768 ∨ 32767 < x)

/-- The result of a modify-class instruction on `v` with carry `c`, and the carry after it (R220, R221, R226 to R229). -/
def mModified (op : MModOp) (v : Byte) (c : Bool) : Byte × Bool :=
  match op with
  | .asl => (BitVec.ofNat 8 (2 * v.toNat), decide (128 ≤ v.toNat))
  | .lsr => (BitVec.ofNat 8 (v.toNat / 2), decide (v.toNat % 2 = 1))
  | .rol => (BitVec.ofNat 8 (2 * v.toNat + c.toNat), decide (128 ≤ v.toNat))
  | .ror => (BitVec.ofNat 8 (v.toNat / 2 + 128 * c.toNat), decide (v.toNat % 2 = 1))
  | .inc => (BitVec.ofNat 8 (v.toNat + 1), c)
  | .dec => (BitVec.ofNat 8 (v.toNat + 255), c)

/-- The registers after an instruction on registers and flags alone (R188 to R193, R222 to R225, R255 to R262). -/
def mImplied (op : MImpl) (m : M6502Regs) : M6502Regs :=
  match op with
  | .tax => { m with x := m.a, p := withNZ m.a m.p }
  | .tay => { m with y := m.a, p := withNZ m.a m.p }
  | .txa => { m with a := m.x, p := withNZ m.x m.p }
  | .tya => { m with a := m.y, p := withNZ m.y m.p }
  | .tsx => { m with x := m.sp, p := withNZ m.sp m.p }
  | .txs => { m with sp := m.x }
  | .inx => { m with x := BitVec.ofNat 8 (m.x.toNat + 1), p := withNZ (BitVec.ofNat 8 (m.x.toNat + 1)) m.p }
  | .iny => { m with y := BitVec.ofNat 8 (m.y.toNat + 1), p := withNZ (BitVec.ofNat 8 (m.y.toNat + 1)) m.p }
  | .dex => { m with x := BitVec.ofNat 8 (m.x.toNat + 255), p := withNZ (BitVec.ofNat 8 (m.x.toNat + 255)) m.p }
  | .dey => { m with y := BitVec.ofNat 8 (m.y.toNat + 255), p := withNZ (BitVec.ofNat 8 (m.y.toNat + 255)) m.p }
  | .clc => { m with p := { m.p with c := false } }
  | .sec => { m with p := { m.p with c := true } }
  | .cld => { m with p := { m.p with d := false } }
  | .sed => { m with p := { m.p with d := true } }
  | .cli => { m with p := { m.p with i := false } }
  | .sei => { m with p := { m.p with i := true } }
  | .clv => { m with p := { m.p with v := false } }
  | .nop => m

/-- The byte `PHP` and `BRK` push (R195). -/
def statusByte (p : MFlags) : Byte :=
  BitVec.ofNat 8 (128 * p.n.toNat + 64 * p.v.toNat + 48 + 8 * p.d.toNat + 4 * p.i.toNat + 2 * p.z.toNat + p.c.toNat)

/-- The flags `PLP` and `RTI` pull (R197). -/
def flagsOf (v : Byte) : MFlags :=
  ⟨v.getLsbD 7, v.getLsbD 6, v.getLsbD 3, v.getLsbD 2, v.getLsbD 1, v.getLsbD 0⟩

/-- An address in the stack page (R30). -/
def stackPage (sp : Byte) : Word := BitVec.ofNat 16 (0x0100 + sp.toNat)

/-! ### Z80: operands and results in the spec's arithmetic -/

/-- The operand `s` of the accumulator operations, and the state after it is read (R320). -/
def zOperand (src : ZSrc) (t : State) : Byte × State :=
  match src with
  | .reg r => (r.get t.z, t)
  | .imm n => (n, t)
  | .mem m => memRead (m.addr t.z) t

/-- The operand `m` of rotates, shifts and bit instructions, and the state after it is read (R352 to R365). -/
def zTarget (tgt : ZTgt) (t : State) : Byte × State :=
  match tgt with
  | .reg r => (r.get t.z, t)
  | .mem m => memRead (m.addr t.z) t

/-- Writing the operand `m` back, to the register or the byte it was read from. -/
def zWriteBack (tgt : ZTgt) (v : Byte) (t : State) : State :=
  match tgt with
  | .reg r => { t with z := r.set v t.z }
  | .mem m => memWrite (m.addr t.z) v t

/-- One more free value is used, and these are the flags: what every instruction that writes a flag ends with (R35). -/
def withFlags (f : ZFlags) (t : State) : State := { t with z := { t.z with f := f }, draws := t.draws + 1 }

/-- One bit of the free value an instruction draws that finds the state `t` (R35). -/
def freeFlag (t : State) (k : Nat) : Bool := (Config.freeByte t.draws).getLsbD k

/-- The free values of `F5` and `F3` for an instruction that finds the state `t` (R35, R271). -/
def free35 (t : State) (f : ZFlags) : ZFlags := { f with f5 := freeFlag t 5, f3 := freeFlag t 3 }

/-- `Parity(v)`: an even number of 1 bits (R271). -/
def evenOnes (v : Byte) : Bool := decide (((List.range 8).countP fun k => v.getLsbD k) % 2 = 0)

/-- `SZ(v)` (R271). -/
def withSZ (v : Byte) (f : ZFlags) : ZFlags := { f with s := decide (128 ≤ v.toNat), z := decide (v.toNat = 0) }

/-- The sum of two bytes and a carry, with the flags of `Add8` in exact arithmetic (R320, R366). -/
def zSum (t : State) (a v : Byte) (c : Bool) : Byte × ZFlags :=
  let r := BitVec.ofNat 8 (a.toNat + v.toNat + c.toNat)
  (r, free35 t { withSZ r t.z.f with
    h := decide (15 < a.toNat % 16 + v.toNat % 16 + c.toNat)
    pv := outside8 (a.toInt + v.toInt + c.toNat)
    n := false
    c := decide (255 < a.toNat + v.toNat + c.toNat) })

/-- The difference of two bytes and a borrow, with the flags of `Sub8` in exact arithmetic (R320, R366). -/
def zDifference (t : State) (a v : Byte) (c : Bool) : Byte × ZFlags :=
  let r := BitVec.ofInt 8 (a.toNat - v.toNat - c.toNat)
  (r, free35 t { withSZ r t.z.f with
    h := decide (a.toNat % 16 < v.toNat % 16 + c.toNat)
    pv := outside8 (a.toInt - v.toInt - c.toNat)
    n := true
    c := decide (a.toNat < v.toNat + c.toNat) })

/-- The flags `Logic(r, h)` (R320). -/
def zLogic (t : State) (r : Byte) (h : Bool) : ZFlags :=
  free35 t { withSZ r t.z.f with h := h, pv := evenOnes r, n := false, c := false }

/-- The flags `Shift(r, c)` (R320). -/
def zShifted (t : State) (r : Byte) (c : Bool) : ZFlags :=
  free35 t { withSZ r t.z.f with h := false, pv := evenOnes r, n := false, c := c }

/-- The flags that leave the carry and give the parity of a byte (R359, R401). -/
def zLoaded (t : State) (r : Byte) : ZFlags :=
  free35 t { withSZ r t.z.f with h := false, pv := evenOnes r, n := false }

/-- `INC` or `DEC` of a byte, with its flags; the carry stays (R329, R332). -/
def zStepped (op : IncDec) (t : State) (v : Byte) : Byte × ZFlags :=
  match op with
  | .inc =>
    let r := BitVec.ofNat 8 (v.toNat + 1)
    (r, free35 t { withSZ r t.z.f with h := decide (v.toNat % 16 = 15), pv := decide (v.toNat = 127), n := false })
  | .dec =>
    let r := BitVec.ofNat 8 (v.toNat + 255)
    (r, free35 t { withSZ r t.z.f with h := decide (v.toNat % 16 = 0), pv := decide (v.toNat = 128), n := true })

/-- The correction `DAA` adds or subtracts, and the carry after it (R335). -/
def daaCorrection (a : Byte) (f : ZFlags) : Nat × Bool :=
  ((if f.h = true ∨ 9 < a.toNat % 16 then 6 else 0) + (if f.c = true ∨ 0x99 < a.toNat then 0x60 else 0),
    f.c || decide (0x99 < a.toNat))

/-- A condition `cc[k]` (R130, R380). -/
def conditionHolds (k : CC) (f : ZFlags) : Prop :=
  match k with
  | .nz => f.z = false
  | .z => f.z = true
  | .nc => f.c = false
  | .c => f.c = true
  | .po => f.pv = false
  | .pe => f.pv = true
  | .p => f.s = false
  | .m => f.s = true

/-- One step of a pair, modulo 65536, in the direction of a block instruction. -/
def stepped (d : Dir) (w : Word) : Word :=
  match d with
  | .up => BitVec.ofNat 16 (w.toNat + 1)
  | .down => BitVec.ofNat 16 (w.toNat + 65535)

/-- What a repeating block instruction does when it repeats: `pc` is back on it and its `EXTRA` is added (R140, R308). -/
def repeats (again : Bool) (s t : State) : State :=
  if again = true then { t with pc := s.pc, time := t.time + s.cfg.extra.blockRepeat } else t

/-- The result of a rotate or shift of `v` with carry `c`, and the bit shifted out (R352 to R358). -/
def zRotated (op : ZRot) (v : Byte) (c : Bool) : Byte × Bool :=
  match op with
  | .rlc => (BitVec.ofNat 8 (2 * v.toNat + v.toNat / 128), decide (128 ≤ v.toNat))
  | .rrc => (BitVec.ofNat 8 (v.toNat / 2 + 128 * (v.toNat % 2)), decide (v.toNat % 2 = 1))
  | .rl => (BitVec.ofNat 8 (2 * v.toNat + c.toNat), decide (128 ≤ v.toNat))
  | .rr => (BitVec.ofNat 8 (v.toNat / 2 + 128 * c.toNat), decide (v.toNat % 2 = 1))
  | .sla => (BitVec.ofNat 8 (2 * v.toNat), decide (128 ≤ v.toNat))
  | .sra => (BitVec.ofNat 8 (v.toNat / 2 + 128 * (v.toNat / 128)), decide (v.toNat % 2 = 1))
  | .srl => (BitVec.ofNat 8 (v.toNat / 2), decide (v.toNat % 2 = 1))

/-- The rotate of `CB` group that an accumulator rotate performs (R348 to R351). -/
def accRotOf : ZAccRot → ZRot
  | .rlca => .rlc
  | .rrca => .rrc
  | .rla => .rl
  | .rra => .rr

/-! ### Which bytes an instruction stores to -/

/-- The addresses an M6502 instruction stores to, computed as its meaning computes them. -/
def mStores (v : MView) (t : State) : List Word :=
  match v with
  | .store _ md => [(md.ea t).addr]
  | .modify _ md => [(md.ea t).addr]
  | .pha => [stackAddr t.m.sp]
  | .php => [stackAddr t.m.sp]
  | .jsr _ _ => [stackAddr t.m.sp, stackAddr (t.m.sp - 1)]
  | .brk => [stackAddr t.m.sp, stackAddr (t.m.sp - 1), stackAddr (t.m.sp - 1 - 1)]
  | _ => []

/-- The addresses a Z80 instruction stores to, computed as its meaning computes them. -/
def zStores (v : ZView) (t : State) : List Word :=
  match v with
  | .ldMR m _ => [m.addr t.z]
  | .ldMN m _ => [m.addr t.z]
  | .ldPA p => [p.get t.z]
  | .ldNnA lo hi => [word lo hi]
  | .ldNnHL lo hi => [word lo hi, word lo hi + 1]
  | .ldNnP _ lo hi => [word lo hi, word lo hi + 1]
  | .push _ => [t.z.sp - 1, t.z.sp - 1 - 1]
  | .exSP _ => [t.z.sp + 1, t.z.sp]
  | .ldBlock _ _ => [t.z.de]
  | .incDecM _ m => [m.addr t.z]
  | .rot _ (.mem m) => [m.addr t.z]
  | .rld => [t.z.hl]
  | .rrd => [t.z.hl]
  | .setB _ (.mem m) => [m.addr t.z]
  | .resB _ (.mem m) => [m.addr t.z]
  | .call _ _ => [t.z.sp - 1, t.z.sp - 1 - 1]
  | .callCC k _ _ => if k.holds t.z.f then [t.z.sp - 1, t.z.sp - 1 - 1] else []
  | .rst _ => [t.z.sp - 1, t.z.sp - 1 - 1]
  | .inBlock _ _ => [t.z.hl]
  | _ => []

/-- The addresses an instruction stores to, from the state its body finds; none, for a form that stores nothing. -/
def storesTo (i : Instr) (s : State) : List Word :=
  match i.view with
  | .m v => mStores v (fetched i s)
  | .z v => zStores v (fetched i s)

/-- No bank handler answers writes at an address, so no page table entry changes with them (R88). -/
def noBank (c : Cfg) (a : Word) : Prop := ∀ w n r k, writeHandler c a ≠ some (.bank w n r k)

/-- No callback of the host answers data accesses or port accesses, as on every machine of the spec (R88, R89, R165). -/
def noCallback (c : Cfg) : Prop :=
  (∀ a k b, readHandler c a ≠ some (.callback k b)) ∧ (∀ a k, writeHandler c a ≠ some (.callback k)) ∧
    (∀ k, c.portOut ≠ some (.callback k)) ∧ c.portIn.call = none

/-- The largest `CYC + EXTRA` of a family, with the costs of the spec (R156). -/
def maxCost : Family → Nat
  | .m6502 => 7
  | .z80 => 23

/-! ### The invariant of memory (R40 to R42, R72) -/

/-- An entry names a window that lies inside its region (R40). -/
def pageInside (s : State) (e : PageEntry) : Prop := e.offset + s.cfg.pageSize ≤ regionSize s e.region

/-- Every address resolves to a byte of a region, for reads and for writes, and memory is in canonical form (R42). -/
structure MemoryInv (s : State) : Prop where
  readLength : s.readPage.length = s.cfg.pageCount
  writeLength : s.writePage.length = s.cfg.pageCount
  readInside : ∀ e ∈ s.readPage, pageInside s e
  writeInside : ∀ e ∈ s.writePage, pageInside s e
  canonical : Memory.wf s = true

/-! ### The invariant of the chips (R45 to R55, R456, R493, R514) -/

/-- A voice reports to its own channel, and what it last reported is its amplitude `a` (R456 a). -/
def voiceInStep (c : Chip) (voice : Nat) (a : Int) (v : VoiceOut) : Prop :=
  v.output = none ∨ (v.output = some ⟨c, voice⟩ ∧ v.lastAmp = a)

/-- The ranges of a pulse channel's counters (R47). -/
structure PulseInv (p : Pulse) : Prop where
  phase : p.dutyPhase < 8
  length : p.length ≤ 254
  envDiv : p.envDiv ≤ 15
  envDecay : p.envDecay ≤ 15
  sweepDiv : p.sweepDiv ≤ 7

/-- The ranges of the triangle's counters (R48). -/
structure TriangleInv (c : Triangle) : Prop where
  phase : c.seqPhase < 32
  length : c.length ≤ 254
  linear : c.linear ≤ 127

/-- The ranges of the noise channel's counters (R48). -/
structure NoiseInv (c : Noise) : Prop where
  length : c.length ≤ 254
  envDiv : c.envDiv ≤ 15
  envDecay : c.envDecay ≤ 15

/-- The ranges of the DMC's counters (R49). -/
structure DmcInv (c : Dmc) : Prop where
  bytesLeft : c.bytesLeft ≤ 4081
  bitsLeft : c.bitsLeft ≤ 8

/-- The NESAPU: counters in their ranges, voices in step with what they reported (R47 to R50, R456). -/
structure NesInv (n : Nes) : Prop where
  pulse1 : PulseInv n.pulse1
  pulse2 : PulseInv n.pulse2
  triangle : TriangleInv n.triangle
  noise : NoiseInv n.noise
  dmc : DmcInv n.dmc
  frameStep : n.frameStep ≤ 3
  out0 : voiceInStep .nesApu 0 (n.pulse1.amp true) n.pulse1.out
  out1 : voiceInStep .nesApu 1 (n.pulse2.amp false) n.pulse2.out
  out2 : voiceInStep .nesApu 2 n.triangle.amp n.triangle.out
  out3 : voiceInStep .nesApu 3 n.noise.amp n.noise.out
  out4 : voiceInStep .nesApu 4 n.dmc.amp n.dmc.out

/-- The AY and the beeper: sixteen registers that hold only their documented bits, the envelope step in its range, voices in
step (R51, R471, R493). -/
structure AyInv (p : AyConsts) (c : Ay) : Prop where
  registers : c.regs.length = 16
  kept : ∀ r < 16, c.reg r &&& ayMask r = c.reg r
  envStep : c.envStep ≤ 31
  out0 : voiceInStep .ay 0 (c.amp p 0 c.toneA.phase) c.toneA.out
  out1 : voiceInStep .ay 1 (c.amp p 1 c.toneB.phase) c.toneB.out
  out2 : voiceInStep .ay 2 (c.amp p 2 c.toneC.phase) c.toneC.out
  out3 : voiceInStep .ay 3 (c.beeperAmp p) c.beeper

/-- The POKEY: voices in step (R514). -/
structure PokeyInv (c : Pokey) : Prop where
  out0 : voiceInStep .pokey 0 c.amp1 c.ch1.out
  out1 : voiceInStep .pokey 1 c.amp2 c.ch2.out
  out2 : voiceInStep .pokey 2 c.amp3 c.ch3.out
  out3 : voiceInStep .pokey 3 c.amp4 c.ch4.out

/-- All three chips. -/
structure ChipInv (s : State) : Prop where
  nes : NesInv s.nes
  ay : AyInv s.cfg.ayConsts s.ay
  pokey : PokeyInv s.pokey

/-! ### What the sink has been told (R96) -/

/-- The sum of all deltas sent to a channel. -/
def sinkSum (ch : Channel) : List SinkCall → Int
  | [] => 0
  | .offset c _ d :: k => (if c = ch then d else 0) + sinkSum ch k
  | .endFrame _ :: k => sinkSum ch k

/-- What a voice last reported, if it reports to the channel. -/
def VoiceOut.on (ch : Channel) (v : VoiceOut) : Int := if v.output = some ch then v.lastAmp else 0

/-- The last reported amplitudes of the voices that report to a channel. -/
def reported (ch : Channel) (s : State) : Int :=
  s.nes.pulse1.out.on ch + s.nes.pulse2.out.on ch + s.nes.triangle.out.on ch + s.nes.noise.out.on ch
    + s.nes.dmc.out.on ch + s.ay.toneA.out.on ch + s.ay.toneB.out.on ch + s.ay.toneC.out.on ch + s.ay.beeper.on ch
    + s.pokey.ch1.out.on ch + s.pokey.ch2.out.on ch + s.pokey.ch3.out.on ch + s.pokey.ch4.out.on ch

/-! ### What the chips' registers store, in exact arithmetic (R427 to R442, R471, R506 to R508) -/

/-- Bit `k` of a byte, by arithmetic. -/
def bitOf (v : Byte) (k : Nat) : Bool := decide (v.toNat / 2 ^ k % 2 = 1)

/-- A pulse channel after a write of its register `k` (R427 to R430). -/
def pulseWritten (k : Nat) (v : Byte) (p : Pulse) : Pulse :=
  match k with
  | 0 => { p with
      duty := BitVec.ofNat 2 (v.toNat / 64)
      halt := bitOf v 5
      constVol := bitOf v 4
      vol := BitVec.ofNat 4 v.toNat }
  | 1 => { p with
      sweepEn := bitOf v 7
      sweepPeriod := BitVec.ofNat 3 (v.toNat / 16)
      sweepNeg := bitOf v 3
      sweepShift := BitVec.ofNat 3 v.toNat
      sweepReload := true }
  | 2 => { p with period := BitVec.ofNat 11 (p.period.toNat / 256 * 256 + v.toNat) }
  | _ => { p with
      period := BitVec.ofNat 11 (v.toNat % 8 * 256 + p.period.toNat % 256)
      length := if p.enabled = true then Config.lengthTable.getD (v.toNat / 8) 0 else p.length
      envStart := true
      dutyPhase := 0 }

/-- The triangle after a write of its register `k` (R431 to R433). -/
def triangleWritten (k : Nat) (v : Byte) (c : Triangle) : Triangle :=
  match k with
  | 0 => { c with control := bitOf v 7, linearLoad := BitVec.ofNat 7 v.toNat }
  | 2 => { c with period := BitVec.ofNat 11 (c.period.toNat / 256 * 256 + v.toNat) }
  | _ => { c with
      period := BitVec.ofNat 11 (v.toNat % 8 * 256 + c.period.toNat % 256)
      length := if c.enabled = true then Config.lengthTable.getD (v.toNat / 8) 0 else c.length
      linearReload := true }

/-- The noise channel after a write of its register `k` (R434 to R436). -/
def noiseWritten (k : Nat) (v : Byte) (c : Noise) : Noise :=
  match k with
  | 0 => { c with halt := bitOf v 5, constVol := bitOf v 4, vol := BitVec.ofNat 4 v.toNat }
  | 2 => { c with mode := bitOf v 7, periodIndex := BitVec.ofNat 4 v.toNat }
  | _ => { c with
      length := if c.enabled = true then Config.lengthTable.getD (v.toNat / 8) 0 else c.length
      envStart := true }

/-- The DMC after a write of its register `k` (R437 to R439). -/
def dmcWritten (k : Nat) (v : Byte) (c : Dmc) : Dmc :=
  match k with
  | 0 => { c with
      irqEnable := bitOf v 7
      loop := bitOf v 6
      rateIndex := BitVec.ofNat 4 v.toNat
      irqFlag := if bitOf v 7 = true then c.irqFlag else false }
  | 1 => { c with dac := BitVec.ofNat 7 v.toNat }
  | 2 => { c with addrReg := v }
  | _ => { c with lenReg := v }

/-- The DMC after a write of `0x4015` (R440, R453); `rd` reads memory. -/
def dmcSwitched (rd : Word → Byte) (on : Bool) (c : Dmc) : Dmc :=
  let d := { c with irqFlag := false }
  if on = false then { d with bytesLeft := 0 }
  else if c.bytesLeft = 0 then
    Dmc.fill rd { d with
      curAddr := BitVec.ofNat 16 (0xC000 + 64 * c.addrReg.toNat)
      bytesLeft := 16 * c.lenReg.toNat + 1 }
  else d

/-- How many low bits of register `r` of the AY are kept (R471). -/
def ayBits (r : Nat) : Nat := [8, 4, 8, 4, 8, 4, 5, 8, 5, 5, 5, 8, 8, 4, 8, 8].getD r 0

/-- The byte the driver's image gives a region at an offset: the last block that covers it, else 0 (R68, R531). -/
def imageByte (r : RegionImage) (o : Nat) : Byte :=
  r.blocks.foldl (fun b blk => if blk.1 ≤ o then blk.2.getD (o - blk.1) b else b) 0

/-! ### Attaching and detaching voices (R455, R489, R513) -/

/-- `set_output` of a voice of amplitude `a` at the chip's time `t`: the level last reported is taken back when the voice is
detached, and counts from 0 when it was detached before; a change is sent, no change is not (R455). -/
def reattached (t a : Int) (o : Option Channel) (v : VoiceOut) (k : List SinkCall) : VoiceOut × List SinkCall :=
  let old := if v.output = none then 0 else v.lastAmp
  let now := if o = none then 0 else a
  let reports := if o = none then v.output else o
  match reports with
  | none => (v, k)
  | some ch => (⟨now, o⟩, if now = old then k else .offset ch t (now - old) :: k)

/-- The output of a voice under a mute mask (R549). -/
def outputUnder (mask : Nat) (c : Chip) (voice : Nat) : Option Channel :=
  if mask / 2 ^ voice % 2 = 1 then none else some ⟨c, voice⟩

/-- The NESAPU and the sink after `set_output` of its five voices by a mute mask (R455, R549). -/
def nesMuted (mask : Nat) (n : Nes) (k : List SinkCall) : Nes × List SinkCall :=
  let r0 := reattached n.lastTime (n.pulse1.amp true) (outputUnder mask .nesApu 0) n.pulse1.out k
  let r1 := reattached n.lastTime (n.pulse2.amp false) (outputUnder mask .nesApu 1) n.pulse2.out r0.2
  let r2 := reattached n.lastTime n.triangle.amp (outputUnder mask .nesApu 2) n.triangle.out r1.2
  let r3 := reattached n.lastTime n.noise.amp (outputUnder mask .nesApu 3) n.noise.out r2.2
  let r4 := reattached n.lastTime n.dmc.amp (outputUnder mask .nesApu 4) n.dmc.out r3.2
  ({ n with
      pulse1 := { n.pulse1 with out := r0.1 }
      pulse2 := { n.pulse2 with out := r1.1 }
      triangle := { n.triangle with out := r2.1 }
      noise := { n.noise with out := r3.1 }
      dmc := { n.dmc with out := r4.1 } }, r4.2)

/-- The AY and the sink after `set_output` of its three tone voices and the beeper by a mute mask (R489, R549). -/
def ayMuted (p : AyConsts) (mask : Nat) (c : Ay) (k : List SinkCall) : Ay × List SinkCall :=
  let r0 := reattached c.lastTime (c.amp p 0 c.toneA.phase) (outputUnder mask .ay 0) c.toneA.out k
  let r1 := reattached c.lastTime (c.amp p 1 c.toneB.phase) (outputUnder mask .ay 1) c.toneB.out r0.2
  let r2 := reattached c.lastTime (c.amp p 2 c.toneC.phase) (outputUnder mask .ay 2) c.toneC.out r1.2
  let r3 := reattached c.lastTime (c.beeperAmp p) (outputUnder mask .ay 3) c.beeper r2.2
  ({ c with
      toneA := { c.toneA with out := r0.1 }
      toneB := { c.toneB with out := r1.1 }
      toneC := { c.toneC with out := r2.1 }
      beeper := r3.1 }, r3.2)

/-- The POKEY and the sink after `set_output` of its four channels by a mute mask (R513, R549). -/
def pokeyMuted (mask : Nat) (c : Pokey) (k : List SinkCall) : Pokey × List SinkCall :=
  let r0 := reattached c.lastTime c.amp1 (outputUnder mask .pokey 0) c.ch1.out k
  let r1 := reattached c.lastTime c.amp2 (outputUnder mask .pokey 1) c.ch2.out r0.2
  let r2 := reattached c.lastTime c.amp3 (outputUnder mask .pokey 2) c.ch3.out r1.2
  let r3 := reattached c.lastTime c.amp4 (outputUnder mask .pokey 3) c.ch4.out r2.2
  ({ c with
      ch1 := { c.ch1 with out := r0.1 }
      ch2 := { c.ch2 with out := r1.1 }
      ch3 := { c.ch3 with out := r2.1 }
      ch4 := { c.ch4 with out := r3.1 } }, r3.2)

/-- The machine after `set_output` of every voice of one chip by a mute mask (R531, R549). -/
def chipMuted (mask : Nat) (s : State) (c : Chip) : State :=
  match c with
  | .nesApu => { s with nes := (nesMuted mask s.nes s.sink).1, sink := (nesMuted mask s.nes s.sink).2 }
  | .ay => { s with ay := (ayMuted s.cfg.ayConsts mask s.ay s.sink).1, sink := (ayMuted s.cfg.ayConsts mask s.ay s.sink).2 }
  | .pokey => { s with pokey := (pokeyMuted mask s.pokey s.sink).1, sink := (pokeyMuted mask s.pokey s.sink).2 }

/-! ### Guest routines -/

/-- The two addresses the return address of a guest routine is pushed to (R30, R34, R533). -/
def pushedAt (s : State) : List Word :=
  match s.cfg.family with
  | .m6502 => [stackPage s.m.sp, stackPage (BitVec.ofNat 8 (s.m.sp.toNat + 255))]
  | .z80 => [BitVec.ofNat 16 (s.z.sp.toNat + 65535), BitVec.ofNat 16 (s.z.sp.toNat + 65534)]

/-- Both bytes of a return address, pushed for a guest routine of a family (R533), and the entry in `pc`. -/
def jsrPushed (addr : Word) (s : State) : State :=
  match s.cfg.family with
  | .m6502 =>
    let r := s.cfg.idleAddr.toNat + 65535
    let t := memWrite (stackPage s.m.sp) (BitVec.ofNat 8 (r / 256)) s
    let u := memWrite (stackPage (BitVec.ofNat 8 (s.m.sp.toNat + 255))) (BitVec.ofNat 8 r)
      { t with m := { t.m with sp := BitVec.ofNat 8 (s.m.sp.toNat + 255) } }
    { u with m := { u.m with sp := BitVec.ofNat 8 (s.m.sp.toNat + 254) }, pc := addr }
  | .z80 =>
    let sp1 := BitVec.ofNat 16 (s.z.sp.toNat + 65535)
    let sp2 := BitVec.ofNat 16 (s.z.sp.toNat + 65534)
    let t := memWrite sp1 (BitVec.ofNat 8 (s.cfg.idleAddr.toNat / 256)) { s with z := { s.z with sp := sp1 } }
    let u := memWrite sp2 (BitVec.ofNat 8 s.cfg.idleAddr.toNat) { t with z := { t.z with sp := sp2 } }
    { u with pc := addr }

end Machine

end Sys2Proof
end

