-- ==== Sys2Proof/Certificates/Slice0/Obligations.lean ====
section
/-! DEFINITION. The statements about the machine, for the provers. Each says what the rules of spec/ it cites say, in the
terms of Sys2Proof.Safety; OBLIGATIONS.json holds their titles, their texts and their citations. A statement about an
instruction speaks of its shape (`Instr.view`), so it holds for every constructor of that shape: the docstrings list them.
Its conclusion is the whole next state, written as a change of the state the body finds (`fetched`), so it is at once the
statement that the instruction completes, its result and its frame. The fields `control`, `calls`, `results` and `draws`
that next states name are the model's own (log entries 1, 2, 15); no statement rests on the value of a free draw or on how
many were made before. -/

open Sys2Proof Sys2Proof.Machine

/-- Decoding the bytes of an encoded instruction gives it back. Rules: 30_encoding.md R111, 30_encoding.md R123,
30_encoding.md R132 to R136, 30_encoding.md R144. -/
def Obligations.DecodeOfEncodeIsTheInstruction : Prop :=
  ∀ (fam : Family) (atIdle : Bool) (i : Instr) (b0 b1 b2 b3 : Byte),
    i.wellFormed fam atIdle = true → encode i <+: [b0, b1, b2, b3] → decode fam atIdle b0 b1 b2 b3 = .instr i

/-- What the decoder reads is well-formed, and its encoding is the bytes read. Rules: 30_encoding.md R110, 30_encoding.md
R111, 30_encoding.md R138, 40_dispatch.md R155. -/
def Obligations.EncodeOfDecodeIsTheBytes : Prop :=
  ∀ (fam : Family) (atIdle : Bool) (b0 b1 b2 b3 : Byte) (i : Instr),
    decode fam atIdle b0 b1 b2 b3 = .instr i →
      i.wellFormed fam atIdle = true ∧ encode i <+: [b0, b1, b2, b3] ∧ (encode i).length = i.row.len

/-- Exactly the listed bytes are illegal opcodes, of the listed kinds. Rules: 30_encoding.md R126, 30_encoding.md R137,
30_encoding.md R144. -/
def Obligations.IllegalOpcodesAreTheListedOnes : Prop :=
  (∀ (atIdle : Bool) (b0 b1 b2 b3 : Byte) (k : Illegal),
    decode .m6502 atIdle b0 b1 b2 b3 = .illegal k ↔
      k = .m6502 ∧ b0 ∈ illegalM6502 ∧ ¬ (b0 = 0x22 ∧ atIdle = true)) ∧
  (∀ (atIdle : Bool) (b0 b1 b2 b3 : Byte) (k : Illegal),
    decode .z80 atIdle b0 b1 b2 b3 = .illegal k ↔
      (k = .z80Cb ∧ b0 = 0xCB ∧ 0x30 ≤ b1.toNat ∧ b1.toNat ≤ 0x37) ∨
      (k = .z80Ed ∧ b0 = 0xED ∧ b1 ∉ definedEd) ∨
      (k = .z80Prefix ∧ (b0 = 0xDD ∨ b0 = 0xFD) ∧ b1 ≠ 0xCB ∧ b1 ∉ definedIndexed) ∨
      (k = .z80IndexCb ∧ (b0 = 0xDD ∨ b0 = 0xFD) ∧ b1 = 0xCB ∧ ¬ (b3.toNat % 8 = 6 ∧ b3.toNat / 8 ≠ 6)))

/-- The CB, DD CB and FD CB groups are read by the fields x, y and z. Rules: 30_encoding.md R129, 30_encoding.md R130,
30_encoding.md R133, 30_encoding.md R136. -/
def Obligations.CbGroupIsReadByItsFields : Prop :=
  (∀ (atIdle : Bool) (op b2 b3 : Byte), ¬ (op.toNat / 8 = 6) →
    ∃ i, decode .z80 atIdle 0xCB op b2 b3 = .instr i ∧
      i.view = .z (cbView (op.toNat / 64) (op.toNat / 8 % 8) (cbOperand (op.toNat % 8)))) ∧
  (∀ (atIdle : Bool) (d op : Byte), op.toNat % 8 = 6 → ¬ (op.toNat / 8 = 6) →
    (∃ i, decode .z80 atIdle 0xDD 0xCB d op = .instr i ∧
      i.view = .z (cbView (op.toNat / 64) (op.toNat / 8 % 8) (.mem (.idx .ix d)))) ∧
    (∃ i, decode .z80 atIdle 0xFD 0xCB d op = .instr i ∧
      i.view = .z (cbView (op.toNat / 64) (op.toNat / 8 % 8) (.mem (.idx .iy d)))))

/-- A few words written out from the encodings decode to their instructions. Rules: 30_encoding.md R123, 30_encoding.md
R132, 30_encoding.md R134, 30_encoding.md R135, 30_encoding.md R136. -/
def Obligations.SampleWordsDecode : Prop :=
  decode .m6502 false 0xA9 0x05 0 0 = .instr (.mLdaImm 0x05) ∧
  decode .m6502 false 0x8D 0x00 0x02 0 = .instr (.mStaAbs 0x00 0x02) ∧
  decode .m6502 true 0x22 0 0 0 = .instr .mHaltSentinel ∧
  decode .m6502 false 0x22 0 0 0 = .illegal .m6502 ∧
  decode .z80 false 0x7E 0 0 0 = .instr .zLd_A_atHL ∧
  decode .z80 false 0xED 0x52 0 0 = .instr .zSbc_HL_DE ∧
  decode .z80 false 0xDD 0x36 0x01 0x02 = .instr (.zLd_atIXd_n 0x01 0x02) ∧
  decode .z80 false 0xFD 0xCB 0xFF 0x86 = .instr (.zRes_0_atIYd 0xFF)

/-- LDA, LDX and LDY load the operand and set N and Z. Rules: 41_m6502_load_store.md R180, 41_m6502_load_store.md R181,
41_m6502_load_store.md R182, 41_m6502_load_store.md R183, 41_m6502_load_store.md R184, 30_encoding.md R124,
30_encoding.md R125.

Constructors:
mLdyImm, mLdaIzx, mLdxImm, mLdyZp, mLdaZp, mLdxZp, mLdaImm, mLdyAbs, mLdaAbs, mLdxAbs, mLdaIzy, mLdyZpx, mLdaZpx,
mLdxZpy, mLdaAby, mLdyAbx, mLdaAbx, mLdxAby. -/
def Obligations.M6502LoadsCompleteWithNZ : Prop :=
  ∀ (i : Instr) (f : MForm) (s : State),
    (i.view = .m (.read .lda f) → exec i s = .next
      (let x := mOperand f (fetched i s)
       { x.2 with
         time := x.2.time + mExtra f (fetched i s)
         m := { x.2.m with a := x.1, p := withNZ x.1 x.2.m.p } })) ∧
    (i.view = .m (.read .ldx f) → exec i s = .next
      (let x := mOperand f (fetched i s)
       { x.2 with
         time := x.2.time + mExtra f (fetched i s)
         m := { x.2.m with x := x.1, p := withNZ x.1 x.2.m.p } })) ∧
    (i.view = .m (.read .ldy f) → exec i s = .next
      (let x := mOperand f (fetched i s)
       { x.2 with
         time := x.2.time + mExtra f (fetched i s)
         m := { x.2.m with y := x.1, p := withNZ x.1 x.2.m.p } }))

/-- ADC and SBC: the binary sum or difference, carry, and true signed overflow. Rules: 42_m6502_alu.md R211,
42_m6502_alu.md R212, 42_m6502_alu.md R230, 30_encoding.md R124, 30_encoding.md R125.

Constructors:
mAdcIzx, mAdcZp, mAdcImm, mAdcAbs, mAdcIzy, mAdcZpx, mAdcAby, mAdcAbx, mSbcIzx, mSbcZp, mSbcImm, mSbcAbs, mSbcIzy,
mSbcZpx, mSbcAby, mSbcAbx. -/
def Obligations.M6502AddAndSubtractInBinary : Prop :=
  ∀ (i : Instr) (f : MForm) (s : State),
    (i.view = .m (.read .adc f) → exec i s = .next
      (let x := mOperand f (fetched i s)
       let a := x.2.m.a
       let c := x.2.m.p.c.toNat
       let r := BitVec.ofNat 8 (a.toNat + x.1.toNat + c)
       { x.2 with
         time := x.2.time + mExtra f (fetched i s)
         m := { x.2.m with
           a := r
           p := { withNZ r x.2.m.p with
             v := outside8 (a.toInt + x.1.toInt + c)
             c := decide (255 < a.toNat + x.1.toNat + c) } } })) ∧
    (i.view = .m (.read .sbc f) → exec i s = .next
      (let x := mOperand f (fetched i s)
       let a := x.2.m.a
       let b := 1 - x.2.m.p.c.toNat
       let r := BitVec.ofNat 8 (a.toNat + 256 - x.1.toNat - b)
       { x.2 with
         time := x.2.time + mExtra f (fetched i s)
         m := { x.2.m with
           a := r
           p := { withNZ r x.2.m.p with
             v := outside8 (a.toInt - x.1.toInt - b)
             c := decide (x.1.toNat + b ≤ a.toNat) } } }))

/-- AND, ORA, EOR write A with N and Z; CMP, CPX, CPY and BIT write flags alone. Rules: 42_m6502_alu.md R213,
42_m6502_alu.md R214, 42_m6502_alu.md R215, 42_m6502_alu.md R216, 42_m6502_alu.md R217, 42_m6502_alu.md R218,
42_m6502_alu.md R219, 30_encoding.md R125.

Constructors:
mOraIzx, mOraZp, mOraImm, mOraAbs, mOraIzy, mOraZpx, mOraAby, mOraAbx, mAndIzx, mBitZp, mAndZp, mAndImm, mBitAbs,
mAndAbs, mAndIzy, mAndZpx, mAndAby, mAndAbx, mEorIzx, mEorZp, mEorImm, mEorAbs, mEorIzy, mEorZpx, mEorAby, mEorAbx,
mCpyImm, mCmpIzx, mCpyZp, mCmpZp, mCmpImm, mCpyAbs, mCmpAbs, mCmpIzy, mCmpZpx, mCmpAby, mCmpAbx, mCpxImm, mCpxZp,
mCpxAbs. -/
def Obligations.M6502LogicCompareAndBitTest : Prop :=
  ∀ (i : Instr) (f : MForm) (s : State),
    let x := mOperand f (fetched i s)
    let done : M6502Regs → Host.Outcome State Fault Refusal := fun r =>
      .next { x.2 with time := x.2.time + mExtra f (fetched i s), m := r }
    let r := x.2.m
    (i.view = .m (.read .and f) →
      exec i s = done { r with a := r.a &&& x.1, p := withNZ (r.a &&& x.1) r.p }) ∧
    (i.view = .m (.read .ora f) →
      exec i s = done { r with a := r.a ||| x.1, p := withNZ (r.a ||| x.1) r.p }) ∧
    (i.view = .m (.read .eor f) →
      exec i s = done { r with a := r.a ^^^ x.1, p := withNZ (r.a ^^^ x.1) r.p }) ∧
    (i.view = .m (.read .cmp f) →
      exec i s = done { r with p := { withNZ (r.a - x.1) r.p with c := decide (x.1.toNat ≤ r.a.toNat) } }) ∧
    (i.view = .m (.read .cpx f) →
      exec i s = done { r with p := { withNZ (r.x - x.1) r.p with c := decide (x.1.toNat ≤ r.x.toNat) } }) ∧
    (i.view = .m (.read .cpy f) →
      exec i s = done { r with p := { withNZ (r.y - x.1) r.p with c := decide (x.1.toNat ≤ r.y.toNat) } }) ∧
    (i.view = .m (.read .bit f) →
      exec i s = done { r with p := { r.p with
        z := decide (r.a &&& x.1 = 0)
        n := x.1.getLsbD 7
        v := x.1.getLsbD 6 } })

/-- STA, STX and STY make one data write at the effective address. Rules: 41_m6502_load_store.md R185,
41_m6502_load_store.md R186, 41_m6502_load_store.md R187, 30_encoding.md R124.

Constructors:
mStaIzx, mStyZp, mStaZp, mStxZp, mStyAbs, mStaAbs, mStxAbs, mStaIzy, mStyZpx, mStaZpx, mStxZpy, mStaAby, mStaAbx. -/
def Obligations.M6502StoresWriteOneByte : Prop :=
  ∀ (i : Instr) (md : MMode) (s : State),
    let e := md.ea (fetched i s)
    (i.view = .m (.store .a md) → exec i s = .next (memWrite e.addr s.m.a e.st)) ∧
    (i.view = .m (.store .x md) → exec i s = .next (memWrite e.addr s.m.x e.st)) ∧
    (i.view = .m (.store .y md) → exec i s = .next (memWrite e.addr s.m.y e.st))

/-- ASL, LSR, ROL, ROR, INC, DEC: one read, one write, N, Z and the carry of the rule. Rules: 42_m6502_alu.md R210,
42_m6502_alu.md R220, 42_m6502_alu.md R221, 42_m6502_alu.md R226, 42_m6502_alu.md R227, 42_m6502_alu.md R228,
42_m6502_alu.md R229, 20_memory.md R90.

Constructors:
mAslZp, mAslAcc, mAslAbs, mAslZpx, mAslAbx, mRolZp, mRolAcc, mRolAbs, mRolZpx, mRolAbx, mLsrZp, mLsrAcc, mLsrAbs,
mLsrZpx, mLsrAbx, mRorZp, mRorAcc, mRorAbs, mRorZpx, mRorAbx, mDecZp, mDecAbs, mDecZpx, mDecAbx, mIncZp, mIncAbs,
mIncZpx, mIncAbx. -/
def Obligations.M6502ShiftsIncrementsAndDecrements : Prop :=
  ∀ (i : Instr) (op : MModOp) (s : State),
    (∀ md, i.view = .m (.modify op md) → exec i s = .next
      (let e := md.ea (fetched i s)
       let x := memRead e.addr e.st
       let y := mModified op x.1 s.m.p.c
       let w := memWrite e.addr y.1 x.2
       { w with m := { s.m with p := { withNZ y.1 s.m.p with c := y.2 } } })) ∧
    (i.view = .m (.acc op) → exec i s = .next
      (let y := mModified op s.m.a s.m.p.c
       { fetched i s with m := { s.m with a := y.1, p := { withNZ y.1 s.m.p with c := y.2 } } }))

/-- Transfers, register increments and decrements, flag instructions and NOP. Rules: 41_m6502_load_store.md R188 to R193,
42_m6502_alu.md R222 to R225, 43_m6502_control.md R255 to R262.

Constructors:
mClc, mSec, mCli, mSei, mDey, mTxa, mTya, mTxs, mTay, mTax, mClv, mTsx, mIny, mDex, mCld, mInx, mNop, mSed. -/
def Obligations.M6502RegisterAndFlagInstructions : Prop :=
  ∀ (i : Instr) (op : MImpl) (s : State),
    i.view = .m (.implied op) → exec i s = .next { fetched i s with m := mImplied op s.m }

/-- PHA, PHP, PLA and PLP. Rules: 41_m6502_load_store.md R194, 41_m6502_load_store.md R195, 41_m6502_load_store.md R196,
41_m6502_load_store.md R197, 10_state.md R29, 10_state.md R30.

Constructors:
mPhp, mPlp, mPha, mPla. -/
def Obligations.M6502StackInstructions : Prop :=
  ∀ (i : Instr) (s : State),
    let t := fetched i s
    let up := { t with m := { s.m with sp := s.m.sp + 1 } }
    let x := memRead (stackPage (s.m.sp + 1)) up
    (i.view = .m .pha → exec i s = .next
      { memWrite (stackPage s.m.sp) s.m.a t with m := { s.m with sp := s.m.sp - 1 } }) ∧
    (i.view = .m .php → exec i s = .next
      { memWrite (stackPage s.m.sp) (statusByte s.m.p) t with m := { s.m with sp := s.m.sp - 1 } }) ∧
    (i.view = .m .pla → exec i s = .next
      { x.2 with m := { s.m with sp := s.m.sp + 1, a := x.1, p := withNZ x.1 s.m.p } }) ∧
    (i.view = .m .plp → exec i s = .next
      { x.2 with m := { s.m with sp := s.m.sp + 1, p := flagsOf x.1 } })

/-- JMP, JSR, RTS and RTI. Rules: 43_m6502_control.md R240, 43_m6502_control.md R241, 43_m6502_control.md R242,
43_m6502_control.md R243, 43_m6502_control.md R244, 30_encoding.md R120.

Constructors:
mJsr, mRti, mJmpAbs, mRts, mJmpInd. -/
def Obligations.M6502JumpsCallsAndReturns : Prop :=
  ∀ (i : Instr) (s : State),
    let t := fetched i s
    (∀ b1 b2, i.view = .m (.jmp b1 b2) → exec i s = .next { t with pc := word b1 b2 }) ∧
    (∀ b1 b2, i.view = .m (.jmpInd b1 b2) → exec i s = .next
      (let lo := memRead (word b1 b2) t
       let hi := memRead (word (b1 + 1) b2) lo.2
       { hi.2 with pc := word lo.1 hi.1 })) ∧
    (∀ b1 b2, i.view = .m (.jsr b1 b2) → exec i s = .next
      { push (lo8 (s.pc + 2)) (push (hi8 (s.pc + 2)) t) with pc := word b1 b2 }) ∧
    (i.view = .m .rts → exec i s = .next
      (let lo := pull t
       let hi := pull lo.2
       { hi.2 with pc := word lo.1 hi.1 + 1 })) ∧
    (i.view = .m .rti → exec i s = .next
      (let v := pull t
       let lo := pull { v.2 with m := { v.2.m with p := flagsOf v.1 } }
       let hi := pull lo.2
       { hi.2 with pc := word lo.1 hi.1 }))

/-- The eight branches: condition, target and extra cycles. Rules: 43_m6502_control.md R245, 43_m6502_control.md R246 to
R253, 30_encoding.md R121, 30_encoding.md R125.

Constructors:
mBpl, mBmi, mBvc, mBvs, mBcc, mBcs, mBne, mBeq. -/
def Obligations.M6502BranchesAndTheirCycles : Prop :=
  ∀ (i : Instr) (k : MCond) (b1 : Byte) (s : State), i.view = .m (.branch k b1) →
    let taken := match k with
      | .cc => s.m.p.c = false
      | .cs => s.m.p.c = true
      | .eq => s.m.p.z = true
      | .ne => s.m.p.z = false
      | .mi => s.m.p.n = true
      | .pl => s.m.p.n = false
      | .vc => s.m.p.v = false
      | .vs => s.m.p.v = true
    let t := fetched i s
    let target := t.pc + BitVec.ofInt 16 b1.toInt
    (taken → exec i s = .next
      { t with
        pc := target
        time := t.time + s.cfg.extra.branchTaken
          + (if target.toNat / 256 = t.pc.toNat / 256 then 0 else s.cfg.extra.branchCross) }) ∧
    (¬ taken → exec i s = .next t) ∧
    (Config.extraCycles.branchTaken = 1 ∧ Config.extraCycles.branchCross = 1 ∧ Config.extraCycles.pageCross = 1)

/-- BRK pushes pc0 + 2 and the status and loads pc from 0xFFFE. Rules: 43_m6502_control.md R254, 60_exceptions.md R585,
20_memory.md R92.

Constructors:
mBrk. -/
def Obligations.M6502BreakGoesThroughItsVector : Prop :=
  ∀ (i : Instr) (s : State), i.view = .m .brk →
    (let w := push (statusByte s.m.p) (push (lo8 (s.pc + 2)) (push (hi8 (s.pc + 2)) (fetched i s)))
     let u := { w with m := { w.m with p := { s.m.p with i := true } } }
     let lo := memRead 0xFFFE u
     let hi := memRead 0xFFFF lo.2
     exec i s = .next { hi.2 with pc := word lo.1 hi.1 } ∧ hi.2.errorCount = s.errorCount)

/-- The halt sentinel of both families, and a Z80 HALT elsewhere. Rules: 40_dispatch.md R159, 40_dispatch.md R160,
40_dispatch.md R171, 43_m6502_control.md R263, 46_z80_control_io.md R396. That the instruction mHaltSentinel away from
the idle address is the illegal opcode is the model's reading (log entry 18).

Constructors:
mHaltSentinel, zHalt. -/
def Obligations.HaltsAtAndAwayFromTheIdleAddress : Prop :=
  ∀ (i : Instr) (s : State),
    (i.view = .m .halt → s.pc = s.cfg.idleAddr → exec i s = .next { s with phase := .haltedAtIdle }) ∧
    (i.view = .m .halt → s.pc ≠ s.cfg.idleAddr →
      exec i s = .next
        { s with
          errorCount := s.errorCount + 1
          pc := s.pc + BitVec.ofNat 16 s.cfg.illegal.m6502.len
          time := s.time + s.cfg.illegal.m6502.cyc }) ∧
    (i.view = .z .halt → s.pc = s.cfg.idleAddr →
      exec i s = .next { s with z := { s.z with r := refreshed 1 s.z.r }, phase := .haltedAtIdle }) ∧
    (i.view = .z .halt → s.pc ≠ s.cfg.idleAddr →
      exec i s = .next
        { s with
          z := { s.z with r := refreshed 1 s.z.r }
          time := max (s.time + 4) s.endTime
          phase := .haltedElsewhere })

/-- The effective address and the page crossing of each M6502 addressing mode. Rules: 30_encoding.md R114, 30_encoding.md
R115, 30_encoding.md R116, 30_encoding.md R117, 30_encoding.md R118, 30_encoding.md R119, 20_memory.md R101. -/
def Obligations.M6502EffectiveAddresses : Prop :=
  ∀ (b1 b2 : Byte) (s : State),
    let ptr := fun (p : Byte) => let lo := memRead (BitVec.ofNat 16 p.toNat) s
      let hi := memRead (BitVec.ofNat 16 ((p.toNat + 1) % 256)) lo.2
      (lo.1, hi.1, hi.2)
    let abs := b1.toNat + 256 * b2.toNat
    MMode.ea (.zp b1) s = ⟨BitVec.ofNat 16 b1.toNat, false, s⟩ ∧
    MMode.ea (.zpx b1) s = ⟨BitVec.ofNat 16 ((b1.toNat + s.m.x.toNat) % 256), false, s⟩ ∧
    MMode.ea (.zpy b1) s = ⟨BitVec.ofNat 16 ((b1.toNat + s.m.y.toNat) % 256), false, s⟩ ∧
    MMode.ea (.abs b1 b2) s = ⟨BitVec.ofNat 16 abs, false, s⟩ ∧
    MMode.ea (.abx b1 b2) s =
      ⟨BitVec.ofNat 16 (abs + s.m.x.toNat), decide (255 < b1.toNat + s.m.x.toNat), s⟩ ∧
    MMode.ea (.aby b1 b2) s =
      ⟨BitVec.ofNat 16 (abs + s.m.y.toNat), decide (255 < b1.toNat + s.m.y.toNat), s⟩ ∧
    MMode.ea (.izx b1) s =
      (let p := ptr (b1 + s.m.x)
       ⟨BitVec.ofNat 16 (p.1.toNat + 256 * p.2.1.toNat), false, p.2.2⟩) ∧
    MMode.ea (.izy b1) s =
      (let p := ptr b1
       ⟨BitVec.ofNat 16 (p.1.toNat + 256 * p.2.1.toNat + s.m.y.toNat),
         decide (255 < p.1.toNat + s.m.y.toNat), p.2.2⟩)

/-- Push and Pull of the M6502, Push16 and Pop16 of the Z80. Rules: R30, R34. -/
def Obligations.StacksOfBothFamilies : Prop :=
  (∀ (v : Byte) (s : State),
    push v s = { memWrite (BitVec.ofNat 16 (0x0100 + s.m.sp.toNat)) v s with
      m := { s.m with sp := BitVec.ofNat 8 (s.m.sp.toNat + 255) } }) ∧
  (∀ (s : State),
    pull s = memRead (BitVec.ofNat 16 (0x0100 + (s.m.sp.toNat + 1) % 256))
      { s with m := { s.m with sp := BitVec.ofNat 8 (s.m.sp.toNat + 1) } }) ∧
  (∀ (v : Word) (s : State),
    push16 v s =
      (let s1 := { s with z := { s.z with sp := s.z.sp - 1 } }
       let s2 := memWrite (s.z.sp - 1) (BitVec.ofNat 8 (v.toNat / 256)) s1
       let s3 := { s2 with z := { s2.z with sp := s.z.sp - 2 } }
       memWrite (s.z.sp - 2) (BitVec.ofNat 8 v.toNat) s3)) ∧
  (∀ (s : State),
    let lo := memRead s.z.sp s
    let hi := memRead (s.z.sp + 1) { lo.2 with z := { lo.2.z with sp := s.z.sp + 1 } }
    pop16 s = (BitVec.ofNat 16 (lo.1.toNat + 256 * hi.1.toNat), { hi.2 with z := { hi.2.z with sp := s.z.sp + 2 } }))

/-- Byte registers are halves of the pairs; AF is A and the eight flags; the indexed address. Rules: 10_state.md R32,
44_z80_load_exchange_block.md R271, 30_encoding.md R130, 30_encoding.md R131, 20_memory.md R101. That AF is held as A
and eight flags is the model's form (log entry 6). -/
def Obligations.RegistersPairsAndIndexedAddresses : Prop :=
  (∀ (z : Z80Regs),
    z.bc.toNat = 256 * (R8.b.get z).toNat + (R8.c.get z).toNat ∧
    z.de.toNat = 256 * (R8.d.get z).toNat + (R8.e.get z).toNat ∧
    z.hl.toNat = 256 * (R8.h.get z).toNat + (R8.l.get z).toNat ∧
    R8.a.get z = z.a) ∧
  (∀ (r q : R8) (v : Byte) (z : Z80Regs), q.get (r.set v z) = if q = r then v else q.get z) ∧
  (∀ (p : RP) (v : Word) (z : Z80Regs), p.get (p.set v z) = v) ∧
  (∀ (x : XY) (v : Word) (z : Z80Regs), x.get (x.set v z) = v) ∧
  (∀ (q : QQ) (v : Word) (z : Z80Regs), q.get (q.set v z) = v) ∧
  (∀ (z : Z80Regs), (QQ.af.get z).toNat = 256 * z.a.toNat
    + (128 * z.f.s.toNat + 64 * z.f.z.toNat + 32 * z.f.f5.toNat + 16 * z.f.h.toNat
      + 8 * z.f.f3.toNat + 4 * z.f.pv.toNat + 2 * z.f.n.toNat + z.f.c.toNat)) ∧
  (∀ (x : XY) (d : Byte) (z : Z80Regs),
    ZMem.addr (.idx x d) z = BitVec.ofInt 16 ((x.get z).toNat + d.toInt) ∧ ZMem.addr .hl z = z.hl)

/-- The 8-bit loads into a register. Rules: 44_z80_load_exchange_block.md R272 to R275, 44_z80_load_exchange_block.md
R280, 44_z80_load_exchange_block.md R281, 44_z80_load_exchange_block.md R284 to R287.

Constructors:
zLd_B_n, zLd_A_atBC, zLd_C_n, zLd_D_n, zLd_A_atDE, zLd_E_n, zLd_H_n, zLd_L_n, zLd_A_atnn, zLd_A_n, zLd_B_B, zLd_B_C,
zLd_B_D, zLd_B_E, zLd_B_H, zLd_B_L, zLd_B_atHL, zLd_B_A, zLd_C_B, zLd_C_C, zLd_C_D, zLd_C_E, zLd_C_H, zLd_C_L,
zLd_C_atHL, zLd_C_A, zLd_D_B, zLd_D_C, zLd_D_D, zLd_D_E, zLd_D_H, zLd_D_L, zLd_D_atHL, zLd_D_A, zLd_E_B, zLd_E_C,
zLd_E_D, zLd_E_E, zLd_E_H, zLd_E_L, zLd_E_atHL, zLd_E_A, zLd_H_B, zLd_H_C, zLd_H_D, zLd_H_E, zLd_H_H, zLd_H_L,
zLd_H_atHL, zLd_H_A, zLd_L_B, zLd_L_C, zLd_L_D, zLd_L_E, zLd_L_H, zLd_L_L, zLd_L_atHL, zLd_L_A, zLd_A_B, zLd_A_C,
zLd_A_D, zLd_A_E, zLd_A_H, zLd_A_L, zLd_A_atHL, zLd_A_A, zLd_I_A, zLd_R_A, zLd_A_I, zLd_A_R, zLd_B_atIXd, zLd_C_atIXd,
zLd_D_atIXd, zLd_E_atIXd, zLd_H_atIXd, zLd_L_atIXd, zLd_A_atIXd, zLd_B_atIYd, zLd_C_atIYd, zLd_D_atIYd, zLd_E_atIYd,
zLd_H_atIYd, zLd_L_atIYd, zLd_A_atIYd. -/
def Obligations.Z80EightBitLoads : Prop :=
  ∀ (i : Instr) (s : State),
    let t := fetched i s
    (∀ r q, i.view = .z (.ldRR r q) → exec i s = .next { t with z := r.set (q.get t.z) t.z }) ∧
    (∀ r n, i.view = .z (.ldRN r n) → exec i s = .next { t with z := r.set n t.z }) ∧
    (∀ r m, i.view = .z (.ldRM r m) → exec i s = .next
      (let x := memRead (m.addr t.z) t
       { x.2 with z := r.set x.1 t.z })) ∧
    (∀ p, i.view = .z (.ldAP p) → exec i s = .next
      (let x := memRead (p.get t.z) t
       { x.2 with z := { t.z with a := x.1 } })) ∧
    (∀ lo hi, i.view = .z (.ldANn lo hi) → exec i s = .next
      (let x := memRead (BitVec.ofNat 16 (lo.toNat + 256 * hi.toNat)) t
       { x.2 with z := { t.z with a := x.1 } })) ∧
    (i.view = .z (.ldIRA .i) → exec i s = .next { t with z := { t.z with i := t.z.a } }) ∧
    (i.view = .z (.ldIRA .r) → exec i s = .next { t with z := { t.z with r := t.z.a } }) ∧
    (∀ k, i.view = .z (.ldAIR k) → exec i s = .next
      (let v := match k with
         | .i => t.z.i
         | .r => t.z.r
       withFlags (free35 t { withSZ v t.z.f with h := false, n := false, pv := t.z.iff2 })
         { t with z := { t.z with a := v } }))

/-- The 16-bit loads into a pair, an index register or SP. Rules: 44_z80_load_exchange_block.md R288 to R292,
44_z80_load_exchange_block.md R296, 44_z80_load_exchange_block.md R297, 00_scope.md R11.

Constructors:
zLd_BC_nn, zLd_DE_nn, zLd_HL_nn, zLd_HL_atnn, zLd_SP_nn, zLd_SP_HL, zLd_BC_atnn, zLd_DE_atnn, zLdEd_HL_atnn,
zLd_SP_atnn, zLd_IX_nn, zLd_IX_atnn, zLd_SP_IX, zLd_IY_nn, zLd_IY_atnn, zLd_SP_IY. -/
def Obligations.Z80SixteenBitLoads : Prop :=
  ∀ (i : Instr) (s : State),
    let t := fetched i s
    let pair := fun (lo hi : Byte) => BitVec.ofNat 16 (lo.toNat + 256 * hi.toNat)
    let load := fun (a : Word) =>
      let x := memRead a t
      let y := memRead (BitVec.ofNat 16 (a.toNat + 1)) x.2
      (pair x.1 y.1, y.2)
    (∀ p lo hi, i.view = .z (.ldPN p lo hi) → exec i s = .next { t with z := p.set (pair lo hi) t.z }) ∧
    (∀ lo hi, i.view = .z (.ldHLNn lo hi) → exec i s = .next
      { (load (pair lo hi)).2 with z := { t.z with hl := (load (pair lo hi)).1 } }) ∧
    (∀ p lo hi, i.view = .z (.ldPNn p lo hi) → exec i s = .next
      { (load (pair lo hi)).2 with z := p.set (load (pair lo hi)).1 t.z }) ∧
    (∀ p, i.view = .z (.ldSP p) → exec i s = .next { t with z := { t.z with sp := p.get t.z } })

/-- The stores of a byte and of a pair. Rules: 44_z80_load_exchange_block.md R276 to R279, 44_z80_load_exchange_block.md
R282, 44_z80_load_exchange_block.md R283, 44_z80_load_exchange_block.md R293 to R295, 00_scope.md R11.

Constructors:
zLd_atBC_A, zLd_atDE_A, zLd_atnn_HL, zLd_atnn_A, zLd_atHL_n, zLd_atHL_B, zLd_atHL_C, zLd_atHL_D, zLd_atHL_E,
zLd_atHL_H, zLd_atHL_L, zLd_atHL_A, zLd_atnn_BC, zLd_atnn_DE, zLdEd_atnn_HL, zLd_atnn_SP, zLd_atnn_IX, zLd_atIXd_n,
zLd_atIXd_B, zLd_atIXd_C, zLd_atIXd_D, zLd_atIXd_E, zLd_atIXd_H, zLd_atIXd_L, zLd_atIXd_A, zLd_atnn_IY, zLd_atIYd_n,
zLd_atIYd_B, zLd_atIYd_C, zLd_atIYd_D, zLd_atIYd_E, zLd_atIYd_H, zLd_atIYd_L, zLd_atIYd_A. -/
def Obligations.Z80Stores : Prop :=
  ∀ (i : Instr) (s : State),
    let t := fetched i s
    let nn := fun (lo hi : Byte) => BitVec.ofNat 16 (lo.toNat + 256 * hi.toNat)
    let store := fun (a w : Word) => memWrite (BitVec.ofNat 16 (a.toNat + 1)) (BitVec.ofNat 8 (w.toNat / 256))
      (memWrite a (BitVec.ofNat 8 w.toNat) t)
    (∀ m r, i.view = .z (.ldMR m r) → exec i s = .next (memWrite (m.addr t.z) (r.get t.z) t)) ∧
    (∀ m n, i.view = .z (.ldMN m n) → exec i s = .next (memWrite (m.addr t.z) n t)) ∧
    (∀ p, i.view = .z (.ldPA p) → exec i s = .next (memWrite (p.get t.z) t.z.a t)) ∧
    (∀ lo hi, i.view = .z (.ldNnA lo hi) → exec i s = .next (memWrite (nn lo hi) t.z.a t)) ∧
    (∀ lo hi, i.view = .z (.ldNnHL lo hi) → exec i s = .next (store (nn lo hi) t.z.hl)) ∧
    (∀ p lo hi, i.view = .z (.ldNnP p lo hi) → exec i s = .next (store (nn lo hi) (p.get t.z)))

/-- PUSH, POP and the exchanges. Rules: 44_z80_load_exchange_block.md R298 to R306, 10_state.md R33, 10_state.md R34.

Constructors:
zEx_AF_AFalt, zPop_BC, zPush_BC, zPop_DE, zPush_DE, zExx, zPop_HL, zEx_atSP_HL, zPush_HL, zEx_DE_HL, zPop_AF,
zPush_AF, zPop_IX, zEx_atSP_IX, zPush_IX, zPop_IY, zEx_atSP_IY, zPush_IY. -/
def Obligations.Z80PushPopAndExchanges : Prop :=
  ∀ (i : Instr) (s : State),
    let t := fetched i s
    (∀ p, i.view = .z (.push p) → exec i s = .next (push16 (p.get t.z) t)) ∧
    (∀ p, i.view = .z (.pop p) → exec i s = .next
      (let x := pop16 t
       { x.2 with z := p.set x.1 { t.z with sp := t.z.sp + 2 } })) ∧
    (i.view = .z .exDEHL → exec i s = .next { t with z := { t.z with de := t.z.hl, hl := t.z.de } }) ∧
    (i.view = .z .exAF → exec i s = .next
      { t with z := { t.z with a := t.z.aAlt, f := t.z.fAlt, aAlt := t.z.a, fAlt := t.z.f } }) ∧
    (i.view = .z .exx → exec i s = .next
      { t with z := { t.z with
        bc := t.z.bcAlt
        de := t.z.deAlt
        hl := t.z.hlAlt
        bcAlt := t.z.bc
        deAlt := t.z.de
        hlAlt := t.z.hl } }) ∧
    (∀ p, i.view = .z (.exSP p) → exec i s = .next
      (let lo := memRead t.z.sp t
       let hi := memRead (t.z.sp + 1) lo.2
       let w := memWrite (t.z.sp + 1) (BitVec.ofNat 8 ((p.get t.z).toNat / 256)) hi.2
       let u := memWrite t.z.sp (BitVec.ofNat 8 (p.get t.z).toNat) w
       { u with z := p.set (BitVec.ofNat 16 (lo.1.toNat + 256 * hi.1.toNat)) t.z }))

/-- LDI, LDD, LDIR and LDDR: one byte per pass. Rules: 44_z80_load_exchange_block.md R307 to R310, 30_encoding.md R140.

Constructors:
zLdi, zLdd, zLdir, zLddr. -/
def Obligations.Z80BlockTransfer : Prop :=
  ∀ (i : Instr) (d : Dir) (rep : Bool) (s : State), i.view = .z (.ldBlock d rep) →
    let t := fetched i s
    let x := memRead t.z.hl t
    let w := memWrite t.z.de x.1 x.2
    let bc := BitVec.ofNat 16 (t.z.bc.toNat + 65535)
    exec i s = .next (repeats (rep && decide (bc.toNat ≠ 0)) s
      (withFlags (free35 w { t.z.f with h := false, n := false, pv := decide (bc.toNat ≠ 0) })
        { w with z := { t.z with hl := stepped d t.z.hl, de := stepped d t.z.de, bc := bc } }))

/-- CPI, CPD, CPIR and CPDR: one comparison per pass. Rules: 44_z80_load_exchange_block.md R311 to R314, 30_encoding.md
R140, 45_z80_alu_rotate_bit.md R366.

Constructors:
zCpi, zCpd, zCpir, zCpdr. -/
def Obligations.Z80BlockSearch : Prop :=
  ∀ (i : Instr) (d : Dir) (rep : Bool) (s : State), i.view = .z (.cpBlock d rep) →
    let t := fetched i s
    let x := memRead t.z.hl t
    let bc := BitVec.ofNat 16 (t.z.bc.toNat + 65535)
    let r := BitVec.ofInt 8 (t.z.a.toNat - x.1.toNat)
    exec i s = .next (repeats (rep && decide (bc.toNat ≠ 0) && decide (t.z.a ≠ x.1)) s
      (withFlags
        (free35 x.2 { withSZ r t.z.f with
          h := decide (t.z.a.toNat % 16 < x.1.toNat % 16)
          pv := decide (bc.toNat ≠ 0)
          n := true })
        { x.2 with z := { t.z with hl := stepped d t.z.hl, bc := bc } }))

/-- ADD, ADC, SUB, SBC, CP and NEG: the exact sum or difference and its flags. Rules: 45_z80_alu_rotate_bit.md R320 to
R324, 45_z80_alu_rotate_bit.md R328, 45_z80_alu_rotate_bit.md R337, 45_z80_alu_rotate_bit.md R366.

Constructors:
zAdd_A_B, zAdd_A_C, zAdd_A_D, zAdd_A_E, zAdd_A_H, zAdd_A_L, zAdd_A_atHL, zAdd_A_A, zAdc_A_B, zAdc_A_C, zAdc_A_D,
zAdc_A_E, zAdc_A_H, zAdc_A_L, zAdc_A_atHL, zAdc_A_A, zSub_B, zSub_C, zSub_D, zSub_E, zSub_H, zSub_L, zSub_atHL,
zSub_A, zSbc_A_B, zSbc_A_C, zSbc_A_D, zSbc_A_E, zSbc_A_H, zSbc_A_L, zSbc_A_atHL, zSbc_A_A, zCp_B, zCp_C, zCp_D, zCp_E,
zCp_H, zCp_L, zCp_atHL, zCp_A, zAdd_A_n, zAdc_A_n, zSub_n, zSbc_A_n, zCp_n, zNeg, zAdd_A_atIXd, zAdc_A_atIXd,
zSub_atIXd, zSbc_A_atIXd, zCp_atIXd, zAdd_A_atIYd, zAdc_A_atIYd, zSub_atIYd, zSbc_A_atIYd, zCp_atIYd. -/
def Obligations.Z80AddSubtractCompareAndNegate : Prop :=
  ∀ (i : Instr) (s : State),
    let t := fetched i s
    let done := fun (y : Byte × ZFlags) (u : State) => withFlags y.2 { u with z := { t.z with a := y.1 } }
    (∀ src, i.view = .z (.alu .add src) → exec i s = .next
      (let x := zOperand src t
       done (zSum x.2 t.z.a x.1 false) x.2)) ∧
    (∀ src, i.view = .z (.alu .adc src) → exec i s = .next
      (let x := zOperand src t
       done (zSum x.2 t.z.a x.1 t.z.f.c) x.2)) ∧
    (∀ src, i.view = .z (.alu .sub src) → exec i s = .next
      (let x := zOperand src t
       done (zDifference x.2 t.z.a x.1 false) x.2)) ∧
    (∀ src, i.view = .z (.alu .sbc src) → exec i s = .next
      (let x := zOperand src t
       done (zDifference x.2 t.z.a x.1 t.z.f.c) x.2)) ∧
    (∀ src, i.view = .z (.alu .cp src) → exec i s = .next
      (let x := zOperand src t
       withFlags (zDifference x.2 t.z.a x.1 false).2 x.2)) ∧
    (i.view = .z (.gen .neg) → exec i s = .next (done (zDifference t 0 t.z.a false) t))

/-- AND, OR, XOR; DAA, CPL, CCF and SCF. Rules: 45_z80_alu_rotate_bit.md R325 to R327, 45_z80_alu_rotate_bit.md R335,
45_z80_alu_rotate_bit.md R336, 45_z80_alu_rotate_bit.md R338, 45_z80_alu_rotate_bit.md R339.

Constructors:
zDaa, zCpl, zScf, zCcf, zAnd_B, zAnd_C, zAnd_D, zAnd_E, zAnd_H, zAnd_L, zAnd_atHL, zAnd_A, zXor_B, zXor_C, zXor_D,
zXor_E, zXor_H, zXor_L, zXor_atHL, zXor_A, zOr_B, zOr_C, zOr_D, zOr_E, zOr_H, zOr_L, zOr_atHL, zOr_A, zAnd_n, zXor_n,
zOr_n, zAnd_atIXd, zXor_atIXd, zOr_atIXd, zAnd_atIYd, zXor_atIYd, zOr_atIYd. -/
def Obligations.Z80LogicAndGeneral : Prop :=
  ∀ (i : Instr) (s : State),
    let t := fetched i s
    (∀ src, i.view = .z (.alu .and src) → exec i s = .next
      (let x := zOperand src t
       withFlags (zLogic x.2 (t.z.a &&& x.1) true) { x.2 with z := { t.z with a := t.z.a &&& x.1 } })) ∧
    (∀ src, i.view = .z (.alu .or src) → exec i s = .next
      (let x := zOperand src t
       withFlags (zLogic x.2 (t.z.a ||| x.1) false) { x.2 with z := { t.z with a := t.z.a ||| x.1 } })) ∧
    (∀ src, i.view = .z (.alu .xor src) → exec i s = .next
      (let x := zOperand src t
       withFlags (zLogic x.2 (t.z.a ^^^ x.1) false) { x.2 with z := { t.z with a := t.z.a ^^^ x.1 } })) ∧
    (i.view = .z (.gen .daa) → exec i s = .next
      (let f := t.z.f
       let a := t.z.a.toNat
       let k := daaCorrection t.z.a f
       let r := BitVec.ofNat 8 (if f.n = true then a + 256 - k.1 else a + k.1)
       let h := if f.n = true then f.h && decide (a % 16 < 6) else decide (9 < a % 16)
       withFlags (free35 t { withSZ r f with h := h, pv := evenOnes r, c := k.2 })
         { t with z := { t.z with a := r } })) ∧
    (i.view = .z (.gen .cpl) → exec i s = .next
      (withFlags (free35 t { t.z.f with h := true, n := true })
        { t with z := { t.z with a := BitVec.ofNat 8 (255 - t.z.a.toNat) } })) ∧
    (i.view = .z (.gen .ccf) → exec i s = .next
      (withFlags (free35 t { t.z.f with h := t.z.f.c, n := false, c := !t.z.f.c }) t)) ∧
    (i.view = .z (.gen .scf) → exec i s = .next
      (withFlags (free35 t { t.z.f with h := false, n := false, c := true }) t))

/-- INC and DEC of a register or of a byte of memory. Rules: 45_z80_alu_rotate_bit.md R329 to R334, 20_memory.md R90.

Constructors:
zInc_B, zDec_B, zInc_C, zDec_C, zInc_D, zDec_D, zInc_E, zDec_E, zInc_H, zDec_H, zInc_L, zDec_L, zInc_atHL, zDec_atHL,
zInc_A, zDec_A, zInc_atIXd, zDec_atIXd, zInc_atIYd, zDec_atIYd. -/
def Obligations.Z80ByteIncrementsAndDecrements : Prop :=
  ∀ (i : Instr) (op : IncDec) (s : State),
    let t := fetched i s
    (∀ r, i.view = .z (.incDecR op r) → exec i s = .next
      (let y := zStepped op t (r.get t.z)
       withFlags y.2 { t with z := r.set y.1 t.z })) ∧
    (∀ m, i.view = .z (.incDecM op m) → exec i s = .next
      (let x := memRead (m.addr t.z) t
       let y := zStepped op x.2 x.1
       withFlags y.2 (memWrite (m.addr t.z) y.1 x.2)))

/-- ADD, ADC and SBC on HL, ADD on IX and IY, INC and DEC of a pair. Rules: 45_z80_alu_rotate_bit.md R340 to R347,
45_z80_alu_rotate_bit.md R366.

Constructors:
zInc_BC, zAdd_HL_BC, zDec_BC, zInc_DE, zAdd_HL_DE, zDec_DE, zInc_HL, zAdd_HL_HL, zDec_HL, zInc_SP, zAdd_HL_SP,
zDec_SP, zSbc_HL_BC, zAdc_HL_BC, zSbc_HL_DE, zAdc_HL_DE, zSbc_HL_HL, zAdc_HL_HL, zSbc_HL_SP, zAdc_HL_SP, zAdd_IX_BC,
zAdd_IX_DE, zAdd_IX_IX, zAdd_IX_SP, zInc_IX, zDec_IX, zAdd_IY_BC, zAdd_IY_DE, zAdd_IY_IY, zAdd_IY_SP, zInc_IY,
zDec_IY. -/
def Obligations.Z80SixteenBitArithmetic : Prop :=
  ∀ (i : Instr) (s : State),
    let t := fetched i s
    let sum := fun (a v : Word) => free35 t { t.z.f with
      h := decide (4095 < a.toNat % 4096 + v.toNat % 4096)
      n := false
      c := decide (65535 < a.toNat + v.toNat) }
    (∀ p, i.view = .z (.arith16 .add p) → exec i s = .next
      (withFlags (sum t.z.hl (p.get t.z))
        { t with z := { t.z with hl := BitVec.ofNat 16 (t.z.hl.toNat + (p.get t.z).toNat) } })) ∧
    (∀ x p, i.view = .z (.addXY x p) → exec i s = .next
      (withFlags (sum (x.get t.z) (p.get x t.z))
        { t with z := x.set (BitVec.ofNat 16 ((x.get t.z).toNat + (p.get x t.z).toNat)) t.z })) ∧
    (∀ p, i.view = .z (.arith16 .adc p) → exec i s = .next
      (let a := t.z.hl
       let v := p.get t.z
       let c := t.z.f.c.toNat
       let r := BitVec.ofNat 16 (a.toNat + v.toNat + c)
       withFlags (free35 t { t.z.f with
           s := decide (32768 ≤ r.toNat)
           z := decide (r.toNat = 0)
           h := decide (4095 < a.toNat % 4096 + v.toNat % 4096 + c)
           pv := outside16 (a.toInt + v.toInt + c)
           n := false
           c := decide (65535 < a.toNat + v.toNat + c) })
         { t with z := { t.z with hl := r } })) ∧
    (∀ p, i.view = .z (.arith16 .sbc p) → exec i s = .next
      (let a := t.z.hl
       let v := p.get t.z
       let c := t.z.f.c.toNat
       let r := BitVec.ofInt 16 (a.toNat - v.toNat - c)
       withFlags (free35 t { t.z.f with
           s := decide (32768 ≤ r.toNat)
           z := decide (r.toNat = 0)
           h := decide (a.toNat % 4096 < v.toNat % 4096 + c)
           pv := outside16 (a.toInt - v.toInt - c)
           n := true
           c := decide (a.toNat < v.toNat + c) })
         { t with z := { t.z with hl := r } })) ∧
    (∀ p, i.view = .z (.incDec16 .inc p) → exec i s = .next
      { t with z := p.set (BitVec.ofNat 16 ((p.get t.z).toNat + 1)) t.z }) ∧
    (∀ p, i.view = .z (.incDec16 .dec p) → exec i s = .next
      { t with z := p.set (BitVec.ofNat 16 ((p.get t.z).toNat + 65535)) t.z })

/-- The accumulator rotates and the rotates and shifts of the CB group. Rules: 45_z80_alu_rotate_bit.md R348 to R358,
20_memory.md R90.

Constructors:
zRlca, zRrca, zRla, zRra, zRlc_B, zRlc_C, zRlc_D, zRlc_E, zRlc_H, zRlc_L, zRlc_atHL, zRlc_A, zRrc_B, zRrc_C, zRrc_D,
zRrc_E, zRrc_H, zRrc_L, zRrc_atHL, zRrc_A, zRl_B, zRl_C, zRl_D, zRl_E, zRl_H, zRl_L, zRl_atHL, zRl_A, zRr_B, zRr_C,
zRr_D, zRr_E, zRr_H, zRr_L, zRr_atHL, zRr_A, zSla_B, zSla_C, zSla_D, zSla_E, zSla_H, zSla_L, zSla_atHL, zSla_A,
zSra_B, zSra_C, zSra_D, zSra_E, zSra_H, zSra_L, zSra_atHL, zSra_A, zSrl_B, zSrl_C, zSrl_D, zSrl_E, zSrl_H, zSrl_L,
zSrl_atHL, zSrl_A, zRlc_atIXd, zRrc_atIXd, zRl_atIXd, zRr_atIXd, zSla_atIXd, zSra_atIXd, zSrl_atIXd, zRlc_atIYd,
zRrc_atIYd, zRl_atIYd, zRr_atIYd, zSla_atIYd, zSra_atIYd, zSrl_atIYd. -/
def Obligations.Z80RotatesAndShifts : Prop :=
  ∀ (i : Instr) (s : State),
    let t := fetched i s
    (∀ op, i.view = .z (.accRot op) → exec i s = .next
      (let y := zRotated (accRotOf op) t.z.a t.z.f.c
       withFlags (free35 t { t.z.f with h := false, n := false, c := y.2 })
         { t with z := { t.z with a := y.1 } })) ∧
    (∀ op tgt, i.view = .z (.rot op tgt) → exec i s = .next
      (let x := zTarget tgt t
       let y := zRotated op x.1 t.z.f.c
       withFlags (zShifted x.2 y.1 y.2) (zWriteBack tgt y.1 x.2)))

/-- RLD and RRD; BIT, SET and RES. Rules: 45_z80_alu_rotate_bit.md R359 to R365, 20_memory.md R90.

Constructors:
zBit_0_B, zBit_0_C, zBit_0_D, zBit_0_E, zBit_0_H, zBit_0_L, zBit_0_atHL, zBit_0_A, zBit_1_B, zBit_1_C, zBit_1_D,
zBit_1_E, zBit_1_H, zBit_1_L, zBit_1_atHL, zBit_1_A, zBit_2_B, zBit_2_C, zBit_2_D, zBit_2_E, zBit_2_H, zBit_2_L,
zBit_2_atHL, zBit_2_A, zBit_3_B, zBit_3_C, zBit_3_D, zBit_3_E, zBit_3_H, zBit_3_L, zBit_3_atHL, zBit_3_A, zBit_4_B,
zBit_4_C, zBit_4_D, zBit_4_E, zBit_4_H, zBit_4_L, zBit_4_atHL, zBit_4_A, zBit_5_B, zBit_5_C, zBit_5_D, zBit_5_E,
zBit_5_H, zBit_5_L, zBit_5_atHL, zBit_5_A, zBit_6_B, zBit_6_C, zBit_6_D, zBit_6_E, zBit_6_H, zBit_6_L, zBit_6_atHL,
zBit_6_A, zBit_7_B, zBit_7_C, zBit_7_D, zBit_7_E, zBit_7_H, zBit_7_L, zBit_7_atHL, zBit_7_A, zRes_0_B, zRes_0_C,
zRes_0_D, zRes_0_E, zRes_0_H, zRes_0_L, zRes_0_atHL, zRes_0_A, zRes_1_B, zRes_1_C, zRes_1_D, zRes_1_E, zRes_1_H,
zRes_1_L, zRes_1_atHL, zRes_1_A, zRes_2_B, zRes_2_C, zRes_2_D, zRes_2_E, zRes_2_H, zRes_2_L, zRes_2_atHL, zRes_2_A,
zRes_3_B, zRes_3_C, zRes_3_D, zRes_3_E, zRes_3_H, zRes_3_L, zRes_3_atHL, zRes_3_A, zRes_4_B, zRes_4_C, zRes_4_D,
zRes_4_E, zRes_4_H, zRes_4_L, zRes_4_atHL, zRes_4_A, zRes_5_B, zRes_5_C, zRes_5_D, zRes_5_E, zRes_5_H, zRes_5_L,
zRes_5_atHL, zRes_5_A, zRes_6_B, zRes_6_C, zRes_6_D, zRes_6_E, zRes_6_H, zRes_6_L, zRes_6_atHL, zRes_6_A, zRes_7_B,
zRes_7_C, zRes_7_D, zRes_7_E, zRes_7_H, zRes_7_L, zRes_7_atHL, zRes_7_A, zSet_0_B, zSet_0_C, zSet_0_D, zSet_0_E,
zSet_0_H, zSet_0_L, zSet_0_atHL, zSet_0_A, zSet_1_B, zSet_1_C, zSet_1_D, zSet_1_E, zSet_1_H, zSet_1_L, zSet_1_atHL,
zSet_1_A, zSet_2_B, zSet_2_C, zSet_2_D, zSet_2_E, zSet_2_H, zSet_2_L, zSet_2_atHL, zSet_2_A, zSet_3_B, zSet_3_C,
zSet_3_D, zSet_3_E, zSet_3_H, zSet_3_L, zSet_3_atHL, zSet_3_A, zSet_4_B, zSet_4_C, zSet_4_D, zSet_4_E, zSet_4_H,
zSet_4_L, zSet_4_atHL, zSet_4_A, zSet_5_B, zSet_5_C, zSet_5_D, zSet_5_E, zSet_5_H, zSet_5_L, zSet_5_atHL, zSet_5_A,
zSet_6_B, zSet_6_C, zSet_6_D, zSet_6_E, zSet_6_H, zSet_6_L, zSet_6_atHL, zSet_6_A, zSet_7_B, zSet_7_C, zSet_7_D,
zSet_7_E, zSet_7_H, zSet_7_L, zSet_7_atHL, zSet_7_A, zRrd, zRld, zBit_0_atIXd, zBit_1_atIXd, zBit_2_atIXd,
zBit_3_atIXd, zBit_4_atIXd, zBit_5_atIXd, zBit_6_atIXd, zBit_7_atIXd, zRes_0_atIXd, zRes_1_atIXd, zRes_2_atIXd,
zRes_3_atIXd, zRes_4_atIXd, zRes_5_atIXd, zRes_6_atIXd, zRes_7_atIXd, zSet_0_atIXd, zSet_1_atIXd, zSet_2_atIXd,
zSet_3_atIXd, zSet_4_atIXd, zSet_5_atIXd, zSet_6_atIXd, zSet_7_atIXd, zBit_0_atIYd, zBit_1_atIYd, zBit_2_atIYd,
zBit_3_atIYd, zBit_4_atIYd, zBit_5_atIYd, zBit_6_atIYd, zBit_7_atIYd, zRes_0_atIYd, zRes_1_atIYd, zRes_2_atIYd,
zRes_3_atIYd, zRes_4_atIYd, zRes_5_atIYd, zRes_6_atIYd, zRes_7_atIYd, zSet_0_atIYd, zSet_1_atIYd, zSet_2_atIYd,
zSet_3_atIYd, zSet_4_atIYd, zSet_5_atIYd, zSet_6_atIYd, zSet_7_atIYd. -/
def Obligations.Z80DigitRotatesAndBitInstructions : Prop :=
  ∀ (i : Instr) (s : State),
    let t := fetched i s
    (i.view = .z .rld → exec i s = .next
      (let x := memRead t.z.hl t
       let a := BitVec.ofNat 8 (t.z.a.toNat / 16 * 16 + x.1.toNat / 16)
       let w := memWrite t.z.hl (BitVec.ofNat 8 (x.1.toNat % 16 * 16 + t.z.a.toNat % 16)) x.2
       withFlags (zLoaded x.2 a) { w with z := { t.z with a := a } })) ∧
    (i.view = .z .rrd → exec i s = .next
      (let x := memRead t.z.hl t
       let a := BitVec.ofNat 8 (t.z.a.toNat / 16 * 16 + x.1.toNat % 16)
       let w := memWrite t.z.hl (BitVec.ofNat 8 (t.z.a.toNat % 16 * 16 + x.1.toNat / 16)) x.2
       withFlags (zLoaded x.2 a) { w with z := { t.z with a := a } })) ∧
    (∀ b tgt, i.view = .z (.bit b tgt) → exec i s = .next
      (let x := zTarget tgt t
       withFlags (free35 x.2 { t.z.f with
           s := freeFlag x.2 7
           z := !x.1.getLsbD b
           h := true
           pv := freeFlag x.2 2
           n := false }) x.2)) ∧
    (∀ b tgt, i.view = .z (.setB b tgt) → exec i s = .next
      (let x := zTarget tgt t
       zWriteBack tgt (BitVec.ofNat 8 (if x.1.getLsbD b then x.1.toNat else x.1.toNat + 2 ^ b)) x.2)) ∧
    (∀ b tgt, i.view = .z (.resB b tgt) → exec i s = .next
      (let x := zTarget tgt t
       zWriteBack tgt (BitVec.ofNat 8 (if x.1.getLsbD b then x.1.toNat - 2 ^ b else x.1.toNat)) x.2))

/-- JP, JR and DJNZ: condition, target and extra cycles. Rules: 46_z80_control_io.md R380 to R387, 30_encoding.md R140.

Constructors:
zDjnz_e, zJr_e, zJr_NZ_e, zJr_Z_e, zJr_NC_e, zJr_C_e, zJp_NZ_nn, zJp_nn, zJp_Z_nn, zJp_NC_nn, zJp_C_nn, zJp_PO_nn,
zJp_atHL, zJp_PE_nn, zJp_P_nn, zJp_M_nn, zJp_atIX, zJp_atIY. -/
def Obligations.Z80JumpsAndTheirCycles : Prop :=
  ∀ (i : Instr) (s : State),
    let t := fetched i s
    let there := fun (lo hi : Byte) => BitVec.ofNat 16 (lo.toNat + 256 * hi.toNat)
    let near := fun (e : Byte) => BitVec.ofInt 16 (t.pc.toNat + e.toInt)
    (∀ lo hi, i.view = .z (.jp lo hi) → exec i s = .next { t with pc := there lo hi }) ∧
    (∀ k lo hi, i.view = .z (.jpCC k lo hi) →
      (conditionHolds k s.z.f → exec i s = .next { t with pc := there lo hi }) ∧
      (¬ conditionHolds k s.z.f → exec i s = .next t)) ∧
    (∀ p, i.view = .z (.jpHL p) → exec i s = .next { t with pc := p.get s.z }) ∧
    (∀ e, i.view = .z (.jr e) → exec i s = .next { t with pc := near e }) ∧
    (∀ k e, i.view = .z (.jrCC k e) →
      (conditionHolds k s.z.f → exec i s = .next { t with pc := near e, time := t.time + s.cfg.extra.jrTaken }) ∧
      (¬ conditionHolds k s.z.f → exec i s = .next t)) ∧
    (∀ e, i.view = .z (.djnz e) →
      let b := BitVec.ofNat 8 ((R8.b.get s.z).toNat + 255)
      let u := { t with z := R8.b.set b t.z }
      (b.toNat ≠ 0 → exec i s = .next { u with pc := near e, time := t.time + s.cfg.extra.djnzTaken }) ∧
      (b.toNat = 0 → exec i s = .next u)) ∧
    (Config.extraCycles.jrTaken = 5 ∧ Config.extraCycles.djnzTaken = 5 ∧ Config.extraCycles.blockRepeat = 5)

/-- CALL, RET, RETI, RETN and RST. Rules: 46_z80_control_io.md R388 to R394, 30_encoding.md R140, 60_exceptions.md R585.

Constructors:
zRet_NZ, zCall_NZ_nn, zRst_00H, zRet_Z, zRet, zCall_Z_nn, zCall_nn, zRst_08H, zRet_NC, zCall_NC_nn, zRst_10H, zRet_C,
zCall_C_nn, zRst_18H, zRet_PO, zCall_PO_nn, zRst_20H, zRet_PE, zCall_PE_nn, zRst_28H, zRet_P, zCall_P_nn, zRst_30H,
zRet_M, zCall_M_nn, zRst_38H, zRetn, zReti. -/
def Obligations.Z80CallsReturnsAndRestarts : Prop :=
  ∀ (i : Instr) (s : State),
    let t := fetched i s
    let called := push16 t.pc t
    let x := pop16 t
    let there := fun (lo hi : Byte) => BitVec.ofNat 16 (lo.toNat + 256 * hi.toNat)
    (∀ lo hi, i.view = .z (.call lo hi) → exec i s = .next { called with pc := there lo hi }) ∧
    (∀ k lo hi, i.view = .z (.callCC k lo hi) →
      (conditionHolds k s.z.f → exec i s = .next 
        { called with pc := there lo hi, time := t.time + s.cfg.extra.callTaken }) ∧
      (¬ conditionHolds k s.z.f → exec i s = .next t)) ∧
    (i.view = .z .ret → exec i s = .next { x.2 with pc := x.1 }) ∧
    (∀ k, i.view = .z (.retCC k) →
      (conditionHolds k s.z.f → exec i s = .next { x.2 with pc := x.1, time := t.time + s.cfg.extra.retTaken }) ∧
      (¬ conditionHolds k s.z.f → exec i s = .next t)) ∧
    (i.view = .z .reti → exec i s = .next { x.2 with pc := x.1 }) ∧
    (i.view = .z .retn → exec i s = .next { x.2 with pc := x.1, z := { x.2.z with iff1 := s.z.iff2 } }) ∧
    (∀ y, i.view = .z (.rst y) → y ≤ 7 ∧ exec i s = .next { called with pc := BitVec.ofNat 16 (8 * y) }) ∧
    (Config.extraCycles.callTaken = 7 ∧ Config.extraCycles.retTaken = 6)

/-- NOP, DI, EI, IM; IN and OUT of one byte. Rules: 46_z80_control_io.md R395, 46_z80_control_io.md R397 to R401,
46_z80_control_io.md R406, 46_z80_control_io.md R407, 20_memory.md R84, 20_memory.md R85, 20_memory.md R89. What a
machine's ports read is a field of its configuration (log entry 3).

Constructors:
zNop, zOut_atn_A, zIn_A_atn, zDi, zEi, zIn_B_atC, zOut_atC_B, zIn_C_atC, zOut_atC_C, zIn_D_atC, zOut_atC_D, zIn_E_atC,
zOut_atC_E, zIn_H_atC, zOut_atC_H, zIn_L_atC, zOut_atC_L, zIn_A_atC, zOut_atC_A, zIm_0, zIm_1, zIm_2. -/
def Obligations.Z80ControlAndPorts : Prop :=
  ∀ (i : Instr) (s : State),
    let t := fetched i s
    (i.view = .z .nop → exec i s = .next t) ∧
    (i.view = .z .di → exec i s = .next { t with z := { t.z with iff1 := false, iff2 := false } }) ∧
    (i.view = .z .ei → exec i s = .next { t with z := { t.z with iff1 := true, iff2 := true } }) ∧
    (∀ k, i.view = .z (.im k) → exec i s = .next { t with z := { t.z with im := k } }) ∧
    (∀ n, i.view = .z (.inAN n) → exec i s = .next
      (let x := portIn (BitVec.ofNat 16 (256 * s.z.a.toNat + n.toNat)) t
       { x.2 with z := { t.z with a := x.1 } })) ∧
    (∀ r, i.view = .z (.inRC r) → exec i s = .next
      (let x := portIn s.z.bc t
       withFlags (zLoaded x.2 x.1) { x.2 with z := r.set x.1 t.z })) ∧
    (∀ n, i.view = .z (.outNA n) →
      exec i s = .next (portOut (BitVec.ofNat 16 (256 * s.z.a.toNat + n.toNat)) s.z.a t)) ∧
    (∀ r, i.view = .z (.outCR r) → exec i s = .next (portOut s.z.bc (r.get s.z) t)) ∧
    (∀ port : Word, (portIn port s).1 = s.cfg.portIn.byte ∧ (s.cfg.portIn.call = none → (portIn port s).2 = s)) ∧
    (Config.ayMachine.portIn = ⟨0xFF, none⟩ ∧ Config.ayMachine.portOut = some .ayPort)

/-- INI, IND, OUTI, OUTD and their repeating forms: one byte per pass. Rules: 46_z80_control_io.md R402 to R405,
46_z80_control_io.md R408 to R411, 30_encoding.md R140.

Constructors:
zIni, zOuti, zInd, zOutd, zInir, zOtir, zIndr, zOtdr. -/
def Obligations.Z80BlockInputAndOutput : Prop :=
  ∀ (i : Instr) (d : Dir) (rep : Bool) (s : State),
    let t := fetched i s
    let b := BitVec.ofNat 8 ((R8.b.get t.z).toNat + 255)
    let regs := R8.b.set b t.z
    let done := fun (w : State) => repeats (rep && decide (b.toNat ≠ 0)) s
      (withFlags
        (free35 w { t.z.f with
          s := freeFlag w 7
          z := decide (b.toNat = 0)
          h := freeFlag w 4
          pv := freeFlag w 2
          n := true })
        { w with z := { regs with hl := stepped d t.z.hl } })
    (i.view = .z (.inBlock d rep) → exec i s = .next 
      (let x := portIn t.z.bc t
       done (memWrite t.z.hl x.1 x.2))) ∧
    (i.view = .z (.outBlock d rep) → exec i s = .next
      (let x := memRead t.z.hl t
       done (portOut regs.bc x.1 x.2)))

/-- A step inside a slice runs the instruction that stands at pc. Rules: 40_dispatch.md R152, 40_dispatch.md R153,
40_dispatch.md R155, 20_memory.md R79, 20_memory.md R87. -/
def Obligations.StepRunsTheDecodedInstruction : Prop :=
  ∀ (s : State) (c : Caller) (i : Instr),
    s.control = .slice c → s.phase ≠ .haltedAtIdle → s.phase ≠ .haltedElsewhere → s.time < s.endTime →
      decode s.cfg.family (decide (s.pc = s.cfg.idleAddr)) (ptRead s s.pc) (ptRead s (s.pc + 1)) (ptRead s (s.pc + 2))
        (ptRead s (s.pc + 3)) = .instr i →
      step s = exec i s

/-- An illegal opcode is counted and skipped, and nothing else changes. Rules: 40_dispatch.md R158, 30_encoding.md R126,
30_encoding.md R137, 40_dispatch.md R171, 60_exceptions.md R572. -/
def Obligations.IllegalOpcodeIsCountedAndSkipped : Prop :=
  (∀ (s : State) (c : Caller) (k : Illegal),
    s.control = .slice c → s.phase ≠ .haltedAtIdle → s.phase ≠ .haltedElsewhere → s.time < s.endTime →
      decode s.cfg.family (decide (s.pc = s.cfg.idleAddr)) (ptRead s s.pc) (ptRead s (s.pc + 1)) (ptRead s (s.pc + 2))
        (ptRead s (s.pc + 3)) = .illegal k →
      let n := match k with
        | .m6502 => 0
        | .z80Prefix => 1
        | _ => 2
      step s = .next
        { s with
          errorCount := s.errorCount + 1
          pc := s.pc + BitVec.ofNat 16 (s.cfg.illegal.entry k).len
          time := s.time + (s.cfg.illegal.entry k).cyc
          z := { s.z with r := if k = .m6502 then s.z.r else refreshed n s.z.r } }) ∧
  (∀ k : Illegal, Config.illegalCosts.entry k = match k with
    | .m6502 => ⟨1, 2⟩
    | .z80Cb => ⟨2, 8⟩
    | .z80Ed => ⟨2, 8⟩
    | .z80Prefix => ⟨1, 4⟩
    | .z80IndexCb => ⟨4, 16⟩)

/-- run(end) sets the bound; the slice ends when its time is up or its CPU has halted. Rules: 40_dispatch.md R151,
40_dispatch.md R152, 40_dispatch.md R161, 40_dispatch.md R166. -/
def Obligations.RunBeginsAndEndsASlice : Prop :=
  (∀ (s : State) (cs : List HostCall) (bound : Int),
    s.control = .host → s.calls = .core (.run bound) :: cs →
      step s = .next { s with calls := cs, endTime := bound, phase := .running, control := .slice .direct }) ∧
  (∀ (s : State), s.control = .slice .direct →
    ((s.phase = .running ∨ s.phase = .reset) → s.endTime ≤ s.time →
      step s = .next { s with results := .stopped .timeUp :: s.results, control := .host }) ∧
    (s.phase = .haltedAtIdle →
      step s = .next { s with results := .stopped .haltedAtIdle :: s.results, control := .host }) ∧
    (s.phase = .haltedElsewhere →
      step s = .next { s with results := .stopped .haltedElsewhere :: s.results, control := .host }))

/-- No step faults and none is refused, from any state. Rules: 40_dispatch.md R168, 60_exceptions.md R570,
60_exceptions.md R573. -/
def Obligations.EveryStepAnswersNext : Prop :=
  ∀ s : State, ∃ t : State, step s = .next t

/-- What an instruction costs, where it leaves pc, and how far a slice overshoots. Rules: 40_dispatch.md R153,
40_dispatch.md R154, 40_dispatch.md R156, 40_dispatch.md R157, 40_dispatch.md R162, 40_dispatch.md R169,
30_encoding.md R124, 30_encoding.md R139. That the costs are fields of the configuration is log entry 16, the
callbacks log entry 17. -/
def Obligations.InstructionTimeAndPc : Prop :=
  (∀ (i : Instr) (s t : State), exec i s = .next t →
    (i.view.halts = false → s.time + i.cyc s.cfg ≤ t.time) ∧
    (i.view.halts = false → i.family = s.cfg.family → s.cfg.standardCosts → t.time ≤ s.time + maxCost i.family) ∧
    (i.view.transfers = false → t.pc = s.pc + BitVec.ofNat 16 i.row.len)) ∧
  (∀ i : Instr, i.cyc (Config.machineOf i.family) = i.row.cyc) ∧
  (∀ (s t : State) (c : Caller),
    s.control = .slice c → s.phase ≠ .haltedAtIdle → s.phase ≠ .haltedElsewhere → s.time < s.endTime → step s = .next t →
      s.time ≤ t.time ∧ (noCallback s.cfg → t.endTime = s.endTime) ∧
      (s.cfg.standardCosts → t.time ≤ s.endTime + (maxCost s.cfg.family - 1) ∧
        (t.phase = .haltedAtIdle ∨ s.time + 2 ≤ t.time)))

/-- What no instruction changes. Rules: 10_state.md R20, 10_state.md R43, 40_dispatch.md R150, 40_dispatch.md R168,
20_memory.md R88, 20_memory.md R91. The callbacks are log entry 17, the registers of the other family log entry 26. -/
def Obligations.InstructionFrame : Prop :=
  ∀ (i : Instr) (s t : State), exec i s = .next t →
    (t.cfg = s.cfg ∧ t.control = s.control ∧ t.calls = s.calls ∧ t.results = s.results ∧
      t.unmappedFill = s.unmappedFill) ∧
    (t.nextPlayTime = s.nextPlayTime ∧ t.playPeriod = s.playPeriod ∧ t.suspended = s.suspended ∧
      t.started = s.started ∧ t.initAddr = s.initAddr ∧ t.playAddr = s.playAddr ∧ t.track = s.track ∧
      t.image = s.image ∧ t.playCalls = s.playCalls ∧ t.voiceMute = s.voiceMute ∧ t.tempo = s.tempo) ∧
    (i.family = .m6502 → t.z = s.z ∧ t.ay = s.ay) ∧
    (i.family = .z80 → t.m = s.m) ∧
    (i ≠ .mHaltSentinel → t.errorCount = s.errorCount) ∧
    (i.view.halts = false → t.phase = s.phase) ∧
    (noCallback s.cfg → t.endTime = s.endTime) ∧
    ((∀ a, noBank s.cfg a) → t.readPage = s.readPage ∧ t.writePage = s.writePage) ∧
    (noCallback s.cfg → (∀ a, noBank s.cfg a) → t.refusals = s.refusals)

/-- An instruction changes no byte but those at the write locations of the addresses it stores to. Rules: 20_memory.md
R72, 20_memory.md R74, 20_memory.md R81, 20_memory.md R83, 20_memory.md R91, 20_memory.md R94. -/
def Obligations.MemoryFrame : Prop :=
  ∀ (i : Instr) (s t : State), exec i s = .next t → (∀ a ∈ storesTo i s, noBank s.cfg a) →
    (∀ b : Word, (∀ a ∈ storesTo i s, resolveRead s b ≠ resolveWrite s a) → ptRead t b = ptRead s b) ∧
    (storesTo i s = [] → ∀ b : Word, ptRead t b = ptRead s b)

/-- A plain store is read back exactly where it lies; a bank handler switches its window; a callback does what it may.
Rules: 20_memory.md R72 to R74, 20_memory.md R80, 20_memory.md R81, 20_memory.md R88, 20_memory.md R94, 20_memory.md
R98, 10_state.md R41, 10_state.md R42, 40_dispatch.md R165, 60_exceptions.md R570 to R571, 60_exceptions.md R579,
93_implementation_defined.md U15, U17. What a missing bank shows is a field of the handler, since the spec states it
twice (log entry 12); a bank that ends beyond the ROM is the mapping call's refusal (log entry 12); the name of the
refusal of run and start_track in a callback, and that the callbacks are fields of the configuration, are the model's
(log entry 17). -/
def Obligations.StoreThenLoad : Prop :=
  (∀ (s : State) (a b : Word) (v : Byte), MemoryInv s → writeHandler s.cfg a = none →
    ptRead (memWrite a v s) b =
      if resolveRead s b = resolveWrite s a ∧ (resolveWrite s a).region ≠ .unmappedRead ∧
          (resolveWrite s a).region ≠ .zeroFill then v
      else ptRead s b) ∧
  (∀ (s : State) (a : Word) (v : Byte), writeHandler s.cfg a = none → (resolveWrite s a).region = .unmappedWrite →
    (∀ b : Word, (resolveRead s b).region ≠ .unmappedWrite) → ∀ b : Word, ptRead (memWrite a v s) b = ptRead s b) ∧
  (∀ (s : State) (a : Word), readHandler s.cfg a = none → memRead a s = (ptRead s a, s)) ∧
  (∀ (s : State) (a : Word),
    ((resolveRead s a).region = .unmappedRead → ptRead s a = s.unmappedFill) ∧
    ((resolveRead s a).region = .zeroFill → ptRead s a = 0)) ∧
  (∀ (s : State) (a : Word) (v : Byte) (window size rom : Nat) (missing : MissingBank),
    MemoryInv s → writeHandler s.cfg a = some (.bank window size rom missing) →
    window % s.cfg.pageSize = 0 → size % s.cfg.pageSize = 0 → s.cfg.pageSize ≤ size → window + size ≤ 65536 →
    let t := memWrite a v s
    let first := v.toNat * size
    let rest := regionSize s (.region rom)
    t = { s with readPage := t.readPage, writePage := t.writePage, warning := t.warning, refusals := t.refusals } ∧
    (∀ b : Word, b.toNat < window ∨ window + size ≤ b.toNat → ptRead t b = ptRead s b) ∧
    (first + size ≤ rest → t.warning = s.warning ∧ t.refusals = s.refusals ∧
      ∀ b : Word, window ≤ b.toNat → b.toNat < window + size →
        ptRead t b = locRead s ⟨.region rom, first + (b.toNat - window)⟩ ∧
        (resolveWrite t b).region = .unmappedWrite) ∧
    (first < rest → rest < first + size →
      t = { s with refusals := .misalignedMap :: s.refusals, warning := some "bad page mapping" }) ∧
    (rest ≤ first → t.warning = some "bank data missing" ∧ t.refusals = s.refusals ∧
      ∀ b : Word, window ≤ b.toNat → b.toNat < window + size →
        ptRead t b = (if missing = .unmapped then s.unmappedFill else 0) ∧
        (resolveWrite t b).region = .unmappedWrite)) ∧
  (∀ (s : State) (c : Callback),
    let t := match c with
      | .setEndTime e => { s with endTime := e }
      | .setTime _ => { s with refusals := .setTimeInCallback :: s.refusals }
      | .run => { s with refusals := .callInCallback :: s.refusals }
      | .startTrack => { s with refusals := .callInCallback :: s.refusals }
    (∀ (a : Word) (v : Byte), writeHandler s.cfg a = some (.callback c) → memWrite a v s = t) ∧
    (∀ (a : Word) (b : Byte), readHandler s.cfg a = some (.callback c b) → memRead a s = (b, t)) ∧
    (∀ (port : Word) (v : Byte), s.cfg.portOut = some (.callback c) → portOut port v s = t) ∧
    (∀ port : Word, s.cfg.portIn.call = some c → portIn port s = (s.cfg.portIn.byte, t)))

/-- map_code and map_mem install exactly the entries of their window, or are refused. Rules: 20_memory.md R75,
20_memory.md R76, 20_memory.md R77. -/
def Obligations.MappingCallsInstallOrAreRefused : Prop :=
  (∀ (s : State) (start size : Nat) (data : PageEntry) (mirror : Option Nat),
    let ps := s.cfg.pageSize
    let m := mirror.getD size
    let t := applyMap (.mapCode start size data mirror) s
    let ok := start % ps = 0 ∧ size % ps = 0 ∧ ps ≤ size ∧ start + size ≤ 65536 ∧ m % ps = 0 ∧ ps ≤ m ∧
      data.offset + min size m ≤ regionSize s data.region
    (ok → t = { s with readPage := t.readPage, writePage := t.writePage } ∧
      t.readPage.length = s.readPage.length ∧ t.writePage.length = s.writePage.length ∧
      (∀ i < s.readPage.length, t.readPage[i]? =
        if start / ps ≤ i ∧ i < (start + size) / ps then some ⟨data.region, data.offset + (i - start / ps) * ps % m⟩
        else s.readPage[i]?) ∧
      (∀ i < s.writePage.length, t.writePage[i]? =
        if start / ps ≤ i ∧ i < (start + size) / ps then some ⟨.unmappedWrite, 0⟩ else s.writePage[i]?)) ∧
    (¬ ok → t = { s with refusals := .misalignedMap :: s.refusals, warning := some "bad page mapping" })) ∧
  (∀ (s : State) (start size : Nat) (w r : PageEntry),
    let ps := s.cfg.pageSize
    let t := applyMap (.mapMem start size w r) s
    let ok := start % ps = 0 ∧ size % ps = 0 ∧ ps ≤ size ∧ start + size ≤ 65536 ∧
      w.offset + size ≤ regionSize s w.region ∧ r.offset + size ≤ regionSize s r.region
    (ok → t = { s with readPage := t.readPage, writePage := t.writePage } ∧
      t.readPage.length = s.readPage.length ∧ t.writePage.length = s.writePage.length ∧
      (∀ i < s.readPage.length, t.readPage[i]? =
        if start / ps ≤ i ∧ i < (start + size) / ps then some ⟨r.region, r.offset + (i - start / ps) * ps⟩
        else s.readPage[i]?) ∧
      (∀ i < s.writePage.length, t.writePage[i]? =
        if start / ps ≤ i ∧ i < (start + size) / ps then some ⟨w.region, w.offset + (i - start / ps) * ps⟩
        else s.writePage[i]?)) ∧
    (¬ ok → t = { s with refusals := .misalignedMap :: s.refusals, warning := some "bad page mapping" }))

/-- Every step keeps the page table inside its regions and memory in canonical form. Rules: 10_state.md R40, 10_state.md
R41, 10_state.md R42, 20_memory.md R72, 20_memory.md R75, 20_memory.md R76. -/
def Obligations.EveryStepKeepsMemoryInv : Prop :=
  ∀ s t : State, MemoryInv s → step s = .next t → MemoryInv t

/-- Every step keeps the chips' counters in range and every voice in step with what it reported. Rules: 10_state.md R45,
10_state.md R47 to R50, 10_state.md R51, 47_nes_apu.md R456, 48_ay_pokey.md R471, 48_ay_pokey.md R493, 48_ay_pokey.md
R514. -/
def Obligations.EveryStepKeepsChipInv : Prop :=
  ∀ s t : State, ChipInv s → step s = .next t → ChipInv t

/-- On every channel the deltas sent during a step are the change of the amplitudes last reported. Rules: 10_state.md R45,
10_state.md R66, 20_memory.md R96, 47_nes_apu.md R423, 47_nes_apu.md R455, 47_nes_apu.md R456, 48_ay_pokey.md R493,
48_ay_pokey.md R514, 49_machine_driver.md R549. That a chip's reset detaches its voices without a delta is the model's
reading (log entry 24), that attaching reports at once log entry 22. -/
def Obligations.DeltasAddUpToWhatWasReported : Prop :=
  (∀ (s t : State) (ch : Channel), s.control ≠ .host → step s = .next t →
    sinkSum ch t.sink - reported ch t = sinkSum ch s.sink - reported ch s) ∧
  (∀ (s t : State) (ch : Channel), s.control = .host → ChipInv s →
    (∀ index image cs, s.calls = .startTrack index image :: cs → image.trackCount ≤ index) → step s = .next t →
    sinkSum ch t.sink - reported ch t = sinkSum ch s.sink - reported ch s) ∧
  (∀ (s t : State) (ch : Channel) (index : Nat) (image : Image) (cs : List HostCall), s.control = .host → ChipInv s →
    s.calls = .startTrack index image :: cs → index < image.trackCount → ch.chip ∈ s.cfg.chips → step s = .next t →
    sinkSum ch t.sink - reported ch t = sinkSum ch s.sink)

/-- The memory invariant and the chip invariant hold at reset. Rules: 10_state.md R62, 10_state.md R66, 10_state.md R42,
47_nes_apu.md R456. The machine at reset is any configuration's; that State.reset is the NES-style machine is the
model's choice (log entry 3), and so are the zeros of UNMAPPED_WRITE (log entry 13). -/
def Obligations.InvariantsHoldAtReset : Prop :=
  (∀ cfg : Cfg, MemoryInv (State.resetOf cfg) ∧ ChipInv (State.resetOf cfg)) ∧
  MemoryInv State.reset ∧ ChipInv State.reset

/-- reset(fill) of the CPU core: every register, every page, the time base. Rules: 10_state.md R62, 10_state.md R63,
10_state.md R64. That the bytes of the sink page stay is the model's choice (log entry 13), and so is that the host
may call reset between slices (log entry 14). -/
def Obligations.ResetOfTheCore : Prop :=
  ∀ (s : State) (cs : List HostCall) (fill : Byte), s.control = .host → s.calls = .core (.reset fill) :: cs →
    (∃ t : State, step s = .next t ∧
      t.time = 0 ∧ t.endTime = 0 ∧ t.errorCount = 0 ∧ t.pc = 0 ∧ t.phase = .reset ∧
      t.m = ⟨0, 0, 0, 0, ⟨false, false, false, false, false, false⟩⟩ ∧
      t.z.a = 0 ∧ t.z.f = ⟨false, false, false, false, false, false, false, false⟩ ∧
      t.z.bc = 0 ∧ t.z.de = 0 ∧ t.z.hl = 0 ∧ t.z.aAlt = 0 ∧
      t.z.fAlt = ⟨false, false, false, false, false, false, false, false⟩ ∧
      t.z.bcAlt = 0 ∧ t.z.deAlt = 0 ∧ t.z.hlAlt = 0 ∧ t.z.ix = 0 ∧ t.z.iy = 0 ∧ t.z.sp = 0 ∧ t.z.i = 0 ∧ t.z.r = 0 ∧
      t.z.iff1 = false ∧ t.z.iff2 = false ∧ t.z.im = .im0 ∧
      t.unmappedFill = fill ∧
      t.readPage = List.replicate s.cfg.pageCount ⟨.unmappedRead, 0⟩ ∧
      t.writePage = List.replicate s.cfg.pageCount ⟨.unmappedWrite, 0⟩ ∧
      (∀ a : Word, ptRead t a = fill) ∧
      t = { s with
        time := 0, endTime := 0, errorCount := 0, pc := 0, phase := .reset, m := t.m, z := t.z
        unmappedFill := fill, readPage := t.readPage, writePage := t.writePage
        calls := cs, results := .done :: s.results })

/-- What each register write of the NESAPU stores, and which voice reports. Rules: 47_nes_apu.md R423, 47_nes_apu.md R424,
47_nes_apu.md R426 to R440, 47_nes_apu.md R442, 47_nes_apu.md R443, 60_exceptions.md R571, 70_reset_and_hazards.md
R622, 93_implementation_defined.md U9, 20_memory.md R81, 20_memory.md R82, 20_memory.md R88. The clause on a write at
a time before the chip's states both readings of the spec, U9 and R424, R571, R622; which one a machine follows is a
parameter of the model, and so a choice (log entry 10). -/
def Obligations.NesRegisterWrites : Prop :=
  (∀ (s : State) (t : Int) (a : Word) (v : Byte),
    let x := Nes.runUntil s.cfg.nesConsts (ptRead s) t (s.nes, s.sink)
    let n := x.1
    let put := fun (y : Nes) (k : List SinkCall) => { s with nes := y, sink := k }
    let p1 := fun (q : Pulse) =>
      let o := VoiceOut.emit t (q.amp true) q.out x.2
      put { n with pulse1 := { q with out := o.1 } } o.2
    let p2 := fun (q : Pulse) =>
      let o := VoiceOut.emit t (q.amp false) q.out x.2
      put { n with pulse2 := { q with out := o.1 } } o.2
    let tr := fun (q : Triangle) =>
      let o := VoiceOut.emit t q.amp q.out x.2
      put { n with triangle := { q with out := o.1 } } o.2
    let no := fun (q : Noise) =>
      let o := VoiceOut.emit t q.amp q.out x.2
      put { n with noise := { q with out := o.1 } } o.2
    let dm := fun (q : Dmc) =>
      let o := VoiceOut.emit t q.amp q.out x.2
      put { n with dmc := { q with out := o.1 } } o.2
    (t < s.nes.lastTime →
      (s.cfg.lateCalls = .atChipTime →
        nesWrite t a v s = { nesWrite s.nes.lastTime a v s with warning := some "time went backwards" }) ∧
      (s.cfg.lateCalls = .ignored → nesWrite t a v s = { s with warning := some "time went backwards" })) ∧
    (s.nes.lastTime ≤ t →
      (∀ k < 4, a.toNat = 0x4000 + k → nesWrite t a v s = p1 (pulseWritten k v n.pulse1)) ∧
      (∀ k < 4, a.toNat = 0x4004 + k → nesWrite t a v s = p2 (pulseWritten k v n.pulse2)) ∧
      (∀ k ∈ [0, 2, 3], a.toNat = 0x4008 + k → nesWrite t a v s = tr (triangleWritten k v n.triangle)) ∧
      (∀ k ∈ [0, 2, 3], a.toNat = 0x400C + k → nesWrite t a v s = no (noiseWritten k v n.noise)) ∧
      (∀ k < 2, a.toNat = 0x4010 + k → nesWrite t a v s = dm (dmcWritten k v n.dmc)) ∧
      (∀ k ∈ [2, 3], a.toNat = 0x4010 + k → nesWrite t a v s = put { n with dmc := dmcWritten k v n.dmc } x.2) ∧
      (a.toNat = 0x4015 → nesWrite t a v s =
        (let u := Nes.emitAll t
          ({ n with
            pulse1 := { n.pulse1 with enabled := bitOf v 0, length := if bitOf v 0 = true then n.pulse1.length else 0 }
            pulse2 := { n.pulse2 with enabled := bitOf v 1, length := if bitOf v 1 = true then n.pulse2.length else 0 }
            triangle := { n.triangle with
              enabled := bitOf v 2
              length := if bitOf v 2 = true then n.triangle.length else 0 }
            noise := { n.noise with enabled := bitOf v 3, length := if bitOf v 3 = true then n.noise.length else 0 }
            dmc := dmcSwitched (ptRead s) (bitOf v 4) n.dmc }, x.2)
         put u.1 u.2)) ∧
      (a.toNat = 0x4017 → nesWrite t a v s = put
        { n with
          frameMode := bitOf v 7
          irqInhibit := bitOf v 6
          frameIrqFlag := if bitOf v 6 = true then false else n.frameIrqFlag
          frameStep := if bitOf v 7 = true then 0 else 1
          frameDelay := if bitOf v 7 = true then 0 else s.cfg.nesConsts.frameStepPeriod } x.2) ∧
      (a.toNat ∈ [0x4009, 0x400D, 0x4014, 0x4016] ∨ a.toNat < 0x4000 ∨ 0x4017 < a.toNat →
        nesWrite t a v s = put n x.2))) ∧
  (∀ (s : State) (a : Word) (v : Byte), s.cfg.writeRanges = [⟨0x4000, 0x4017, .nesWrite⟩] →
    (0x4000 ≤ a.toNat → a.toNat ≤ 0x4017 →
      memWrite a v s = nesWrite s.time a v s ∧ ∀ b : Word, ptRead (memWrite a v s) b = ptRead s b) ∧
    (a.toNat < 0x4000 ∨ 0x4017 < a.toNat → memWrite a v s = ptWrite s a v))

/-- The data read of 0x4015 on the NES-style machine. Rules: 47_nes_apu.md R424, 47_nes_apu.md R441, 60_exceptions.md
R571, 70_reset_and_hazards.md R622, 93_implementation_defined.md U9, 20_memory.md R80, 20_memory.md R82, 20_memory.md
R88, 20_memory.md R91, 60_exceptions.md R582. The clauses on a read at a time before the chip's state both readings of
the spec; which one a machine follows, and the free value of an ignored read, are the model's choice (log entry 10). -/
def Obligations.NesStatusRead : Prop :=
  ∀ (s : State) (a : Word), s.cfg.readRanges = [⟨0x4015, 0x4015, .nesStatus⟩] →
    let status := fun (n : Nes) =>
      (decide (0 < n.pulse1.length)).toNat + 2 * (decide (0 < n.pulse2.length)).toNat
        + 4 * (decide (0 < n.triangle.length)).toNat + 8 * (decide (0 < n.noise.length)).toNat
        + 16 * (decide (0 < n.dmc.bytesLeft)).toNat + 64 * n.frameIrqFlag.toNat + 128 * n.dmc.irqFlag.toNat
    (a ≠ 0x4015 → memRead a s = (ptRead s a, s)) ∧
    (a = 0x4015 → s.nes.lastTime ≤ s.time →
      let x := Nes.runUntil s.cfg.nesConsts (ptRead s) s.time (s.nes, s.sink)
      let n := x.1
      (memRead a s).2 = { s with nes := { n with frameIrqFlag := false }, sink := x.2 } ∧
      (memRead a s).1.toNat = status n) ∧
    (a = 0x4015 → s.time < s.nes.lastTime → s.cfg.lateCalls = .atChipTime →
      (memRead a s).2 = { s with nes := { s.nes with frameIrqFlag := false }, warning := some "time went backwards" } ∧
      (memRead a s).1.toNat = status s.nes) ∧
    (a = 0x4015 → s.time < s.nes.lastTime → s.cfg.lateCalls = .ignored →
      (memRead a s).2 = { s with draws := s.draws + 1, warning := some "time went backwards" })

/-- The AY's register writes and the decoding of the Z80's port writes. Rules: 48_ay_pokey.md R471, 48_ay_pokey.md R480 to
R487, 48_ay_pokey.md R490, 48_ay_pokey.md R491, 48_ay_pokey.md R492, 48_ay_pokey.md R474, 60_exceptions.md R571,
70_reset_and_hazards.md R622, 93_implementation_defined.md U9, 20_memory.md R85, 20_memory.md R89, 48_ay_pokey.md
R472. The clause on a write at a time before the chip's states both readings of the spec, U9 and R474, R571, R622;
which one a machine follows is a parameter of the model, and so a choice (log entry 10). That the chip's constants are
fields of the configuration is log entry 16. -/
def Obligations.AyRegisterAndPortWrites : Prop :=
  (∀ (s : State) (t : Int) (r : Nat) (v : Byte),
    (15 < r → ayWrite t r v s = s) ∧
    (r ≤ 15 → s.ay.lastTime ≤ t →
      let x := Ay.runUntil s.cfg.ayConsts t (s.ay, s.sink)
      let kept := { x.1 with regs := x.1.regs.set r (BitVec.ofNat 8 (v.toNat % 2 ^ ayBits r)) }
      let c := if r = 13 then
          { kept with envStep := 0, envHold := false, envDelay := max (256 * (kept.reg 12).toNat + (kept.reg 11).toNat) 1 * (2 * s.cfg.ayConsts.tick) }
        else kept
      let y := Ay.emitAll s.cfg.ayConsts t (c, x.2)
      ayWrite t r v s = { s with ay := y.1, sink := y.2 }) ∧
    (r ≤ 15 → t < s.ay.lastTime →
      (s.cfg.lateCalls = .atChipTime →
        ayWrite t r v s = { ayWrite s.ay.lastTime r v s with warning := some "time went backwards" }) ∧
      (s.cfg.lateCalls = .ignored → ayWrite t r v s = { s with warning := some "time went backwards" }))) ∧
  (∀ (s : State) (port : Word) (v : Byte), s.cfg.portOut = some .ayPort →
    let lo := port.toNat % 256
    let hi := port.toNat / 256
    let set := fun (m : AyMode) => { s with ay := { s.ay with mode := m } }
    let latch := fun (w : Byte) (u : State) => { u with ay := { u.ay with addrLatch := BitVec.ofNat 4 w.toNat } }
    (s.ay.mode ≠ .cpc → lo = 0xFE →
      let c := { s.ay with mode := .spectrum, beeperBit := bitOf v 4 }
      let o := VoiceOut.emit s.time (if bitOf v 4 = true then s.cfg.ayConsts.beeperAmp else 0) s.ay.beeper s.sink
      portOut port v s = { s with ay := { c with beeper := o.1 }, sink := o.2 }) ∧
    (s.ay.mode ≠ .cpc → lo = 0xFD → hi = 0xFF ∨ hi = 0xFE → portOut port v s = latch v (set .spectrum)) ∧
    (s.ay.mode ≠ .cpc → lo = 0xFD → hi = 0xBF ∨ hi = 0xBE →
      portOut port v s = ayWrite s.time s.ay.addrLatch.toNat v (set .spectrum)) ∧
    (¬ (s.ay.mode ≠ .cpc ∧ (lo = 0xFE ∨ (lo = 0xFD ∧ hi ∈ [0xFF, 0xFE, 0xBF, 0xBE]))) →
      (s.ay.mode ≠ .spectrum → hi = 0xF6 →
        (192 ≤ v.toNat → portOut port v s = latch s.ay.cpcLatch (set .cpc)) ∧
        (128 ≤ v.toNat → v.toNat < 192 →
          portOut port v s = ayWrite s.time s.ay.addrLatch.toNat s.ay.cpcLatch (set .cpc)) ∧
        (v.toNat < 128 → portOut port v s = set .cpc)) ∧
      (s.ay.mode ≠ .spectrum → hi = 0xF4 →
        portOut port v s = { s with ay := { s.ay with mode := .cpc, cpcLatch := v } }) ∧
      (s.ay.mode = .spectrum ∨ (hi ≠ 0xF6 ∧ hi ≠ 0xF4) → portOut port v s = s))) ∧
  Config.ayMachine.ayConsts = ⟨16, [0, 2, 3, 4, 6, 8, 11, 16, 23, 32, 45, 64, 90, 128, 180, 255], 255⟩

/-- What each register write of the POKEY stores. Rules: 48_ay_pokey.md R502, 48_ay_pokey.md R501, 48_ay_pokey.md R505 to
R510, 48_ay_pokey.md R503, 60_exceptions.md R571, 70_reset_and_hazards.md R622, 93_implementation_defined.md U9,
20_memory.md R88. The clause on a write at a time before the chip's states both readings of the spec, U9 and R503,
R571, R622; which one a machine follows is a parameter of the model, and so a choice (log entry 10). That the dividers
and polynomial sequences are fields of the configuration is log entry 16. -/
def Obligations.PokeyRegisterWrites : Prop :=
  (∀ (s : State) (t : Int) (a : Word) (v : Byte),
    (a.toNat < 0xD200 ∨ 0xD20F < a.toNat → pokeyWrite t a v s = s) ∧
    (0xD200 ≤ a.toNat → a.toNat ≤ 0xD20F → t < s.pokey.lastTime →
      (s.cfg.lateCalls = .atChipTime →
        pokeyWrite t a v s = { pokeyWrite s.pokey.lastTime a v s with warning := some "time went backwards" }) ∧
      (s.cfg.lateCalls = .ignored → pokeyWrite t a v s = { s with warning := some "time went backwards" })) ∧
    (0xD200 ≤ a.toNat → a.toNat ≤ 0xD20F → s.pokey.lastTime ≤ t →
      let x := Pokey.runUntil s.cfg.pokeyConsts t (s.pokey, s.sink)
      let c := x.1
      let r := a.toNat - 0xD200
      let base := if bitOf c.audctl 0 = true then s.cfg.pokeyConsts.div15k else s.cfg.pokeyConsts.div64k
      let low := fun (f : Byte) (fast : Bool) => if fast = true then f.toNat + 4 else (f.toNat + 1) * base
      let high := fun (f l : Byte) (joined fast : Bool) =>
        if joined = false then (f.toNat + 1) * base
        else if fast = true then 256 * f.toNat + l.toNat + 7
        else (256 * f.toNat + l.toNat + 1) * base
      let d : Pokey := { c with
        ch1 := { c.ch1 with
          audf := if r = 0 then v else c.ch1.audf
          audc := if r = 1 then v else c.ch1.audc
          delay := if r = 9 then low c.ch1.audf (bitOf c.audctl 6) else c.ch1.delay }
        ch2 := { c.ch2 with
          audf := if r = 2 then v else c.ch2.audf
          audc := if r = 3 then v else c.ch2.audc
          delay := if r = 9 then high c.ch2.audf c.ch1.audf (bitOf c.audctl 4) (bitOf c.audctl 6) else c.ch2.delay }
        ch3 := { c.ch3 with
          audf := if r = 4 then v else c.ch3.audf
          audc := if r = 5 then v else c.ch3.audc
          delay := if r = 9 then low c.ch3.audf (bitOf c.audctl 5) else c.ch3.delay }
        ch4 := { c.ch4 with
          audf := if r = 6 then v else c.ch4.audf
          audc := if r = 7 then v else c.ch4.audc
          delay := if r = 9 then high c.ch4.audf c.ch3.audf (bitOf c.audctl 3) (bitOf c.audctl 5) else c.ch4.delay }
        audctl := if r = 8 then v else c.audctl }
      let y := Pokey.emitAll t (d, x.2)
      pokeyWrite t a v s = { s with pokey := y.1, sink := y.2 })) ∧
  (∀ (s : State) (a : Word) (v : Byte), s.cfg.writeRanges = [⟨0xD200, 0xD20F, .pokeyWrite⟩] →
    memWrite a v s = if 0xD200 ≤ a.toNat ∧ a.toNat ≤ 0xD20F then ptWrite (pokeyWrite s.time a v s) a v
      else ptWrite s a v) ∧
  Config.atariMachine.pokeyConsts = ⟨28, 114, ⟨4, 1⟩, ⟨5, 2⟩, ⟨9, 5⟩, ⟨17, 5⟩⟩

/-- Running a chip to a time in two pieces is running it there at once. Rules: 47_nes_apu.md R424, 47_nes_apu.md R425,
47_nes_apu.md R454, 48_ay_pokey.md R474, 48_ay_pokey.md R488, 48_ay_pokey.md R503, 48_ay_pokey.md R512,
49_machine_driver.md R552. The premises on the chips' constants shut out only values that are no time (log entry 7). -/
def Obligations.ChipTimeRunsInPieces : Prop :=
  (∀ (first : Bool) (fr m stop : Int) (x : Pulse × List SinkCall), fr ≤ m → m ≤ stop →
    Pulse.advance first m stop (Pulse.advance first fr m x) = Pulse.advance first fr stop x) ∧
  (∀ (fr m stop : Int) (x : Triangle × List SinkCall), fr ≤ m → m ≤ stop →
    Triangle.advance m stop (Triangle.advance fr m x) = Triangle.advance fr stop x) ∧
  (∀ (fr m stop : Int) (x : Noise × List SinkCall), fr ≤ m → m ≤ stop →
    Noise.advance m stop (Noise.advance fr m x) = Noise.advance fr stop x) ∧
  (∀ (rd : Word → Byte) (fr m stop : Int) (x : Dmc × List SinkCall), fr ≤ m → m ≤ stop →
    Dmc.advance rd m stop (Dmc.advance rd fr m x) = Dmc.advance rd fr stop x) ∧
  (∀ (p : AyConsts) (m t : Int) (x : Ay × List SinkCall), 0 < p.tick → x.1.lastTime ≤ m → m ≤ t →
    Ay.runUntil p t (Ay.runUntil p m x) = Ay.runUntil p t x ∧ (Ay.runUntil p t x).1.lastTime = t) ∧
  (∀ (p : PokeyConsts) (m t : Int) (x : Pokey × List SinkCall),
    0 < p.div64k → 0 < p.div15k → x.1.lastTime ≤ m → m ≤ t →
      Pokey.runUntil p t (Pokey.runUntil p m x) = Pokey.runUntil p t x ∧ (Pokey.runUntil p t x).1.lastTime = t) ∧
  (∀ (p : NesConsts) (rd : Word → Byte) (m t : Int) (x : Nes × List SinkCall),
    0 < p.frameStepPeriod → x.1.lastTime ≤ m → m ≤ t →
      (Nes.runUntil p rd t (Nes.runUntil p rd m x)).1 = (Nes.runUntil p rd t x).1 ∧
      (Nes.runUntil p rd t x).1.lastTime = t)

/-- jsr_then_stop: the return address that leads to the idle address, and the entry in pc. Rules: 49_machine_driver.md
R533, 10_state.md R30, 10_state.md R34, 40_dispatch.md R150. That the host may call it, and what the call answers, are
the model's (log entries 14 and 15). -/
def Obligations.JsrThenStopPushesTheIdleAddress : Prop :=
  (∀ (s : State) (addr : Word), jsrThenStop addr s = jsrPushed addr s) ∧
  (∀ (s : State) (addr : Word),
    let t := jsrThenStop addr s
    t.pc = addr ∧ t.time = s.time ∧ t.phase = s.phase ∧
    (s.cfg.family = .m6502 → t.m = { s.m with sp := BitVec.ofNat 8 (s.m.sp.toNat + 254) } ∧ t.z = s.z) ∧
    (s.cfg.family = .z80 → t.z = { s.z with sp := BitVec.ofNat 16 (s.z.sp.toNat + 65534) } ∧ t.m = s.m)) ∧
  (∀ (s : State) (cs : List HostCall) (addr : Word),
    s.control = .host → s.calls = .core (.jsrThenStop addr) :: cs →
      step s = .next
        (let t := jsrPushed addr { s with calls := cs }
         { t with results := .done :: t.results }))

/-- The pass of a frame: a due play call is made, made on top of a suspended routine, or skipped. Rules:
49_machine_driver.md R540, 49_machine_driver.md R541, 49_machine_driver.md R544, 60_exceptions.md R584,
60_exceptions.md R571. -/
def Obligations.PlayCallEntersTheGuest : Prop :=
  ∀ (s : State) (target : Int) (errors : Nat), s.control = .frame target errors → s.time < target →
    let npt := s.nextPlayTime + s.playPeriod
    let slice := fun (bound : Int) (u : State) =>
      { u with endTime := bound, phase := .running, control := .slice (.frame target errors bound) }
    let enter := fun (u : State) =>
      let v := jsrPushed u.playAddr (setEntryRegs u.cfg.entryPlay u.track { u with nextPlayTime := npt })
      { v with playCalls := v.playCalls + 1 }
    (s.time < s.nextPlayTime → step s = .next (slice (min target s.nextPlayTime) s)) ∧
    (s.nextPlayTime ≤ s.time →
      (s.pc = s.cfg.idleAddr → step s = .next (slice (min target npt) (enter s))) ∧
      (s.pc ≠ s.cfg.idleAddr → s.suspended = none → step s = .next (slice (min target npt)
        (enter { s with suspended := some ⟨s.pc, s.m, s.z⟩, warning := some "play called during init" }))) ∧
      (s.pc ≠ s.cfg.idleAddr → s.suspended ≠ none → step s = .next (slice (min target npt)
        { s with nextPlayTime := npt, warning := some "play call skipped: previous play still running" })))

/-- The end of a slice of a frame: restore, pass the idle time, or nothing. Rules: 49_machine_driver.md R541,
49_machine_driver.md R542, 49_machine_driver.md R543, 49_machine_driver.md R534, 60_exceptions.md R584. -/
def Obligations.RoutineEndsAndTheSuspendedOneGoesOn : Prop :=
  ∀ (s : State) (target bound : Int) (errors : Nat), s.control = .slice (.frame target errors bound) →
    (∀ p : Snapshot, s.phase = .haltedAtIdle → s.suspended = some p →
      step s = .next { s with pc := p.pc, m := p.m, z := p.z, suspended := none, control := .frame target errors }) ∧
    (s.phase = .haltedAtIdle → s.suspended = none →
      step s = .next { s with time := bound, control := .frame target errors }) ∧
    (s.phase = .haltedElsewhere → step s = .next { s with control := .frame target errors }) ∧
    (s.phase = .running ∨ s.phase = .reset → s.endTime ≤ s.time →
      step s = .next { s with control := .frame target errors })

/-- The end of a frame: time rebased and never negative, the chips and the sink told, the warning. Rules:
49_machine_driver.md R540, 49_machine_driver.md R545, 49_machine_driver.md R546, 49_machine_driver.md R547,
47_nes_apu.md R454, 48_ay_pokey.md R488, 48_ay_pokey.md R512, 60_exceptions.md R577, 10_state.md R22, 40_dispatch.md
R164. Whether end_time is rebased (R22) or left (R546, R164) the spec says both ways; which one a machine follows is a
parameter of the model, and so a choice (log entry 27); the clamp of a negative time is out of reach here (log entry
28). -/
def Obligations.FrameEndRebasesTime : Prop :=
  ∀ (s : State) (target : Int) (errors : Nat), s.control = .frame target errors → target ≤ s.time →
    ∃ t : State, step s = .next t ∧
      t.time = s.time - target ∧ 0 ≤ t.time ∧ t.nextPlayTime = s.nextPlayTime - target ∧
      (s.cfg.endTimeRebase = .rebased → t.endTime = s.endTime - target) ∧
      (s.cfg.endTimeRebase = .kept → t.endTime = s.endTime) ∧
      t.control = .host ∧ t.results = .duration target :: s.results ∧
      t.sink.head? = some (.endFrame target) ∧ s.sink <:+ t.sink ∧
      t.warning = (if errors < s.errorCount then some "unsupported CPU instruction" else s.warning) ∧
      (s.cfg.chips = [.nesApu] →
        let x := if s.nes.lastTime < target then Nes.runUntil s.cfg.nesConsts (ptRead s) target (s.nes, s.sink)
          else (s.nes, s.sink)
        t.nes = { x.1 with lastTime := x.1.lastTime - target } ∧ t.sink = .endFrame target :: x.2 ∧
        t.ay = s.ay ∧ t.pokey = s.pokey ∧
        (0 < s.cfg.nesConsts.frameStepPeriod → t.nes.lastTime = max s.nes.lastTime target - target)) ∧
      (s.cfg.chips = [.ay] →
        let x := if s.ay.lastTime < target then Ay.runUntil s.cfg.ayConsts target (s.ay, s.sink) else (s.ay, s.sink)
        t.ay = { x.1 with lastTime := x.1.lastTime - target } ∧ t.sink = .endFrame target :: x.2 ∧
        t.nes = s.nes ∧ t.pokey = s.pokey ∧ t.ay.lastTime = max s.ay.lastTime target - target) ∧
      (s.cfg.chips = [.pokey] →
        let x := if s.pokey.lastTime < target then Pokey.runUntil s.cfg.pokeyConsts target (s.pokey, s.sink) else (s.pokey, s.sink)
        t.pokey = { x.1 with lastTime := x.1.lastTime - target } ∧ t.sink = .endFrame target :: x.2 ∧
        t.nes = s.nes ∧ t.ay = s.ay ∧ t.pokey.lastTime = max s.pokey.lastTime target - target) ∧
      t = { s with
        time := t.time, nextPlayTime := t.nextPlayTime, control := t.control, results := t.results, sink := t.sink
        warning := t.warning, nes := t.nes, ay := t.ay, pokey := t.pokey, endTime := t.endTime }

/-- start_track: a bad index changes nothing; a good one builds the memory, resets the chips and leaves the init routine
about to run. Rules: 49_machine_driver.md R530 to R533, 10_state.md R62, 10_state.md R66, 10_state.md R67, 10_state.md
R68, 47_nes_apu.md R455, 48_ay_pokey.md R489, 48_ay_pokey.md R513, 60_exceptions.md R570, 60_exceptions.md R580,
10_state.md R22. The image as regions with contents is the model's form (log entry 9); so are where the halt opcode is
put when the image does not hold it (log entry 11), the triangle's report when it is attached (log entry 22), the
detached voices of a reset chip (log entry 24), the kept record of refusals (log entry 29), where the play period
comes from (log entry 30) and whether end_time is rebased at the end of the init phase (log entry 27). -/
def Obligations.StartTrackArmsTheMachine : Prop :=
  (∀ (s : State) (cs : List HostCall) (index : Nat) (image : Image),
    s.control = .host → s.calls = .startTrack index image :: cs → image.trackCount ≤ index →
      step s = .next { s with calls := cs, results := .failure "bad track index" :: s.results }) ∧
  (∀ (s : State) (cs : List HostCall) (index : Nat) (image : Image),
    s.control = .host → s.calls = .startTrack index image :: cs → index < image.trackCount →
      let l := loadTrack image { s with calls := cs }
      let regs := setEntryRegs s.cfg.entryInit index (setStack l)
      let period := image.playPeriod.getD s.cfg.playPeriod
      let u := s.cfg.chips.foldl (chipMuted s.voiceMute)
        { l with
          nes := if .nesApu ∈ s.cfg.chips then Nes.reset s.cfg.nesConsts else s.nes
          ay := if .ay ∈ s.cfg.chips then Ay.reset s.cfg.ayConsts else s.ay
          pokey := if .pokey ∈ s.cfg.chips then Pokey.reset else s.pokey
          suspended := none, playCalls := 0, track := index, started := true, initAddr := image.initAddr
          playAddr := image.playAddr, image := image, playPeriod := max 1 ((period : Rat) / s.tempo).floor.toNat
          m := regs.m, z := regs.z }
      ∃ t : State, step s = .next t ∧
        t = { jsrPushed image.initAddr u with
          endTime := (s.cfg.initBudget.getD period : Nat), phase := .running, control := .slice .initPhase } ∧
        t.cfg = s.cfg ∧ t.calls = cs ∧ t.results = s.results ∧ t.time = 0 ∧ t.errorCount = 0 ∧ t.pc = image.initAddr ∧
        t.suspended = none ∧ t.playCalls = 0 ∧ t.track = index ∧ t.started = true ∧ t.initAddr = image.initAddr ∧
        t.playAddr = image.playAddr ∧ t.image = image ∧ t.tempo = s.tempo ∧ t.voiceMute = s.voiceMute ∧
        t.nextPlayTime = s.nextPlayTime ∧ t.playPeriod = max 1 ((period : Rat) / s.tempo).floor.toNat ∧
        (s.cfg.family = .m6502 → s.cfg.entryInit = [⟨.mA, .track⟩] → t.z = Z80Regs.reset ∧
          t.m = ⟨BitVec.ofNat 8 index, 0, 0, BitVec.ofNat 8 (s.cfg.initSp.toNat + 254),
            ⟨false, false, false, false, false, false⟩⟩) ∧
        (s.cfg.family = .z80 → s.cfg.entryInit = [⟨.zR8 .a, .track⟩] → t.m = M6502Regs.reset ∧
          t.z = { Z80Regs.reset with
            a := BitVec.ofNat 8 index, sp := BitVec.ofNat 16 (s.cfg.initSp.toNat + 65534) }) ∧
        ((∀ a ∈ pushedAt u, writeHandler s.cfg a = none) →
          t.nes = u.nes ∧ t.ay = u.ay ∧ t.pokey = u.pokey ∧ t.sink = u.sink ∧ t.readPage = l.readPage ∧
          t.writePage = l.writePage ∧ t.regions.length = l.regions.length ∧
          (∀ b : Word, (∀ a ∈ pushedAt u, resolveWrite u a ≠ resolveRead u b) →
            ptRead t b = ptRead l b ∧ (b = s.cfg.idleAddr → ptRead t b = s.cfg.family.haltOpcode)))) ∧
  (∀ (s : State) (image : Image),
    let built := image.plan.foldl (fun u k => applyMap k u)
      { s with
        time := 0, endTime := 0, errorCount := 0, pc := 0, phase := .reset, m := M6502Regs.reset, z := Z80Regs.reset
        unmappedFill := s.cfg.unmappedFill
        readPage := List.replicate s.cfg.pageCount ⟨.unmappedRead, 0⟩
        writePage := List.replicate s.cfg.pageCount ⟨.unmappedWrite, 0⟩
        regions := image.regions.map buildRegion }
    let t := loadTrack image s
    let idle := s.cfg.idleAddr
    ptRead t idle = s.cfg.family.haltOpcode ∧
    (ptRead built idle = s.cfg.family.haltOpcode → t = built) ∧
    t = { built with regions := t.regions, readPage := t.readPage, unmappedWrite := t.unmappedWrite } ∧
    (∀ b : Word, b.toNat / s.cfg.pageSize ≠ idle.toNat / s.cfg.pageSize → resolveRead built b ≠ resolveRead built idle →
      ptRead t b = ptRead built b) ∧
    (∀ (i o : Nat) (r : RegionImage), image.regions[i]? = some r →
      regionSize t (.region i) = r.size ∧
      (o < r.size → resolveRead t idle ≠ ⟨.region i, o⟩ → locRead t ⟨.region i, o⟩ = imageByte r o))) ∧
  (∀ (s : State), s.control = .slice .initPhase →
    s.phase = .haltedAtIdle ∨ s.phase = .haltedElsewhere ∨ s.endTime ≤ s.time →
      ∃ t : State, step s = .next t ∧ t.control = .host ∧ t.time = 0 ∧ t.nextPlayTime = 0 ∧
        (s.cfg.endTimeRebase = .rebased → t.endTime = s.endTime - s.time) ∧
        (s.cfg.endTimeRebase = .kept → t.endTime = s.endTime) ∧
        t.results = .success :: s.results ∧ t.sink.head? = some (.endFrame s.time) ∧ s.sink <:+ t.sink ∧
        t.pc = s.pc ∧ t.m = s.m ∧ t.z = s.z ∧ t.regions = s.regions ∧ t.warning = s.warning)

/-- time, set_time, set_end_time, set_tempo, set_voice_mute, take_warning, warn, end_frame; and the refused calls. Rules:
40_dispatch.md R163 to R165, 47_nes_apu.md R455, 48_ay_pokey.md R489, 48_ay_pokey.md R513, 49_machine_driver.md R540,
49_machine_driver.md R548 to R550, 49_machine_driver.md R554, 60_exceptions.md R574 to R575, 60_exceptions.md R578 to
R579, 00_scope.md R19. That the host may call warn and the core's operations is the model's reading (log entry 14),
that NoTrack is tested first and what a refused call answers its choice (log entry 19), where the play period comes
from log entry 30. -/
def Obligations.HostCallsDoWhatTheyAreCalledFor : Prop :=
  ∀ (s : State) (cs : List HostCall), s.control = .host →
    let ret := fun (r : HostResult) (u : State) => { u with calls := cs, results := r :: s.results }
    let no := fun (r : CallRefusal) => { s with refusals := r :: s.refusals }
    (s.calls = .core .readTime :: cs → step s = .next (ret (.timeWas s.time) s)) ∧
    (∀ t : Int, s.calls = .core (.setTime t) :: cs → step s = .next (ret .done { s with time := t })) ∧
    (∀ t : Int, s.calls = .core (.setEndTime t) :: cs → step s = .next (ret .done { s with endTime := t })) ∧
    (∀ m : Rat, s.calls = .setTempo m :: cs →
      (s.started = true → 0 < m → step s = .next (ret .done
        { s with
          tempo := m
          playPeriod := max 1 (((s.image.playPeriod.getD s.cfg.playPeriod : Nat) : Rat) / m).floor.toNat })) ∧
      (s.started = true → m ≤ 0 → step s = .next (ret (.refused .badTempo) (no .badTempo))) ∧
      (s.started = false → step s = .next (ret (.refused .noTrack) (no .noTrack)))) ∧
    (s.calls = .takeWarning :: cs → step s = .next (ret (.warningWas s.warning) { s with warning := none })) ∧
    (∀ w : String, s.calls = .warn w :: cs → step s = .next (ret .done { s with warning := some w })) ∧
    (∀ mask : Nat, s.calls = .setVoiceMute mask :: cs →
      (s.started = true →
        step s = .next (ret .done (s.cfg.chips.foldl (chipMuted mask) { s with voiceMute := mask }))) ∧
      (s.started = false → step s = .next (ret (.refused .noTrack) (no .noTrack)))) ∧
    (∀ (c : Chip) (voice : Nat) (o : Option Channel), c.voices ≤ voice → chipSetOutput c voice o s = s) ∧
    (∀ target : Int, s.calls = .endFrame target :: cs →
      (s.started = true → 0 < target →
        step s = .next { s with calls := cs, control := .frame target s.errorCount }) ∧
      (s.started = true → target ≤ 0 → step s = .next (ret (.refused .badDuration) (no .badDuration))) ∧
      (s.started = false → step s = .next (ret (.duration 0) (no .noTrack))))
end

