-- ==== Sys2Proof/Laws/Chips.lean ====
section
/-! SUPPORT. The fields of the chips' registers, as bits and in exact arithmetic (R427 to R442, R453); what `set_output` of a
chip's voices does (R549); a chip run to its own time. -/

namespace Sys2Proof.Machine

theorem bit_eq (v : Byte) (k : Nat) : bit v k = bitOf v k := by
  simp only [bit, bitOf, BitVec.getLsbD, Nat.testBit_eq_decide_div_mod_eq]

theorem extract_eq (v : Byte) (lo n : Nat) : v.extractLsb' lo n = BitVec.ofNat n (v.toNat / 2 ^ lo) := by
  apply BitVec.eq_of_toNat_eq
  simp [Nat.shiftRight_eq_div_pow]

theorem periodLow_eq (v : Byte) (p : BitVec 11) :
    periodLow v p = BitVec.ofNat 11 (p.toNat / 256 * 256 + v.toNat) := by
  have hp := p.isLt
  have hv := v.isLt
  apply BitVec.eq_of_toNat_eq
  rw [periodLow]
  refine (BitVec.toNat_append _ _).trans ?_
  rw [← Nat.shiftLeft_add_eq_or_of_lt hv, Nat.shiftLeft_eq, BitVec.extractLsb'_toNat, BitVec.toNat_ofNat,
    Nat.shiftRight_eq_div_pow]
  omega

theorem periodHigh_eq (v : Byte) (p : BitVec 11) :
    periodHigh v p = BitVec.ofNat 11 (v.toNat % 8 * 256 + p.toNat % 256) := by
  apply BitVec.eq_of_toNat_eq
  rw [periodHigh]
  refine (BitVec.toNat_append _ _).trans ?_
  rw [← Nat.shiftLeft_add_eq_or_of_lt (BitVec.isLt _), Nat.shiftLeft_eq, BitVec.extractLsb'_toNat,
    BitVec.extractLsb'_toNat, BitVec.toNat_ofNat]
  simp only [Nat.shiftRight_zero]
  omega

theorem lengthEntry_eq (v : Byte) : lengthEntry v = Config.lengthTable.getD (v.toNat / 8) 0 := by
  have := v.isLt
  rw [lengthEntry, extract_eq, BitVec.toNat_ofNat]
  congr 1
  omega

theorem enable_eq (rd : Word → Byte) (on : Bool) (c : Dmc) : Dmc.enable rd on c = dmcSwitched rd on c := by
  have ha : (0xC000 : Word) + BitVec.ofNat 16 (c.addrReg.toNat * 64) = BitVec.ofNat 16 (0xC000 + 64 * c.addrReg.toNat) := by
    apply BitVec.eq_of_toNat_eq
    simp [Nat.mul_comm]
  cases on
  · rfl
  · simp only [Dmc.enable, dmcSwitched, Dmc.start, ha, Nat.mul_comm c.lenReg.toNat]
    rfl

theorem kept_eq (r : Nat) (hr : r ≤ 15) (v : Byte) : v &&& ayMask r = BitVec.ofNat 8 (v.toNat % 2 ^ ayBits r) := by
  rcases (by omega : r = 0 ∨ r = 1 ∨ r = 2 ∨ r = 3 ∨ r = 4 ∨ r = 5 ∨ r = 6 ∨ r = 7 ∨ r = 8 ∨ r = 9 ∨ r = 10 ∨ r = 11
    ∨ r = 12 ∨ r = 13 ∨ r = 14 ∨ r = 15) with
    rfl | rfl | rfl | rfl | rfl | rfl | rfl | rfl | rfl | rfl | rfl | rfl | rfl | rfl | rfl | rfl <;>
    revert v <;> decide

/-! ### `set_output` (R455, R489, R513, R549) -/

theorem outputUnder_eq (mask : Nat) (c : Chip) (v : Nat) :
    (if mask.testBit v then none else some ⟨c, v⟩) = outputUnder mask c v := by
  simp only [outputUnder, Nat.testBit_eq_decide_div_mod_eq, decide_eq_true_eq]

theorem set_eq_reattached (t a : Int) (o : Option Channel) (v : VoiceOut) (k : List SinkCall) :
    VoiceOut.set t a o v k = reattached t a o v k := by
  obtain ⟨l, w⟩ := v
  cases o with
  | none =>
    cases w with
    | none => rfl
    | some ch => simp only [VoiceOut.set, reattached, reduceCtorEq, if_true, if_false, Int.zero_sub, eq_comm]
  | some ch =>
    cases w with
    | none =>
      simp only [VoiceOut.set, VoiceOut.emit, reattached, reduceCtorEq, if_true, if_false]
      split
      · rename_i h; rw [h]
      · rfl
    | some ch' =>
      simp only [VoiceOut.set, VoiceOut.emit, reattached, reduceCtorEq, if_false]
      split
      · rename_i h; rw [h]
      · rfl

/-- Everything `set_output` of a chip's voices by a mute mask does. -/
theorem muteChip_eq (mask : Nat) (c : Chip) (s : State) : muteChip mask c s = chipMuted mask s c := by
  cases c <;>
    simp only [muteChip, Chip.voices, List.range, List.range.loop, List.foldl_cons, List.foldl_nil, outputUnder_eq,
      chipSetOutput, Nes.setOutput, Ay.setOutput, Pokey.setOutput, set_eq_reattached, chipMuted, nesMuted, ayMuted,
      pokeyMuted] <;> rfl

/-- A voice the chip does not have is ignored (U2). -/
theorem chipSetOutput_beyond (c : Chip) (v : Nat) (o : Option Channel) (s : State) (h : c.voices ≤ v) :
    chipSetOutput c v o s = s := by
  cases c
  · obtain ⟨k, rfl⟩ : ∃ k, v = k + 5 := ⟨v - 5, by simp only [Chip.voices] at h; omega⟩
    rfl
  · obtain ⟨k, rfl⟩ : ∃ k, v = k + 4 := ⟨v - 4, by simp only [Chip.voices] at h; omega⟩
    rfl
  · obtain ⟨k, rfl⟩ : ∃ k, v = k + 4 := ⟨v - 4, by simp only [Chip.voices] at h; omega⟩
    rfl

/-! ### Running a chip to the time it has reached changes nothing (U9) -/

theorem nes_runUntil_now (p : NesConsts) (rd : Word → Byte) (n : Nes) (k : List SinkCall) :
    Nes.runUntil p rd n.lastTime (n, k) = (n, k) := by
  have e : min n.lastTime (n.lastTime + (n.frameDelay : Int)) = n.lastTime := by omega
  have f : ∀ d : Nat, ¬ (n.lastTime + (d : Int) < n.lastTime) := by intro d; omega
  have g : ∀ d : Nat, (n.lastTime + (d : Int) - n.lastTime).toNat = d := by intro d; omega
  simp only [Nes.runUntil, Int.sub_self, Int.toNat_zero, Nes.runLoop, e, if_true, Nes.advance, Pulse.advance,
    Triangle.advance, Noise.advance, Dmc.advance, runTimer, f, if_false, g, Nat.sub_zero]

theorem ay_runUntil_now (p : AyConsts) (c : Ay) (k : List SinkCall) : Ay.runUntil p c.lastTime (c, k) = (c, k) := by
  have f : c.lastTime ≤ c.lastTime + (c.nextDelay : Int) := by omega
  simp [Ay.runUntil, Ay.runLoop, f, Ay.elapse]

theorem pokey_runUntil_now (p : PokeyConsts) (c : Pokey) (k : List SinkCall) : Pokey.runUntil p c.lastTime (c, k) = (c, k) := by
  have f : c.lastTime ≤ c.lastTime + (c.nextDelay : Int) := by omega
  simp [Pokey.runUntil, Pokey.runLoop, f, Pokey.elapse]

end Sys2Proof.Machine
end

