-- ==== Sys2Proof/Laws/Memory.lean ====
section
/-! SUPPORT. The laws of memory: read after write, writes elsewhere, the canonical form, and what each operation of the
interconnect leaves alone. -/

namespace Sys2Proof.Machine

/-! ### Cells -/

theorem cellsRead_insert (o : Nat) (v : Byte) (cs : List Host.Cell) (p : Nat) (h : ∀ c ∈ cs, c.1 ≠ o) :
    cellsRead (cellsInsert o v cs) p = if o = p then v else cellsRead cs p := by
  induction cs with
  | nil => simp [cellsInsert, cellsRead]
  | cons c cs ih =>
    have hc : c.1 ≠ o := h c (by simp)
    have ih := ih (fun d hd => h d (by simp [hd]))
    simp only [cellsInsert]
    split
    · simp [cellsRead]
    · simp only [cellsRead, ih]
      by_cases h1 : c.1 = p
      · have : ¬ o = p := fun e => hc (h1.trans e.symm)
        simp [h1, this]
      · simp [h1]

theorem cellsRead_filter (o : Nat) (cs : List Host.Cell) (p : Nat) (h : p ≠ o) :
    cellsRead (cs.filter fun c => c.1 != o) p = cellsRead cs p := by
  induction cs with
  | nil => rfl
  | cons c cs ih =>
    by_cases hc : c.1 = o
    · have : ¬ c.1 = p := fun e => h (e.symm.trans hc)
      have h2 : ¬ o = p := fun e => h e.symm
      simp [hc, cellsRead, ih, h2]
    · simp [hc, cellsRead, ih]

theorem cellsRead_eq_zero (cs : List Host.Cell) (p : Nat) (h : ∀ c ∈ cs, c.1 ≠ p) : cellsRead cs p = 0 := by
  induction cs with
  | nil => rfl
  | cons c cs ih =>
    have hc : c.1 ≠ p := h c (by simp)
    simp [cellsRead, hc, ih (fun d hd => h d (by simp [hd]))]

/-- A byte read after a write: the byte written there, and every other byte as before. -/
theorem cellsRead_write (cs : List Host.Cell) (o : Nat) (v : Byte) (p : Nat) :
    cellsRead (cellsWrite cs o v) p = if o = p then v else cellsRead cs p := by
  have hf : ∀ c ∈ cs.filter (fun c => c.1 != o), c.1 ≠ o := by
    intro c hc
    simpa using (List.mem_filter.mp hc).2
  unfold cellsWrite
  by_cases hv : v = 0
  · simp only [hv, if_true]
    by_cases hp : o = p
    · subst hp; simp [cellsRead_eq_zero _ _ hf]
    · simp [hp, cellsRead_filter o cs p (fun e => hp e.symm)]
  · simp only [hv, if_false]
    rw [cellsRead_insert _ _ _ _ hf]
    by_cases hp : o = p
    · simp [hp]
    · simp [hp, cellsRead_filter o cs p (fun e => hp e.symm)]

theorem cellsWf_mono (size lo lo' : Nat) (cs : List Host.Cell) (h : lo' ≤ lo) (w : cellsWf size lo cs = true) :
    cellsWf size lo' cs = true := by
  cases cs with
  | nil => rfl
  | cons c cs =>
    simp only [cellsWf, Bool.and_eq_true, decide_eq_true_eq] at w ⊢
    exact ⟨⟨⟨by omega, w.1.1.2⟩, w.1.2⟩, w.2⟩

theorem cellsWf_filter (size lo o : Nat) (cs : List Host.Cell) (w : cellsWf size lo cs = true) :
    cellsWf size lo (cs.filter fun c => c.1 != o) = true := by
  induction cs generalizing lo with
  | nil => rfl
  | cons c cs ih =>
    simp only [cellsWf, Bool.and_eq_true, decide_eq_true_eq] at w
    have hi := ih (c.1 + 1) w.2
    by_cases hc : c.1 = o
    · have hf : (c :: cs).filter (fun c => c.1 != o) = cs.filter (fun c => c.1 != o) := by simp [hc]
      rw [hf]
      exact cellsWf_mono _ _ _ _ (by omega) hi
    · have hf : (c :: cs).filter (fun c => c.1 != o) = c :: cs.filter (fun c => c.1 != o) := by simp [hc]
      rw [hf]
      simp only [cellsWf, Bool.and_eq_true, decide_eq_true_eq]
      exact ⟨w.1, hi⟩

theorem cellsWf_insert (size lo o : Nat) (v : Byte) (cs : List Host.Cell) (w : cellsWf size lo cs = true)
    (ho : lo ≤ o) (hs : o < size) (hv : v ≠ 0) (hn : ∀ c ∈ cs, c.1 ≠ o) :
    cellsWf size lo (cellsInsert o v cs) = true := by
  induction cs generalizing lo with
  | nil => simpa [cellsInsert, cellsWf, ho, hs] using hv
  | cons c cs ih =>
    simp only [cellsWf, Bool.and_eq_true, decide_eq_true_eq] at w
    have hc : c.1 ≠ o := hn c (by simp)
    simp only [cellsInsert]
    split
    · rename_i hlt
      simp only [cellsWf, Bool.and_eq_true, decide_eq_true_eq]
      exact ⟨⟨⟨ho, hs⟩, hv⟩, ⟨⟨by omega, w.1.1.2⟩, w.1.2⟩, w.2⟩
    · rename_i hge
      simp only [cellsWf, Bool.and_eq_true, decide_eq_true_eq]
      exact ⟨w.1, ih (c.1 + 1) w.2 (by omega) (fun d hd => hn d (by simp [hd]))⟩

/-- A write keeps the canonical form. -/
theorem cellsWf_write (size o : Nat) (v : Byte) (cs : List Host.Cell) (w : cellsWf size 0 cs = true) (hs : o < size) :
    cellsWf size 0 (cellsWrite cs o v) = true := by
  unfold cellsWrite
  by_cases hv : v = 0
  · simp only [hv, if_true]; exact cellsWf_filter _ _ _ _ w
  · simp only [hv, if_false]
    exact cellsWf_insert _ _ _ _ _ (cellsWf_filter _ _ _ _ w) (Nat.zero_le _) hs hv
      (by intro c hc; simpa using (List.mem_filter.mp hc).2)

/-! ### Regions -/

@[simp] theorem regionWrite_size (o : Nat) (v : Byte) (r : Region) : (regionWrite o v r).size = r.size := by
  unfold regionWrite; split <;> rfl

theorem regionWf_write (o : Nat) (v : Byte) (r : Region) (w : regionWf r = true) : regionWf (regionWrite o v r) = true := by
  unfold regionWrite
  split
  · exact cellsWf_write _ _ _ _ w (by assumption)
  · exact w

@[simp] theorem regionModify_length (f : Region → Region) (i : Nat) (rs : List Region) :
    (regionModify f i rs).length = rs.length := by
  induction rs generalizing i with
  | nil => simp [regionModify]
  | cons r rs ih => cases i <;> simp [regionModify, ih]

theorem regionModify_getElem? (f : Region → Region) (i j : Nat) (rs : List Region) :
    (regionModify f i rs)[j]? = if i = j then rs[j]?.map f else rs[j]? := by
  induction rs generalizing i j with
  | nil => simp [regionModify]
  | cons r rs ih =>
    cases i with
    | zero => cases j <;> simp [regionModify]
    | succ i =>
      cases j with
      | zero => simp [regionModify]
      | succ j => simp [regionModify, ih]

theorem regionModify_all (p : Region → Bool) (f : Region → Region) (i : Nat) (rs : List Region)
    (h : rs.all p = true) (hf : ∀ r, p r = true → p (f r) = true) : (regionModify f i rs).all p = true := by
  induction rs generalizing i with
  | nil => simp [regionModify]
  | cons r rs ih =>
    simp only [List.all_cons, Bool.and_eq_true] at h
    cases i with
    | zero => simp [regionModify, hf r h.1, h.2]
    | succ i => simp [regionModify, h.1, ih i h.2]

/-! ### `locWrite`: everything it can do -/

/-- A write through a location changes memory bytes alone. -/
theorem locWrite_frame (s : State) (l : PageEntry) (v : Byte) :
    locWrite s l v = { s with regions := (locWrite s l v).regions, unmappedWrite := (locWrite s l v).unmappedWrite } := by
  unfold locWrite
  split
  · rfl
  · rfl
  · split <;> rfl
  · rfl

theorem locWrite_regions_size (s : State) (l : PageEntry) (v : Byte) (i : Nat) :
    ((locWrite s l v).regions[i]?).map Region.size = (s.regions[i]?).map Region.size := by
  unfold locWrite
  split
  · rfl
  · rfl
  · split <;> rfl
  · simp only [regionModify_getElem?]
    split
    · cases s.regions[i]? <;> simp
    · rfl

@[simp] theorem locWrite_regions_length (s : State) (l : PageEntry) (v : Byte) :
    (locWrite s l v).regions.length = s.regions.length := by
  unfold locWrite
  split
  · rfl
  · rfl
  · split <;> rfl
  · simp

@[simp] theorem locWrite_regionSize (s : State) (l : PageEntry) (v : Byte) (r : RegionRef) :
    regionSize (locWrite s l v) r = regionSize s r := by
  cases r with
  | unmappedRead => rw [locWrite_frame]; rfl
  | unmappedWrite => rw [locWrite_frame]; rfl
  | zeroFill => rw [locWrite_frame]; rfl
  | region i => simp only [regionSize, locWrite_regions_size]

/-- The byte at a location after a write: the byte written if the location exists and is neither `UNMAPPED_READ` nor the
zeros of a missing bank, every other byte as before. -/
theorem locRead_locWrite (s : State) (l k : PageEntry) (v : Byte) :
    locRead (locWrite s l v) k =
      if k = l ∧ (l.region ≠ .unmappedRead ∧ l.region ≠ .zeroFill) ∧ l.offset < regionSize s l.region then v
      else locRead s k := by
  obtain ⟨lr, lo⟩ := l
  obtain ⟨kr, ko⟩ := k
  cases lr with
  | unmappedRead => simp [locWrite]
  | zeroFill => simp [locWrite]
  | unmappedWrite =>
    simp only [locWrite, regionSize]
    split
    · rename_i h
      cases kr <;> simp [locRead, cellsRead_write, h, PageEntry.mk.injEq, eq_comm]
    · rename_i h
      simp [h]
  | region i =>
    cases kr with
    | unmappedRead => simp [locRead, locWrite]
    | unmappedWrite => simp [locRead, locWrite]
    | zeroFill => simp [locRead]
    | region j =>
      simp only [locRead, locWrite, regionModify_getElem?, regionSize, PageEntry.mk.injEq, RegionRef.region.injEq]
      by_cases hij : i = j
      · subst hij
        cases hr : s.regions[i]? with
        | none => simp
        | some r =>
          simp only [if_true, Option.map_some, Option.getD_some, regionWrite]
          split
          · rename_i h
            simp only [cellsRead_write, h]
            by_cases ho : lo = ko
            · simp [ho]
            · have : ¬ ko = lo := fun e => ho e.symm
              simp [ho, this]
          · rename_i h
            simp [h]
      · have : ¬ j = i := fun e => hij e.symm
        simp [hij, this]

/-- A write through a location keeps the canonical form. -/
theorem locWrite_wf (s : State) (l : PageEntry) (v : Byte) (w : Memory.wf s = true) : Memory.wf (locWrite s l v) = true := by
  unfold locWrite
  simp only [Memory.wf, Bool.and_eq_true] at w
  split
  · simp [Memory.wf, w.1, w.2]
  · simp [Memory.wf, w.1, w.2]
  · split
    · rename_i h
      simp only [Memory.wf, Bool.and_eq_true]
      exact ⟨w.1, cellsWf_write _ _ _ _ w.2 h⟩
    · simp [Memory.wf, w.1, w.2]
  · simp only [Memory.wf, Bool.and_eq_true]
    exact ⟨regionModify_all _ _ _ _ w.1 (fun r hr => regionWf_write _ _ _ hr), w.2⟩

/-! ### Addresses -/

@[simp] theorem locWrite_resolveRead (s : State) (l : PageEntry) (v : Byte) (a : Word) :
    resolveRead (locWrite s l v) a = resolveRead s a := by rw [locWrite_frame]; rfl

@[simp] theorem locWrite_resolveWrite (s : State) (l : PageEntry) (v : Byte) (a : Word) :
    resolveWrite (locWrite s l v) a = resolveWrite s a := by rw [locWrite_frame]; rfl

/-- A byte stored by address and then read by address (R73, R74). -/
theorem ptRead_ptWrite (s : State) (a b : Word) (v : Byte) :
    ptRead (ptWrite s a v) b =
      if resolveRead s b = resolveWrite s a ∧
          ((resolveWrite s a).region ≠ .unmappedRead ∧ (resolveWrite s a).region ≠ .zeroFill) ∧
          (resolveWrite s a).offset < regionSize s (resolveWrite s a).region then v
      else ptRead s b := by
  simp only [ptRead, ptWrite, locWrite_resolveRead, locRead_locWrite]

theorem ptWrite_frame (s : State) (a : Word) (v : Byte) :
    ptWrite s a v = { s with regions := (ptWrite s a v).regions, unmappedWrite := (ptWrite s a v).unmappedWrite } :=
  locWrite_frame _ _ _

theorem ptWrite_wf (s : State) (a : Word) (v : Byte) (w : Memory.wf s = true) : Memory.wf (ptWrite s a v) = true :=
  locWrite_wf _ _ _ w

/-- The memory of a state: what `ptRead` and `ptWrite` go by. Two states that agree on it read alike everywhere. -/
theorem ptRead_congr {s t : State} (hf : t.cfg = s.cfg) (hp : t.readPage = s.readPage)
    (hr : t.regions = s.regions) (hu : t.unmappedWrite = s.unmappedWrite) (hb : t.unmappedFill = s.unmappedFill)
    (a : Word) : ptRead t a = ptRead s a := by
  simp only [ptRead, locRead, resolveRead, pageIndex, pageOffset, hf, hp, hr, hu, hb]

theorem wf_congr {s t : State} (hf : t.cfg = s.cfg) (hr : t.regions = s.regions)
    (hu : t.unmappedWrite = s.unmappedWrite) : Memory.wf t = Memory.wf s := by
  simp only [Memory.wf, hf, hr, hu]

/-! ### Mapping -/

@[simp] theorem setPages_length (first n : Nat) (f : Nat → PageEntry) (i : Nat) (es : List PageEntry) :
    (setPages first n f i es).length = es.length := by
  induction es generalizing i with
  | nil => rfl
  | cons e es ih => simp [setPages, ih]

/-- The entries of a page table after `setPages`. -/
theorem setPages_getElem? (first n : Nat) (f : Nat → PageEntry) (i j : Nat) (es : List PageEntry) :
    (setPages first n f i es)[j]? =
      (es[j]?).map fun e => if first ≤ i + j ∧ i + j < first + n then f (i + j - first) else e := by
  induction es generalizing i j with
  | nil => simp [setPages]
  | cons e es ih =>
    cases j with
    | zero => simp [setPages]
    | succ j => simp [setPages, ih, Nat.add_comm 1 j, Nat.add_assoc]

/-- An accepted mapping call changes the two page tables alone. -/
theorem mapInstall_frame (s : State) (c : MapCall) :
    mapInstall s c = { s with readPage := (mapInstall s c).readPage, writePage := (mapInstall s c).writePage } := by
  cases c <;> rfl

/-- A mapping call changes the page tables, or is refused with a record and a warning (R75 to R77). -/
theorem applyMap_cases (c : MapCall) (s : State) :
    (mapOk s c = true ∧ applyMap c s = mapInstall s c) ∨
      (mapOk s c = false ∧ applyMap c s = warn "bad page mapping" (refuse .misalignedMap s)) := by
  unfold applyMap
  cases mapOk s c <;> simp

/-- Everything a mapping call can change. -/
theorem applyMap_frame (c : MapCall) (s : State) :
    applyMap c s = { s with
      readPage := (applyMap c s).readPage
      writePage := (applyMap c s).writePage
      warning := (applyMap c s).warning
      refusals := (applyMap c s).refusals } := by
  rcases applyMap_cases c s with ⟨_, h⟩ | ⟨_, h⟩
  · rw [h, mapInstall_frame]
  · rw [h]; rfl

/-- Everything a bank switch can change. -/
theorem bankSelect_frame (window size rom : Nat) (missing : MissingBank) (v : Byte) (s : State) :
    bankSelect window size rom missing v s = { s with
      readPage := (bankSelect window size rom missing v s).readPage
      writePage := (bankSelect window size rom missing v s).writePage
      warning := (bankSelect window size rom missing v s).warning
      refusals := (bankSelect window size rom missing v s).refusals } := by
  unfold bankSelect
  split
  · exact applyMap_frame _ _
  · rw [applyMap_frame]; rfl

theorem applyMap_wf (c : MapCall) (s : State) : Memory.wf (applyMap c s) = Memory.wf s := by
  rw [applyMap_frame]; rfl

theorem bankSelect_wf (window size rom : Nat) (missing : MissingBank) (v : Byte) (s : State) :
    Memory.wf (bankSelect window size rom missing v s) = Memory.wf s := by
  rw [bankSelect_frame]; rfl

/-! ### Placing bytes -/

theorem ensureBacked_frame (a : Word) (s : State) :
    ensureBacked a s = { s with regions := (ensureBacked a s).regions, readPage := (ensureBacked a s).readPage } := by
  unfold ensureBacked; split <;> rfl

theorem ensureBacked_wf (a : Word) (s : State) (w : Memory.wf s = true) : Memory.wf (ensureBacked a s) = true := by
  unfold ensureBacked
  split
  · simp only [Memory.wf, Bool.and_eq_true] at w ⊢
    exact ⟨by simp [w.1, regionWf, cellsWf], w.2⟩
  · exact w

theorem poke_wf (a : Word) (v : Byte) (s : State) (w : Memory.wf s = true) : Memory.wf (poke a v s) = true :=
  locWrite_wf _ _ _ w

theorem ensureHalt_wf (s : State) (w : Memory.wf s = true) : Memory.wf (ensureHalt s) = true := by
  unfold ensureHalt
  split
  · exact w
  · exact poke_wf _ _ _ (ensureBacked_wf _ _ w)

/-! ### Reset -/

/-- The memory of the machine after reset is in canonical form. -/
theorem resetOf_wf (cfg : Cfg) : Memory.wf (State.resetOf cfg) = true := rfl

theorem reset_wf : Memory.wf State.reset = true := rfl

end Sys2Proof.Machine
end

