-- ==== Sys2Proof/Laws/Driver.lean ====
section
/-! SUPPORT. What the driver's shared operations leave alone, what a region built from an image holds, and what the mute mask
does to all chips. -/

namespace Sys2Proof.Machine

theorem setEntryReg_frame (k : Nat) (s : State) (e : EntrySet) :
    setEntryReg k s e = { s with m := (setEntryReg k s e).m, z := (setEntryReg k s e).z } := by
  rcases e with ⟨r, v⟩
  cases r <;> rfl

/-- The entry registers are all that `SetEntryRegs` writes (R532). -/
theorem setEntryRegs_frame (es : List EntrySet) (k : Nat) (s : State) :
    setEntryRegs es k s = { s with m := (setEntryRegs es k s).m, z := (setEntryRegs es k s).z } := by
  induction es generalizing s with
  | nil => rfl
  | cons e es ih =>
    have h := ih (setEntryReg k s e)
    rw [setEntryRegs, List.foldl_cons, ← setEntryRegs, h, setEntryReg_frame]

/-- `SetStack` writes a stack pointer alone (R532). -/
theorem setStack_frame (s : State) : setStack s = { s with m := (setStack s).m, z := (setStack s).z } := by
  unfold setStack
  split <;> rfl

/-! ### The regions of an image (R531, R68) -/

theorem copyBlock_read (bs : List Byte) (o : Nat) (r : Region) (p : Nat) (h : p < r.size) :
    (copyBlock o bs r).size = r.size ∧
    cellsRead (copyBlock o bs r).cells p =
      if o ≤ p then bs.getD (p - o) (cellsRead r.cells p) else cellsRead r.cells p := by
  induction bs generalizing o r with
  | nil => simp [copyBlock]
  | cons b bs ih =>
    have i := ih (o + 1) (regionWrite o b r) (by simpa using h)
    have w : cellsRead (regionWrite o b r).cells p = if o = p then b else cellsRead r.cells p := by
      unfold regionWrite
      split
      · simp [cellsRead_write]
      · simp [show ¬ o = p by omega]
    refine ⟨by rw [copyBlock, i.1, regionWrite_size], ?_⟩
    rw [copyBlock, i.2, w]
    rcases Nat.lt_trichotomy o p with g | g | g
    · simp [show o + 1 ≤ p by omega, show ¬ o = p by omega, show o ≤ p by omega, show p - o = p - (o + 1) + 1 by omega]
    · subst g; simp
    · simp [show ¬ o + 1 ≤ p by omega, show ¬ o = p by omega, show ¬ o ≤ p by omega]

/-- A region holds the bytes of its blocks, and zeros elsewhere. -/
theorem buildRegion_read (r : RegionImage) (p : Nat) (h : p < r.size) :
    (buildRegion r).size = r.size ∧ cellsRead (buildRegion r).cells p = imageByte r p := by
  unfold buildRegion imageByte
  suffices g : ∀ (bl : List (Nat × List Byte)) (g : Region), p < g.size →
      (bl.foldl (fun g b => copyBlock b.1 b.2 g) g).size = g.size ∧
      cellsRead (bl.foldl (fun g b => copyBlock b.1 b.2 g) g).cells p =
        bl.foldl (fun b blk => if blk.1 ≤ p then blk.2.getD (p - blk.1) b else b) (cellsRead g.cells p) by
    simpa [cellsRead] using g r.blocks ⟨r.size, []⟩ h
  intro bl
  induction bl with
  | nil => exact fun g _ => ⟨rfl, rfl⟩
  | cons b bl ih =>
    intro g hg
    have c := copyBlock_read b.2 b.1 g p hg
    have i := ih (copyBlock b.1 b.2 g) (by rw [c.1]; exact hg)
    rw [List.foldl_cons, List.foldl_cons, i.1, i.2, c.1, c.2]
    exact ⟨rfl, rfl⟩

/-! ### The mute mask (R549) -/

theorem muteAll_eq (mask : Nat) (s : State) : muteAll mask s = s.cfg.chips.foldl (chipMuted mask) s := by
  simp only [muteAll, muteChip_eq]

/-- The chips and the sink are all that a mute mask writes. -/
theorem chipsMuted_frame (mask : Nat) (cs : List Chip) (s : State) :
    cs.foldl (chipMuted mask) s = { s with
      nes := (cs.foldl (chipMuted mask) s).nes
      ay := (cs.foldl (chipMuted mask) s).ay
      pokey := (cs.foldl (chipMuted mask) s).pokey
      sink := (cs.foldl (chipMuted mask) s).sink } := by
  induction cs generalizing s with
  | nil => rfl
  | cons c cs ih =>
    rw [List.foldl_cons, ih]
    cases c <;> rfl

/-! ### Rebasing (R546, R22) -/

/-- What rebasing does to `end_time`, under either reading. -/
@[simp] theorem rebaseEndTime_endTime (n : Int) (s : State) :
    (rebaseEndTime n s).endTime = s.cfg.endTimeRebase.apply n s.endTime := rfl
@[simp] theorem rebaseEndTime_cfg (n : Int) (s : State) : (rebaseEndTime n s).cfg = s.cfg := rfl
@[simp] theorem rebaseEndTime_control (n : Int) (s : State) : (rebaseEndTime n s).control = s.control := rfl
@[simp] theorem rebaseEndTime_calls (n : Int) (s : State) : (rebaseEndTime n s).calls = s.calls := rfl
@[simp] theorem rebaseEndTime_results (n : Int) (s : State) : (rebaseEndTime n s).results = s.results := rfl
@[simp] theorem rebaseEndTime_refusals (n : Int) (s : State) : (rebaseEndTime n s).refusals = s.refusals := rfl
@[simp] theorem rebaseEndTime_draws (n : Int) (s : State) : (rebaseEndTime n s).draws = s.draws := rfl
@[simp] theorem rebaseEndTime_time (n : Int) (s : State) : (rebaseEndTime n s).time = s.time := rfl
@[simp] theorem rebaseEndTime_errorCount (n : Int) (s : State) : (rebaseEndTime n s).errorCount = s.errorCount := rfl
@[simp] theorem rebaseEndTime_pc (n : Int) (s : State) : (rebaseEndTime n s).pc = s.pc := rfl
@[simp] theorem rebaseEndTime_phase (n : Int) (s : State) : (rebaseEndTime n s).phase = s.phase := rfl
@[simp] theorem rebaseEndTime_m (n : Int) (s : State) : (rebaseEndTime n s).m = s.m := rfl
@[simp] theorem rebaseEndTime_z (n : Int) (s : State) : (rebaseEndTime n s).z = s.z := rfl
@[simp] theorem rebaseEndTime_unmappedFill (n : Int) (s : State) : (rebaseEndTime n s).unmappedFill = s.unmappedFill := rfl
@[simp] theorem rebaseEndTime_readPage (n : Int) (s : State) : (rebaseEndTime n s).readPage = s.readPage := rfl
@[simp] theorem rebaseEndTime_writePage (n : Int) (s : State) : (rebaseEndTime n s).writePage = s.writePage := rfl
@[simp] theorem rebaseEndTime_regions (n : Int) (s : State) : (rebaseEndTime n s).regions = s.regions := rfl
@[simp] theorem rebaseEndTime_unmappedWrite (n : Int) (s : State) : (rebaseEndTime n s).unmappedWrite = s.unmappedWrite := rfl
@[simp] theorem rebaseEndTime_nes (n : Int) (s : State) : (rebaseEndTime n s).nes = s.nes := rfl
@[simp] theorem rebaseEndTime_ay (n : Int) (s : State) : (rebaseEndTime n s).ay = s.ay := rfl
@[simp] theorem rebaseEndTime_pokey (n : Int) (s : State) : (rebaseEndTime n s).pokey = s.pokey := rfl
@[simp] theorem rebaseEndTime_sink (n : Int) (s : State) : (rebaseEndTime n s).sink = s.sink := rfl
@[simp] theorem rebaseEndTime_nextPlayTime (n : Int) (s : State) : (rebaseEndTime n s).nextPlayTime = s.nextPlayTime := rfl
@[simp] theorem rebaseEndTime_playPeriod (n : Int) (s : State) : (rebaseEndTime n s).playPeriod = s.playPeriod := rfl
@[simp] theorem rebaseEndTime_suspended (n : Int) (s : State) : (rebaseEndTime n s).suspended = s.suspended := rfl
@[simp] theorem rebaseEndTime_warning (n : Int) (s : State) : (rebaseEndTime n s).warning = s.warning := rfl
@[simp] theorem rebaseEndTime_started (n : Int) (s : State) : (rebaseEndTime n s).started = s.started := rfl
@[simp] theorem rebaseEndTime_initAddr (n : Int) (s : State) : (rebaseEndTime n s).initAddr = s.initAddr := rfl
@[simp] theorem rebaseEndTime_playAddr (n : Int) (s : State) : (rebaseEndTime n s).playAddr = s.playAddr := rfl
@[simp] theorem rebaseEndTime_track (n : Int) (s : State) : (rebaseEndTime n s).track = s.track := rfl
@[simp] theorem rebaseEndTime_image (n : Int) (s : State) : (rebaseEndTime n s).image = s.image := rfl
@[simp] theorem rebaseEndTime_playCalls (n : Int) (s : State) : (rebaseEndTime n s).playCalls = s.playCalls := rfl
@[simp] theorem rebaseEndTime_voiceMute (n : Int) (s : State) : (rebaseEndTime n s).voiceMute = s.voiceMute := rfl
@[simp] theorem rebaseEndTime_tempo (n : Int) (s : State) : (rebaseEndTime n s).tempo = s.tempo := rfl

/-- All that rebasing does to a state whose time has reached the target. -/
theorem rebaseTime_eq (target : Int) (s : State) (h : target ≤ s.time) :
    rebaseTime target s =
      { s with time := s.time - target, endTime := s.cfg.endTimeRebase.apply target s.endTime } :=
  if_neg (Int.not_lt.mpr h)

end Sys2Proof.Machine
end

