-- ==== Sys2Proof/Laws/State.lean ====
section
/-! SUPPORT. What each named update of the state leaves in each field, one lemma per field, true by definition. -/

namespace Sys2Proof.Machine

/-! ### `warn` -/

@[simp] theorem warn_cfg (text : String) (s : State) : (warn text s).cfg = s.cfg := rfl
@[simp] theorem warn_control (text : String) (s : State) : (warn text s).control = s.control := rfl
@[simp] theorem warn_calls (text : String) (s : State) : (warn text s).calls = s.calls := rfl
@[simp] theorem warn_results (text : String) (s : State) : (warn text s).results = s.results := rfl
@[simp] theorem warn_refusals (text : String) (s : State) : (warn text s).refusals = s.refusals := rfl
@[simp] theorem warn_draws (text : String) (s : State) : (warn text s).draws = s.draws := rfl
@[simp] theorem warn_time (text : String) (s : State) : (warn text s).time = s.time := rfl
@[simp] theorem warn_endTime (text : String) (s : State) : (warn text s).endTime = s.endTime := rfl
@[simp] theorem warn_errorCount (text : String) (s : State) : (warn text s).errorCount = s.errorCount := rfl
@[simp] theorem warn_pc (text : String) (s : State) : (warn text s).pc = s.pc := rfl
@[simp] theorem warn_phase (text : String) (s : State) : (warn text s).phase = s.phase := rfl
@[simp] theorem warn_m (text : String) (s : State) : (warn text s).m = s.m := rfl
@[simp] theorem warn_z (text : String) (s : State) : (warn text s).z = s.z := rfl
@[simp] theorem warn_unmappedFill (text : String) (s : State) : (warn text s).unmappedFill = s.unmappedFill := rfl
@[simp] theorem warn_readPage (text : String) (s : State) : (warn text s).readPage = s.readPage := rfl
@[simp] theorem warn_writePage (text : String) (s : State) : (warn text s).writePage = s.writePage := rfl
@[simp] theorem warn_regions (text : String) (s : State) : (warn text s).regions = s.regions := rfl
@[simp] theorem warn_unmappedWrite (text : String) (s : State) : (warn text s).unmappedWrite = s.unmappedWrite := rfl
@[simp] theorem warn_nes (text : String) (s : State) : (warn text s).nes = s.nes := rfl
@[simp] theorem warn_ay (text : String) (s : State) : (warn text s).ay = s.ay := rfl
@[simp] theorem warn_pokey (text : String) (s : State) : (warn text s).pokey = s.pokey := rfl
@[simp] theorem warn_sink (text : String) (s : State) : (warn text s).sink = s.sink := rfl
@[simp] theorem warn_nextPlayTime (text : String) (s : State) : (warn text s).nextPlayTime = s.nextPlayTime := rfl
@[simp] theorem warn_playPeriod (text : String) (s : State) : (warn text s).playPeriod = s.playPeriod := rfl
@[simp] theorem warn_suspended (text : String) (s : State) : (warn text s).suspended = s.suspended := rfl
@[simp] theorem warn_warning (text : String) (s : State) : (warn text s).warning = some text := rfl
@[simp] theorem warn_started (text : String) (s : State) : (warn text s).started = s.started := rfl
@[simp] theorem warn_initAddr (text : String) (s : State) : (warn text s).initAddr = s.initAddr := rfl
@[simp] theorem warn_playAddr (text : String) (s : State) : (warn text s).playAddr = s.playAddr := rfl
@[simp] theorem warn_track (text : String) (s : State) : (warn text s).track = s.track := rfl
@[simp] theorem warn_image (text : String) (s : State) : (warn text s).image = s.image := rfl
@[simp] theorem warn_playCalls (text : String) (s : State) : (warn text s).playCalls = s.playCalls := rfl
@[simp] theorem warn_voiceMute (text : String) (s : State) : (warn text s).voiceMute = s.voiceMute := rfl
@[simp] theorem warn_tempo (text : String) (s : State) : (warn text s).tempo = s.tempo := rfl

/-! ### `refuse` -/

@[simp] theorem refuse_cfg (r : CallRefusal) (s : State) : (refuse r s).cfg = s.cfg := rfl
@[simp] theorem refuse_control (r : CallRefusal) (s : State) : (refuse r s).control = s.control := rfl
@[simp] theorem refuse_calls (r : CallRefusal) (s : State) : (refuse r s).calls = s.calls := rfl
@[simp] theorem refuse_results (r : CallRefusal) (s : State) : (refuse r s).results = s.results := rfl
@[simp] theorem refuse_refusals (r : CallRefusal) (s : State) : (refuse r s).refusals = r :: s.refusals := rfl
@[simp] theorem refuse_draws (r : CallRefusal) (s : State) : (refuse r s).draws = s.draws := rfl
@[simp] theorem refuse_time (r : CallRefusal) (s : State) : (refuse r s).time = s.time := rfl
@[simp] theorem refuse_endTime (r : CallRefusal) (s : State) : (refuse r s).endTime = s.endTime := rfl
@[simp] theorem refuse_errorCount (r : CallRefusal) (s : State) : (refuse r s).errorCount = s.errorCount := rfl
@[simp] theorem refuse_pc (r : CallRefusal) (s : State) : (refuse r s).pc = s.pc := rfl
@[simp] theorem refuse_phase (r : CallRefusal) (s : State) : (refuse r s).phase = s.phase := rfl
@[simp] theorem refuse_m (r : CallRefusal) (s : State) : (refuse r s).m = s.m := rfl
@[simp] theorem refuse_z (r : CallRefusal) (s : State) : (refuse r s).z = s.z := rfl
@[simp] theorem refuse_unmappedFill (r : CallRefusal) (s : State) : (refuse r s).unmappedFill = s.unmappedFill := rfl
@[simp] theorem refuse_readPage (r : CallRefusal) (s : State) : (refuse r s).readPage = s.readPage := rfl
@[simp] theorem refuse_writePage (r : CallRefusal) (s : State) : (refuse r s).writePage = s.writePage := rfl
@[simp] theorem refuse_regions (r : CallRefusal) (s : State) : (refuse r s).regions = s.regions := rfl
@[simp] theorem refuse_unmappedWrite (r : CallRefusal) (s : State) : (refuse r s).unmappedWrite = s.unmappedWrite := rfl
@[simp] theorem refuse_nes (r : CallRefusal) (s : State) : (refuse r s).nes = s.nes := rfl
@[simp] theorem refuse_ay (r : CallRefusal) (s : State) : (refuse r s).ay = s.ay := rfl
@[simp] theorem refuse_pokey (r : CallRefusal) (s : State) : (refuse r s).pokey = s.pokey := rfl
@[simp] theorem refuse_sink (r : CallRefusal) (s : State) : (refuse r s).sink = s.sink := rfl
@[simp] theorem refuse_nextPlayTime (r : CallRefusal) (s : State) : (refuse r s).nextPlayTime = s.nextPlayTime := rfl
@[simp] theorem refuse_playPeriod (r : CallRefusal) (s : State) : (refuse r s).playPeriod = s.playPeriod := rfl
@[simp] theorem refuse_suspended (r : CallRefusal) (s : State) : (refuse r s).suspended = s.suspended := rfl
@[simp] theorem refuse_warning (r : CallRefusal) (s : State) : (refuse r s).warning = s.warning := rfl
@[simp] theorem refuse_started (r : CallRefusal) (s : State) : (refuse r s).started = s.started := rfl
@[simp] theorem refuse_initAddr (r : CallRefusal) (s : State) : (refuse r s).initAddr = s.initAddr := rfl
@[simp] theorem refuse_playAddr (r : CallRefusal) (s : State) : (refuse r s).playAddr = s.playAddr := rfl
@[simp] theorem refuse_track (r : CallRefusal) (s : State) : (refuse r s).track = s.track := rfl
@[simp] theorem refuse_image (r : CallRefusal) (s : State) : (refuse r s).image = s.image := rfl
@[simp] theorem refuse_playCalls (r : CallRefusal) (s : State) : (refuse r s).playCalls = s.playCalls := rfl
@[simp] theorem refuse_voiceMute (r : CallRefusal) (s : State) : (refuse r s).voiceMute = s.voiceMute := rfl
@[simp] theorem refuse_tempo (r : CallRefusal) (s : State) : (refuse r s).tempo = s.tempo := rfl

/-! ### `charge` -/

@[simp] theorem charge_cfg (n : Nat) (s : State) : (charge n s).cfg = s.cfg := rfl
@[simp] theorem charge_control (n : Nat) (s : State) : (charge n s).control = s.control := rfl
@[simp] theorem charge_calls (n : Nat) (s : State) : (charge n s).calls = s.calls := rfl
@[simp] theorem charge_results (n : Nat) (s : State) : (charge n s).results = s.results := rfl
@[simp] theorem charge_refusals (n : Nat) (s : State) : (charge n s).refusals = s.refusals := rfl
@[simp] theorem charge_draws (n : Nat) (s : State) : (charge n s).draws = s.draws := rfl
@[simp] theorem charge_time (n : Nat) (s : State) : (charge n s).time = s.time + n := rfl
@[simp] theorem charge_endTime (n : Nat) (s : State) : (charge n s).endTime = s.endTime := rfl
@[simp] theorem charge_errorCount (n : Nat) (s : State) : (charge n s).errorCount = s.errorCount := rfl
@[simp] theorem charge_pc (n : Nat) (s : State) : (charge n s).pc = s.pc := rfl
@[simp] theorem charge_phase (n : Nat) (s : State) : (charge n s).phase = s.phase := rfl
@[simp] theorem charge_m (n : Nat) (s : State) : (charge n s).m = s.m := rfl
@[simp] theorem charge_z (n : Nat) (s : State) : (charge n s).z = s.z := rfl
@[simp] theorem charge_unmappedFill (n : Nat) (s : State) : (charge n s).unmappedFill = s.unmappedFill := rfl
@[simp] theorem charge_readPage (n : Nat) (s : State) : (charge n s).readPage = s.readPage := rfl
@[simp] theorem charge_writePage (n : Nat) (s : State) : (charge n s).writePage = s.writePage := rfl
@[simp] theorem charge_regions (n : Nat) (s : State) : (charge n s).regions = s.regions := rfl
@[simp] theorem charge_unmappedWrite (n : Nat) (s : State) : (charge n s).unmappedWrite = s.unmappedWrite := rfl
@[simp] theorem charge_nes (n : Nat) (s : State) : (charge n s).nes = s.nes := rfl
@[simp] theorem charge_ay (n : Nat) (s : State) : (charge n s).ay = s.ay := rfl
@[simp] theorem charge_pokey (n : Nat) (s : State) : (charge n s).pokey = s.pokey := rfl
@[simp] theorem charge_sink (n : Nat) (s : State) : (charge n s).sink = s.sink := rfl
@[simp] theorem charge_nextPlayTime (n : Nat) (s : State) : (charge n s).nextPlayTime = s.nextPlayTime := rfl
@[simp] theorem charge_playPeriod (n : Nat) (s : State) : (charge n s).playPeriod = s.playPeriod := rfl
@[simp] theorem charge_suspended (n : Nat) (s : State) : (charge n s).suspended = s.suspended := rfl
@[simp] theorem charge_warning (n : Nat) (s : State) : (charge n s).warning = s.warning := rfl
@[simp] theorem charge_started (n : Nat) (s : State) : (charge n s).started = s.started := rfl
@[simp] theorem charge_initAddr (n : Nat) (s : State) : (charge n s).initAddr = s.initAddr := rfl
@[simp] theorem charge_playAddr (n : Nat) (s : State) : (charge n s).playAddr = s.playAddr := rfl
@[simp] theorem charge_track (n : Nat) (s : State) : (charge n s).track = s.track := rfl
@[simp] theorem charge_image (n : Nat) (s : State) : (charge n s).image = s.image := rfl
@[simp] theorem charge_playCalls (n : Nat) (s : State) : (charge n s).playCalls = s.playCalls := rfl
@[simp] theorem charge_voiceMute (n : Nat) (s : State) : (charge n s).voiceMute = s.voiceMute := rfl
@[simp] theorem charge_tempo (n : Nat) (s : State) : (charge n s).tempo = s.tempo := rfl

/-! ### `drawn` -/

@[simp] theorem drawn_cfg (s : State) : (drawn s).cfg = s.cfg := rfl
@[simp] theorem drawn_control (s : State) : (drawn s).control = s.control := rfl
@[simp] theorem drawn_calls (s : State) : (drawn s).calls = s.calls := rfl
@[simp] theorem drawn_results (s : State) : (drawn s).results = s.results := rfl
@[simp] theorem drawn_refusals (s : State) : (drawn s).refusals = s.refusals := rfl
@[simp] theorem drawn_draws (s : State) : (drawn s).draws = s.draws + 1 := rfl
@[simp] theorem drawn_time (s : State) : (drawn s).time = s.time := rfl
@[simp] theorem drawn_endTime (s : State) : (drawn s).endTime = s.endTime := rfl
@[simp] theorem drawn_errorCount (s : State) : (drawn s).errorCount = s.errorCount := rfl
@[simp] theorem drawn_pc (s : State) : (drawn s).pc = s.pc := rfl
@[simp] theorem drawn_phase (s : State) : (drawn s).phase = s.phase := rfl
@[simp] theorem drawn_m (s : State) : (drawn s).m = s.m := rfl
@[simp] theorem drawn_z (s : State) : (drawn s).z = s.z := rfl
@[simp] theorem drawn_unmappedFill (s : State) : (drawn s).unmappedFill = s.unmappedFill := rfl
@[simp] theorem drawn_readPage (s : State) : (drawn s).readPage = s.readPage := rfl
@[simp] theorem drawn_writePage (s : State) : (drawn s).writePage = s.writePage := rfl
@[simp] theorem drawn_regions (s : State) : (drawn s).regions = s.regions := rfl
@[simp] theorem drawn_unmappedWrite (s : State) : (drawn s).unmappedWrite = s.unmappedWrite := rfl
@[simp] theorem drawn_nes (s : State) : (drawn s).nes = s.nes := rfl
@[simp] theorem drawn_ay (s : State) : (drawn s).ay = s.ay := rfl
@[simp] theorem drawn_pokey (s : State) : (drawn s).pokey = s.pokey := rfl
@[simp] theorem drawn_sink (s : State) : (drawn s).sink = s.sink := rfl
@[simp] theorem drawn_nextPlayTime (s : State) : (drawn s).nextPlayTime = s.nextPlayTime := rfl
@[simp] theorem drawn_playPeriod (s : State) : (drawn s).playPeriod = s.playPeriod := rfl
@[simp] theorem drawn_suspended (s : State) : (drawn s).suspended = s.suspended := rfl
@[simp] theorem drawn_warning (s : State) : (drawn s).warning = s.warning := rfl
@[simp] theorem drawn_started (s : State) : (drawn s).started = s.started := rfl
@[simp] theorem drawn_initAddr (s : State) : (drawn s).initAddr = s.initAddr := rfl
@[simp] theorem drawn_playAddr (s : State) : (drawn s).playAddr = s.playAddr := rfl
@[simp] theorem drawn_track (s : State) : (drawn s).track = s.track := rfl
@[simp] theorem drawn_image (s : State) : (drawn s).image = s.image := rfl
@[simp] theorem drawn_playCalls (s : State) : (drawn s).playCalls = s.playCalls := rfl
@[simp] theorem drawn_voiceMute (s : State) : (drawn s).voiceMute = s.voiceMute := rfl
@[simp] theorem drawn_tempo (s : State) : (drawn s).tempo = s.tempo := rfl

/-! ### `beginM` -/

@[simp] theorem beginM_cfg (len cyc : Nat) (s : State) : (beginM len cyc s).cfg = s.cfg := rfl
@[simp] theorem beginM_control (len cyc : Nat) (s : State) : (beginM len cyc s).control = s.control := rfl
@[simp] theorem beginM_calls (len cyc : Nat) (s : State) : (beginM len cyc s).calls = s.calls := rfl
@[simp] theorem beginM_results (len cyc : Nat) (s : State) : (beginM len cyc s).results = s.results := rfl
@[simp] theorem beginM_refusals (len cyc : Nat) (s : State) : (beginM len cyc s).refusals = s.refusals := rfl
@[simp] theorem beginM_draws (len cyc : Nat) (s : State) : (beginM len cyc s).draws = s.draws := rfl
@[simp] theorem beginM_time (len cyc : Nat) (s : State) : (beginM len cyc s).time = s.time + cyc := rfl
@[simp] theorem beginM_endTime (len cyc : Nat) (s : State) : (beginM len cyc s).endTime = s.endTime := rfl
@[simp] theorem beginM_errorCount (len cyc : Nat) (s : State) : (beginM len cyc s).errorCount = s.errorCount := rfl
@[simp] theorem beginM_pc (len cyc : Nat) (s : State) : (beginM len cyc s).pc = s.pc + BitVec.ofNat 16 len := rfl
@[simp] theorem beginM_phase (len cyc : Nat) (s : State) : (beginM len cyc s).phase = s.phase := rfl
@[simp] theorem beginM_m (len cyc : Nat) (s : State) : (beginM len cyc s).m = s.m := rfl
@[simp] theorem beginM_z (len cyc : Nat) (s : State) : (beginM len cyc s).z = s.z := rfl
@[simp] theorem beginM_unmappedFill (len cyc : Nat) (s : State) : (beginM len cyc s).unmappedFill = s.unmappedFill :=
    rfl
@[simp] theorem beginM_readPage (len cyc : Nat) (s : State) : (beginM len cyc s).readPage = s.readPage := rfl
@[simp] theorem beginM_writePage (len cyc : Nat) (s : State) : (beginM len cyc s).writePage = s.writePage := rfl
@[simp] theorem beginM_regions (len cyc : Nat) (s : State) : (beginM len cyc s).regions = s.regions := rfl
@[simp] theorem beginM_unmappedWrite (len cyc : Nat) (s : State) : (beginM len cyc s).unmappedWrite = s.unmappedWrite :=
    rfl
@[simp] theorem beginM_nes (len cyc : Nat) (s : State) : (beginM len cyc s).nes = s.nes := rfl
@[simp] theorem beginM_ay (len cyc : Nat) (s : State) : (beginM len cyc s).ay = s.ay := rfl
@[simp] theorem beginM_pokey (len cyc : Nat) (s : State) : (beginM len cyc s).pokey = s.pokey := rfl
@[simp] theorem beginM_sink (len cyc : Nat) (s : State) : (beginM len cyc s).sink = s.sink := rfl
@[simp] theorem beginM_nextPlayTime (len cyc : Nat) (s : State) : (beginM len cyc s).nextPlayTime = s.nextPlayTime :=
    rfl
@[simp] theorem beginM_playPeriod (len cyc : Nat) (s : State) : (beginM len cyc s).playPeriod = s.playPeriod := rfl
@[simp] theorem beginM_suspended (len cyc : Nat) (s : State) : (beginM len cyc s).suspended = s.suspended := rfl
@[simp] theorem beginM_warning (len cyc : Nat) (s : State) : (beginM len cyc s).warning = s.warning := rfl
@[simp] theorem beginM_started (len cyc : Nat) (s : State) : (beginM len cyc s).started = s.started := rfl
@[simp] theorem beginM_initAddr (len cyc : Nat) (s : State) : (beginM len cyc s).initAddr = s.initAddr := rfl
@[simp] theorem beginM_playAddr (len cyc : Nat) (s : State) : (beginM len cyc s).playAddr = s.playAddr := rfl
@[simp] theorem beginM_track (len cyc : Nat) (s : State) : (beginM len cyc s).track = s.track := rfl
@[simp] theorem beginM_image (len cyc : Nat) (s : State) : (beginM len cyc s).image = s.image := rfl
@[simp] theorem beginM_playCalls (len cyc : Nat) (s : State) : (beginM len cyc s).playCalls = s.playCalls := rfl
@[simp] theorem beginM_voiceMute (len cyc : Nat) (s : State) : (beginM len cyc s).voiceMute = s.voiceMute := rfl
@[simp] theorem beginM_tempo (len cyc : Nat) (s : State) : (beginM len cyc s).tempo = s.tempo := rfl

/-! ### `beginZ` -/

@[simp] theorem beginZ_cfg (k : Cost) (s : State) : (beginZ k s).cfg = s.cfg := rfl
@[simp] theorem beginZ_control (k : Cost) (s : State) : (beginZ k s).control = s.control := rfl
@[simp] theorem beginZ_calls (k : Cost) (s : State) : (beginZ k s).calls = s.calls := rfl
@[simp] theorem beginZ_results (k : Cost) (s : State) : (beginZ k s).results = s.results := rfl
@[simp] theorem beginZ_refusals (k : Cost) (s : State) : (beginZ k s).refusals = s.refusals := rfl
@[simp] theorem beginZ_draws (k : Cost) (s : State) : (beginZ k s).draws = s.draws := rfl
@[simp] theorem beginZ_time (k : Cost) (s : State) : (beginZ k s).time = s.time + k.cyc := rfl
@[simp] theorem beginZ_endTime (k : Cost) (s : State) : (beginZ k s).endTime = s.endTime := rfl
@[simp] theorem beginZ_errorCount (k : Cost) (s : State) : (beginZ k s).errorCount = s.errorCount := rfl
@[simp] theorem beginZ_pc (k : Cost) (s : State) : (beginZ k s).pc = s.pc + BitVec.ofNat 16 k.len := rfl
@[simp] theorem beginZ_phase (k : Cost) (s : State) : (beginZ k s).phase = s.phase := rfl
@[simp] theorem beginZ_m (k : Cost) (s : State) : (beginZ k s).m = s.m := rfl
@[simp] theorem beginZ_z (k : Cost) (s : State) : (beginZ k s).z = { s.z with r := bumpR k.fetches s.z.r } := rfl
@[simp] theorem beginZ_unmappedFill (k : Cost) (s : State) : (beginZ k s).unmappedFill = s.unmappedFill := rfl
@[simp] theorem beginZ_readPage (k : Cost) (s : State) : (beginZ k s).readPage = s.readPage := rfl
@[simp] theorem beginZ_writePage (k : Cost) (s : State) : (beginZ k s).writePage = s.writePage := rfl
@[simp] theorem beginZ_regions (k : Cost) (s : State) : (beginZ k s).regions = s.regions := rfl
@[simp] theorem beginZ_unmappedWrite (k : Cost) (s : State) : (beginZ k s).unmappedWrite = s.unmappedWrite := rfl
@[simp] theorem beginZ_nes (k : Cost) (s : State) : (beginZ k s).nes = s.nes := rfl
@[simp] theorem beginZ_ay (k : Cost) (s : State) : (beginZ k s).ay = s.ay := rfl
@[simp] theorem beginZ_pokey (k : Cost) (s : State) : (beginZ k s).pokey = s.pokey := rfl
@[simp] theorem beginZ_sink (k : Cost) (s : State) : (beginZ k s).sink = s.sink := rfl
@[simp] theorem beginZ_nextPlayTime (k : Cost) (s : State) : (beginZ k s).nextPlayTime = s.nextPlayTime := rfl
@[simp] theorem beginZ_playPeriod (k : Cost) (s : State) : (beginZ k s).playPeriod = s.playPeriod := rfl
@[simp] theorem beginZ_suspended (k : Cost) (s : State) : (beginZ k s).suspended = s.suspended := rfl
@[simp] theorem beginZ_warning (k : Cost) (s : State) : (beginZ k s).warning = s.warning := rfl
@[simp] theorem beginZ_started (k : Cost) (s : State) : (beginZ k s).started = s.started := rfl
@[simp] theorem beginZ_initAddr (k : Cost) (s : State) : (beginZ k s).initAddr = s.initAddr := rfl
@[simp] theorem beginZ_playAddr (k : Cost) (s : State) : (beginZ k s).playAddr = s.playAddr := rfl
@[simp] theorem beginZ_track (k : Cost) (s : State) : (beginZ k s).track = s.track := rfl
@[simp] theorem beginZ_image (k : Cost) (s : State) : (beginZ k s).image = s.image := rfl
@[simp] theorem beginZ_playCalls (k : Cost) (s : State) : (beginZ k s).playCalls = s.playCalls := rfl
@[simp] theorem beginZ_voiceMute (k : Cost) (s : State) : (beginZ k s).voiceMute = s.voiceMute := rfl
@[simp] theorem beginZ_tempo (k : Cost) (s : State) : (beginZ k s).tempo = s.tempo := rfl

/-! ### `countFetches` -/

@[simp] theorem countFetches_cfg (n : Nat) (s : State) : (countFetches n s).cfg = s.cfg := rfl
@[simp] theorem countFetches_control (n : Nat) (s : State) : (countFetches n s).control = s.control := rfl
@[simp] theorem countFetches_calls (n : Nat) (s : State) : (countFetches n s).calls = s.calls := rfl
@[simp] theorem countFetches_results (n : Nat) (s : State) : (countFetches n s).results = s.results := rfl
@[simp] theorem countFetches_refusals (n : Nat) (s : State) : (countFetches n s).refusals = s.refusals := rfl
@[simp] theorem countFetches_draws (n : Nat) (s : State) : (countFetches n s).draws = s.draws := rfl
@[simp] theorem countFetches_time (n : Nat) (s : State) : (countFetches n s).time = s.time := rfl
@[simp] theorem countFetches_endTime (n : Nat) (s : State) : (countFetches n s).endTime = s.endTime := rfl
@[simp] theorem countFetches_errorCount (n : Nat) (s : State) : (countFetches n s).errorCount = s.errorCount := rfl
@[simp] theorem countFetches_pc (n : Nat) (s : State) : (countFetches n s).pc = s.pc := rfl
@[simp] theorem countFetches_phase (n : Nat) (s : State) : (countFetches n s).phase = s.phase := rfl
@[simp] theorem countFetches_m (n : Nat) (s : State) : (countFetches n s).m = s.m := rfl
@[simp] theorem countFetches_z (n : Nat) (s : State) : (countFetches n s).z = { s.z with r := bumpR n s.z.r } := rfl
@[simp] theorem countFetches_unmappedFill (n : Nat) (s : State) : (countFetches n s).unmappedFill = s.unmappedFill :=
    rfl
@[simp] theorem countFetches_readPage (n : Nat) (s : State) : (countFetches n s).readPage = s.readPage := rfl
@[simp] theorem countFetches_writePage (n : Nat) (s : State) : (countFetches n s).writePage = s.writePage := rfl
@[simp] theorem countFetches_regions (n : Nat) (s : State) : (countFetches n s).regions = s.regions := rfl
@[simp] theorem countFetches_unmappedWrite (n : Nat) (s : State) : (countFetches n s).unmappedWrite = s.unmappedWrite :=
    rfl
@[simp] theorem countFetches_nes (n : Nat) (s : State) : (countFetches n s).nes = s.nes := rfl
@[simp] theorem countFetches_ay (n : Nat) (s : State) : (countFetches n s).ay = s.ay := rfl
@[simp] theorem countFetches_pokey (n : Nat) (s : State) : (countFetches n s).pokey = s.pokey := rfl
@[simp] theorem countFetches_sink (n : Nat) (s : State) : (countFetches n s).sink = s.sink := rfl
@[simp] theorem countFetches_nextPlayTime (n : Nat) (s : State) : (countFetches n s).nextPlayTime = s.nextPlayTime :=
    rfl
@[simp] theorem countFetches_playPeriod (n : Nat) (s : State) : (countFetches n s).playPeriod = s.playPeriod := rfl
@[simp] theorem countFetches_suspended (n : Nat) (s : State) : (countFetches n s).suspended = s.suspended := rfl
@[simp] theorem countFetches_warning (n : Nat) (s : State) : (countFetches n s).warning = s.warning := rfl
@[simp] theorem countFetches_started (n : Nat) (s : State) : (countFetches n s).started = s.started := rfl
@[simp] theorem countFetches_initAddr (n : Nat) (s : State) : (countFetches n s).initAddr = s.initAddr := rfl
@[simp] theorem countFetches_playAddr (n : Nat) (s : State) : (countFetches n s).playAddr = s.playAddr := rfl
@[simp] theorem countFetches_track (n : Nat) (s : State) : (countFetches n s).track = s.track := rfl
@[simp] theorem countFetches_image (n : Nat) (s : State) : (countFetches n s).image = s.image := rfl
@[simp] theorem countFetches_playCalls (n : Nat) (s : State) : (countFetches n s).playCalls = s.playCalls := rfl
@[simp] theorem countFetches_voiceMute (n : Nat) (s : State) : (countFetches n s).voiceMute = s.voiceMute := rfl
@[simp] theorem countFetches_tempo (n : Nat) (s : State) : (countFetches n s).tempo = s.tempo := rfl

/-! ### `haltAtIdle` -/

@[simp] theorem haltAtIdle_cfg (s : State) : (haltAtIdle s).cfg = s.cfg := rfl
@[simp] theorem haltAtIdle_control (s : State) : (haltAtIdle s).control = s.control := rfl
@[simp] theorem haltAtIdle_calls (s : State) : (haltAtIdle s).calls = s.calls := rfl
@[simp] theorem haltAtIdle_results (s : State) : (haltAtIdle s).results = s.results := rfl
@[simp] theorem haltAtIdle_refusals (s : State) : (haltAtIdle s).refusals = s.refusals := rfl
@[simp] theorem haltAtIdle_draws (s : State) : (haltAtIdle s).draws = s.draws := rfl
@[simp] theorem haltAtIdle_time (s : State) : (haltAtIdle s).time = s.time := rfl
@[simp] theorem haltAtIdle_endTime (s : State) : (haltAtIdle s).endTime = s.endTime := rfl
@[simp] theorem haltAtIdle_errorCount (s : State) : (haltAtIdle s).errorCount = s.errorCount := rfl
@[simp] theorem haltAtIdle_pc (s : State) : (haltAtIdle s).pc = s.pc := rfl
@[simp] theorem haltAtIdle_phase (s : State) : (haltAtIdle s).phase = .haltedAtIdle := rfl
@[simp] theorem haltAtIdle_m (s : State) : (haltAtIdle s).m = s.m := rfl
@[simp] theorem haltAtIdle_z (s : State) : (haltAtIdle s).z = s.z := rfl
@[simp] theorem haltAtIdle_unmappedFill (s : State) : (haltAtIdle s).unmappedFill = s.unmappedFill := rfl
@[simp] theorem haltAtIdle_readPage (s : State) : (haltAtIdle s).readPage = s.readPage := rfl
@[simp] theorem haltAtIdle_writePage (s : State) : (haltAtIdle s).writePage = s.writePage := rfl
@[simp] theorem haltAtIdle_regions (s : State) : (haltAtIdle s).regions = s.regions := rfl
@[simp] theorem haltAtIdle_unmappedWrite (s : State) : (haltAtIdle s).unmappedWrite = s.unmappedWrite := rfl
@[simp] theorem haltAtIdle_nes (s : State) : (haltAtIdle s).nes = s.nes := rfl
@[simp] theorem haltAtIdle_ay (s : State) : (haltAtIdle s).ay = s.ay := rfl
@[simp] theorem haltAtIdle_pokey (s : State) : (haltAtIdle s).pokey = s.pokey := rfl
@[simp] theorem haltAtIdle_sink (s : State) : (haltAtIdle s).sink = s.sink := rfl
@[simp] theorem haltAtIdle_nextPlayTime (s : State) : (haltAtIdle s).nextPlayTime = s.nextPlayTime := rfl
@[simp] theorem haltAtIdle_playPeriod (s : State) : (haltAtIdle s).playPeriod = s.playPeriod := rfl
@[simp] theorem haltAtIdle_suspended (s : State) : (haltAtIdle s).suspended = s.suspended := rfl
@[simp] theorem haltAtIdle_warning (s : State) : (haltAtIdle s).warning = s.warning := rfl
@[simp] theorem haltAtIdle_started (s : State) : (haltAtIdle s).started = s.started := rfl
@[simp] theorem haltAtIdle_initAddr (s : State) : (haltAtIdle s).initAddr = s.initAddr := rfl
@[simp] theorem haltAtIdle_playAddr (s : State) : (haltAtIdle s).playAddr = s.playAddr := rfl
@[simp] theorem haltAtIdle_track (s : State) : (haltAtIdle s).track = s.track := rfl
@[simp] theorem haltAtIdle_image (s : State) : (haltAtIdle s).image = s.image := rfl
@[simp] theorem haltAtIdle_playCalls (s : State) : (haltAtIdle s).playCalls = s.playCalls := rfl
@[simp] theorem haltAtIdle_voiceMute (s : State) : (haltAtIdle s).voiceMute = s.voiceMute := rfl
@[simp] theorem haltAtIdle_tempo (s : State) : (haltAtIdle s).tempo = s.tempo := rfl

/-! ### `haltElsewhere` -/

@[simp] theorem haltElsewhere_cfg (s : State) : (haltElsewhere s).cfg = s.cfg := rfl
@[simp] theorem haltElsewhere_control (s : State) : (haltElsewhere s).control = s.control := rfl
@[simp] theorem haltElsewhere_calls (s : State) : (haltElsewhere s).calls = s.calls := rfl
@[simp] theorem haltElsewhere_results (s : State) : (haltElsewhere s).results = s.results := rfl
@[simp] theorem haltElsewhere_refusals (s : State) : (haltElsewhere s).refusals = s.refusals := rfl
@[simp] theorem haltElsewhere_draws (s : State) : (haltElsewhere s).draws = s.draws := rfl
@[simp] theorem haltElsewhere_time (s : State) : (haltElsewhere s).time = max (s.time + 4) s.endTime := rfl
@[simp] theorem haltElsewhere_endTime (s : State) : (haltElsewhere s).endTime = s.endTime := rfl
@[simp] theorem haltElsewhere_errorCount (s : State) : (haltElsewhere s).errorCount = s.errorCount := rfl
@[simp] theorem haltElsewhere_pc (s : State) : (haltElsewhere s).pc = s.pc := rfl
@[simp] theorem haltElsewhere_phase (s : State) : (haltElsewhere s).phase = .haltedElsewhere := rfl
@[simp] theorem haltElsewhere_m (s : State) : (haltElsewhere s).m = s.m := rfl
@[simp] theorem haltElsewhere_z (s : State) : (haltElsewhere s).z = s.z := rfl
@[simp] theorem haltElsewhere_unmappedFill (s : State) : (haltElsewhere s).unmappedFill = s.unmappedFill := rfl
@[simp] theorem haltElsewhere_readPage (s : State) : (haltElsewhere s).readPage = s.readPage := rfl
@[simp] theorem haltElsewhere_writePage (s : State) : (haltElsewhere s).writePage = s.writePage := rfl
@[simp] theorem haltElsewhere_regions (s : State) : (haltElsewhere s).regions = s.regions := rfl
@[simp] theorem haltElsewhere_unmappedWrite (s : State) : (haltElsewhere s).unmappedWrite = s.unmappedWrite := rfl
@[simp] theorem haltElsewhere_nes (s : State) : (haltElsewhere s).nes = s.nes := rfl
@[simp] theorem haltElsewhere_ay (s : State) : (haltElsewhere s).ay = s.ay := rfl
@[simp] theorem haltElsewhere_pokey (s : State) : (haltElsewhere s).pokey = s.pokey := rfl
@[simp] theorem haltElsewhere_sink (s : State) : (haltElsewhere s).sink = s.sink := rfl
@[simp] theorem haltElsewhere_nextPlayTime (s : State) : (haltElsewhere s).nextPlayTime = s.nextPlayTime := rfl
@[simp] theorem haltElsewhere_playPeriod (s : State) : (haltElsewhere s).playPeriod = s.playPeriod := rfl
@[simp] theorem haltElsewhere_suspended (s : State) : (haltElsewhere s).suspended = s.suspended := rfl
@[simp] theorem haltElsewhere_warning (s : State) : (haltElsewhere s).warning = s.warning := rfl
@[simp] theorem haltElsewhere_started (s : State) : (haltElsewhere s).started = s.started := rfl
@[simp] theorem haltElsewhere_initAddr (s : State) : (haltElsewhere s).initAddr = s.initAddr := rfl
@[simp] theorem haltElsewhere_playAddr (s : State) : (haltElsewhere s).playAddr = s.playAddr := rfl
@[simp] theorem haltElsewhere_track (s : State) : (haltElsewhere s).track = s.track := rfl
@[simp] theorem haltElsewhere_image (s : State) : (haltElsewhere s).image = s.image := rfl
@[simp] theorem haltElsewhere_playCalls (s : State) : (haltElsewhere s).playCalls = s.playCalls := rfl
@[simp] theorem haltElsewhere_voiceMute (s : State) : (haltElsewhere s).voiceMute = s.voiceMute := rfl
@[simp] theorem haltElsewhere_tempo (s : State) : (haltElsewhere s).tempo = s.tempo := rfl

/-! ### `suspend` -/

@[simp] theorem suspend_cfg (s : State) : (suspend s).cfg = s.cfg := rfl
@[simp] theorem suspend_control (s : State) : (suspend s).control = s.control := rfl
@[simp] theorem suspend_calls (s : State) : (suspend s).calls = s.calls := rfl
@[simp] theorem suspend_results (s : State) : (suspend s).results = s.results := rfl
@[simp] theorem suspend_refusals (s : State) : (suspend s).refusals = s.refusals := rfl
@[simp] theorem suspend_draws (s : State) : (suspend s).draws = s.draws := rfl
@[simp] theorem suspend_time (s : State) : (suspend s).time = s.time := rfl
@[simp] theorem suspend_endTime (s : State) : (suspend s).endTime = s.endTime := rfl
@[simp] theorem suspend_errorCount (s : State) : (suspend s).errorCount = s.errorCount := rfl
@[simp] theorem suspend_pc (s : State) : (suspend s).pc = s.pc := rfl
@[simp] theorem suspend_phase (s : State) : (suspend s).phase = s.phase := rfl
@[simp] theorem suspend_m (s : State) : (suspend s).m = s.m := rfl
@[simp] theorem suspend_z (s : State) : (suspend s).z = s.z := rfl
@[simp] theorem suspend_unmappedFill (s : State) : (suspend s).unmappedFill = s.unmappedFill := rfl
@[simp] theorem suspend_readPage (s : State) : (suspend s).readPage = s.readPage := rfl
@[simp] theorem suspend_writePage (s : State) : (suspend s).writePage = s.writePage := rfl
@[simp] theorem suspend_regions (s : State) : (suspend s).regions = s.regions := rfl
@[simp] theorem suspend_unmappedWrite (s : State) : (suspend s).unmappedWrite = s.unmappedWrite := rfl
@[simp] theorem suspend_nes (s : State) : (suspend s).nes = s.nes := rfl
@[simp] theorem suspend_ay (s : State) : (suspend s).ay = s.ay := rfl
@[simp] theorem suspend_pokey (s : State) : (suspend s).pokey = s.pokey := rfl
@[simp] theorem suspend_sink (s : State) : (suspend s).sink = s.sink := rfl
@[simp] theorem suspend_nextPlayTime (s : State) : (suspend s).nextPlayTime = s.nextPlayTime := rfl
@[simp] theorem suspend_playPeriod (s : State) : (suspend s).playPeriod = s.playPeriod := rfl
@[simp] theorem suspend_suspended (s : State) : (suspend s).suspended = some (snapshot s) := rfl
@[simp] theorem suspend_warning (s : State) : (suspend s).warning = s.warning := rfl
@[simp] theorem suspend_started (s : State) : (suspend s).started = s.started := rfl
@[simp] theorem suspend_initAddr (s : State) : (suspend s).initAddr = s.initAddr := rfl
@[simp] theorem suspend_playAddr (s : State) : (suspend s).playAddr = s.playAddr := rfl
@[simp] theorem suspend_track (s : State) : (suspend s).track = s.track := rfl
@[simp] theorem suspend_image (s : State) : (suspend s).image = s.image := rfl
@[simp] theorem suspend_playCalls (s : State) : (suspend s).playCalls = s.playCalls := rfl
@[simp] theorem suspend_voiceMute (s : State) : (suspend s).voiceMute = s.voiceMute := rfl
@[simp] theorem suspend_tempo (s : State) : (suspend s).tempo = s.tempo := rfl

/-! ### `nesAdvance` -/

@[simp] theorem nesAdvance_cfg (t : Int) (s : State) : (nesAdvance t s).cfg = s.cfg := rfl
@[simp] theorem nesAdvance_control (t : Int) (s : State) : (nesAdvance t s).control = s.control := rfl
@[simp] theorem nesAdvance_calls (t : Int) (s : State) : (nesAdvance t s).calls = s.calls := rfl
@[simp] theorem nesAdvance_results (t : Int) (s : State) : (nesAdvance t s).results = s.results := rfl
@[simp] theorem nesAdvance_refusals (t : Int) (s : State) : (nesAdvance t s).refusals = s.refusals := rfl
@[simp] theorem nesAdvance_draws (t : Int) (s : State) : (nesAdvance t s).draws = s.draws := rfl
@[simp] theorem nesAdvance_time (t : Int) (s : State) : (nesAdvance t s).time = s.time := rfl
@[simp] theorem nesAdvance_endTime (t : Int) (s : State) : (nesAdvance t s).endTime = s.endTime := rfl
@[simp] theorem nesAdvance_errorCount (t : Int) (s : State) : (nesAdvance t s).errorCount = s.errorCount := rfl
@[simp] theorem nesAdvance_pc (t : Int) (s : State) : (nesAdvance t s).pc = s.pc := rfl
@[simp] theorem nesAdvance_phase (t : Int) (s : State) : (nesAdvance t s).phase = s.phase := rfl
@[simp] theorem nesAdvance_m (t : Int) (s : State) : (nesAdvance t s).m = s.m := rfl
@[simp] theorem nesAdvance_z (t : Int) (s : State) : (nesAdvance t s).z = s.z := rfl
@[simp] theorem nesAdvance_unmappedFill (t : Int) (s : State) : (nesAdvance t s).unmappedFill = s.unmappedFill := rfl
@[simp] theorem nesAdvance_readPage (t : Int) (s : State) : (nesAdvance t s).readPage = s.readPage := rfl
@[simp] theorem nesAdvance_writePage (t : Int) (s : State) : (nesAdvance t s).writePage = s.writePage := rfl
@[simp] theorem nesAdvance_regions (t : Int) (s : State) : (nesAdvance t s).regions = s.regions := rfl
@[simp] theorem nesAdvance_unmappedWrite (t : Int) (s : State) : (nesAdvance t s).unmappedWrite = s.unmappedWrite := rfl
@[simp] theorem nesAdvance_ay (t : Int) (s : State) : (nesAdvance t s).ay = s.ay := rfl
@[simp] theorem nesAdvance_pokey (t : Int) (s : State) : (nesAdvance t s).pokey = s.pokey := rfl
@[simp] theorem nesAdvance_nextPlayTime (t : Int) (s : State) : (nesAdvance t s).nextPlayTime = s.nextPlayTime := rfl
@[simp] theorem nesAdvance_playPeriod (t : Int) (s : State) : (nesAdvance t s).playPeriod = s.playPeriod := rfl
@[simp] theorem nesAdvance_suspended (t : Int) (s : State) : (nesAdvance t s).suspended = s.suspended := rfl
@[simp] theorem nesAdvance_warning (t : Int) (s : State) : (nesAdvance t s).warning = s.warning := rfl
@[simp] theorem nesAdvance_started (t : Int) (s : State) : (nesAdvance t s).started = s.started := rfl
@[simp] theorem nesAdvance_initAddr (t : Int) (s : State) : (nesAdvance t s).initAddr = s.initAddr := rfl
@[simp] theorem nesAdvance_playAddr (t : Int) (s : State) : (nesAdvance t s).playAddr = s.playAddr := rfl
@[simp] theorem nesAdvance_track (t : Int) (s : State) : (nesAdvance t s).track = s.track := rfl
@[simp] theorem nesAdvance_image (t : Int) (s : State) : (nesAdvance t s).image = s.image := rfl
@[simp] theorem nesAdvance_playCalls (t : Int) (s : State) : (nesAdvance t s).playCalls = s.playCalls := rfl
@[simp] theorem nesAdvance_voiceMute (t : Int) (s : State) : (nesAdvance t s).voiceMute = s.voiceMute := rfl
@[simp] theorem nesAdvance_tempo (t : Int) (s : State) : (nesAdvance t s).tempo = s.tempo := rfl

/-! ### `nesStore` -/

@[simp] theorem nesStore_cfg (t : Int) (a : Word) (v : Byte) (s : State) : (nesStore t a v s).cfg = s.cfg := rfl
@[simp] theorem nesStore_control (t : Int) (a : Word) (v : Byte) (s : State) : (nesStore t a v s).control = s.control :=
    rfl
@[simp] theorem nesStore_calls (t : Int) (a : Word) (v : Byte) (s : State) : (nesStore t a v s).calls = s.calls := rfl
@[simp] theorem nesStore_results (t : Int) (a : Word) (v : Byte) (s : State) : (nesStore t a v s).results = s.results :=
    rfl
@[simp] theorem nesStore_refusals (t : Int) (a : Word) (v : Byte) (s : State) : (nesStore t a v s).refusals = s.refusals :=
    rfl
@[simp] theorem nesStore_draws (t : Int) (a : Word) (v : Byte) (s : State) : (nesStore t a v s).draws = s.draws := rfl
@[simp] theorem nesStore_time (t : Int) (a : Word) (v : Byte) (s : State) : (nesStore t a v s).time = s.time := rfl
@[simp] theorem nesStore_endTime (t : Int) (a : Word) (v : Byte) (s : State) : (nesStore t a v s).endTime = s.endTime :=
    rfl
@[simp] theorem nesStore_errorCount (t : Int) (a : Word) (v : Byte) (s : State) : (nesStore t a v s).errorCount = s.errorCount :=
    rfl
@[simp] theorem nesStore_pc (t : Int) (a : Word) (v : Byte) (s : State) : (nesStore t a v s).pc = s.pc := rfl
@[simp] theorem nesStore_phase (t : Int) (a : Word) (v : Byte) (s : State) : (nesStore t a v s).phase = s.phase := rfl
@[simp] theorem nesStore_m (t : Int) (a : Word) (v : Byte) (s : State) : (nesStore t a v s).m = s.m := rfl
@[simp] theorem nesStore_z (t : Int) (a : Word) (v : Byte) (s : State) : (nesStore t a v s).z = s.z := rfl
@[simp] theorem nesStore_unmappedFill (t : Int) (a : Word) (v : Byte) (s : State) : (nesStore t a v s).unmappedFill = s.unmappedFill :=
    rfl
@[simp] theorem nesStore_readPage (t : Int) (a : Word) (v : Byte) (s : State) : (nesStore t a v s).readPage = s.readPage :=
    rfl
@[simp] theorem nesStore_writePage (t : Int) (a : Word) (v : Byte) (s : State) : (nesStore t a v s).writePage = s.writePage :=
    rfl
@[simp] theorem nesStore_regions (t : Int) (a : Word) (v : Byte) (s : State) : (nesStore t a v s).regions = s.regions :=
    rfl
@[simp] theorem nesStore_unmappedWrite (t : Int) (a : Word) (v : Byte) (s : State) : (nesStore t a v s).unmappedWrite = s.unmappedWrite :=
    rfl
@[simp] theorem nesStore_ay (t : Int) (a : Word) (v : Byte) (s : State) : (nesStore t a v s).ay = s.ay := rfl
@[simp] theorem nesStore_pokey (t : Int) (a : Word) (v : Byte) (s : State) : (nesStore t a v s).pokey = s.pokey := rfl
@[simp] theorem nesStore_nextPlayTime (t : Int) (a : Word) (v : Byte) (s : State) : (nesStore t a v s).nextPlayTime = s.nextPlayTime :=
    rfl
@[simp] theorem nesStore_playPeriod (t : Int) (a : Word) (v : Byte) (s : State) : (nesStore t a v s).playPeriod = s.playPeriod :=
    rfl
@[simp] theorem nesStore_suspended (t : Int) (a : Word) (v : Byte) (s : State) : (nesStore t a v s).suspended = s.suspended :=
    rfl
@[simp] theorem nesStore_warning (t : Int) (a : Word) (v : Byte) (s : State) : (nesStore t a v s).warning = s.warning :=
    rfl
@[simp] theorem nesStore_started (t : Int) (a : Word) (v : Byte) (s : State) : (nesStore t a v s).started = s.started :=
    rfl
@[simp] theorem nesStore_initAddr (t : Int) (a : Word) (v : Byte) (s : State) : (nesStore t a v s).initAddr = s.initAddr :=
    rfl
@[simp] theorem nesStore_playAddr (t : Int) (a : Word) (v : Byte) (s : State) : (nesStore t a v s).playAddr = s.playAddr :=
    rfl
@[simp] theorem nesStore_track (t : Int) (a : Word) (v : Byte) (s : State) : (nesStore t a v s).track = s.track := rfl
@[simp] theorem nesStore_image (t : Int) (a : Word) (v : Byte) (s : State) : (nesStore t a v s).image = s.image := rfl
@[simp] theorem nesStore_playCalls (t : Int) (a : Word) (v : Byte) (s : State) : (nesStore t a v s).playCalls = s.playCalls :=
    rfl
@[simp] theorem nesStore_voiceMute (t : Int) (a : Word) (v : Byte) (s : State) : (nesStore t a v s).voiceMute = s.voiceMute :=
    rfl
@[simp] theorem nesStore_tempo (t : Int) (a : Word) (v : Byte) (s : State) : (nesStore t a v s).tempo = s.tempo := rfl

/-! ### `ayAdvance` -/

@[simp] theorem ayAdvance_cfg (t : Int) (s : State) : (ayAdvance t s).cfg = s.cfg := rfl
@[simp] theorem ayAdvance_control (t : Int) (s : State) : (ayAdvance t s).control = s.control := rfl
@[simp] theorem ayAdvance_calls (t : Int) (s : State) : (ayAdvance t s).calls = s.calls := rfl
@[simp] theorem ayAdvance_results (t : Int) (s : State) : (ayAdvance t s).results = s.results := rfl
@[simp] theorem ayAdvance_refusals (t : Int) (s : State) : (ayAdvance t s).refusals = s.refusals := rfl
@[simp] theorem ayAdvance_draws (t : Int) (s : State) : (ayAdvance t s).draws = s.draws := rfl
@[simp] theorem ayAdvance_time (t : Int) (s : State) : (ayAdvance t s).time = s.time := rfl
@[simp] theorem ayAdvance_endTime (t : Int) (s : State) : (ayAdvance t s).endTime = s.endTime := rfl
@[simp] theorem ayAdvance_errorCount (t : Int) (s : State) : (ayAdvance t s).errorCount = s.errorCount := rfl
@[simp] theorem ayAdvance_pc (t : Int) (s : State) : (ayAdvance t s).pc = s.pc := rfl
@[simp] theorem ayAdvance_phase (t : Int) (s : State) : (ayAdvance t s).phase = s.phase := rfl
@[simp] theorem ayAdvance_m (t : Int) (s : State) : (ayAdvance t s).m = s.m := rfl
@[simp] theorem ayAdvance_z (t : Int) (s : State) : (ayAdvance t s).z = s.z := rfl
@[simp] theorem ayAdvance_unmappedFill (t : Int) (s : State) : (ayAdvance t s).unmappedFill = s.unmappedFill := rfl
@[simp] theorem ayAdvance_readPage (t : Int) (s : State) : (ayAdvance t s).readPage = s.readPage := rfl
@[simp] theorem ayAdvance_writePage (t : Int) (s : State) : (ayAdvance t s).writePage = s.writePage := rfl
@[simp] theorem ayAdvance_regions (t : Int) (s : State) : (ayAdvance t s).regions = s.regions := rfl
@[simp] theorem ayAdvance_unmappedWrite (t : Int) (s : State) : (ayAdvance t s).unmappedWrite = s.unmappedWrite := rfl
@[simp] theorem ayAdvance_nes (t : Int) (s : State) : (ayAdvance t s).nes = s.nes := rfl
@[simp] theorem ayAdvance_pokey (t : Int) (s : State) : (ayAdvance t s).pokey = s.pokey := rfl
@[simp] theorem ayAdvance_nextPlayTime (t : Int) (s : State) : (ayAdvance t s).nextPlayTime = s.nextPlayTime := rfl
@[simp] theorem ayAdvance_playPeriod (t : Int) (s : State) : (ayAdvance t s).playPeriod = s.playPeriod := rfl
@[simp] theorem ayAdvance_suspended (t : Int) (s : State) : (ayAdvance t s).suspended = s.suspended := rfl
@[simp] theorem ayAdvance_warning (t : Int) (s : State) : (ayAdvance t s).warning = s.warning := rfl
@[simp] theorem ayAdvance_started (t : Int) (s : State) : (ayAdvance t s).started = s.started := rfl
@[simp] theorem ayAdvance_initAddr (t : Int) (s : State) : (ayAdvance t s).initAddr = s.initAddr := rfl
@[simp] theorem ayAdvance_playAddr (t : Int) (s : State) : (ayAdvance t s).playAddr = s.playAddr := rfl
@[simp] theorem ayAdvance_track (t : Int) (s : State) : (ayAdvance t s).track = s.track := rfl
@[simp] theorem ayAdvance_image (t : Int) (s : State) : (ayAdvance t s).image = s.image := rfl
@[simp] theorem ayAdvance_playCalls (t : Int) (s : State) : (ayAdvance t s).playCalls = s.playCalls := rfl
@[simp] theorem ayAdvance_voiceMute (t : Int) (s : State) : (ayAdvance t s).voiceMute = s.voiceMute := rfl
@[simp] theorem ayAdvance_tempo (t : Int) (s : State) : (ayAdvance t s).tempo = s.tempo := rfl

/-! ### `ayStore` -/

@[simp] theorem ayStore_cfg (t : Int) (r : Nat) (v : Byte) (s : State) : (ayStore t r v s).cfg = s.cfg := rfl
@[simp] theorem ayStore_control (t : Int) (r : Nat) (v : Byte) (s : State) : (ayStore t r v s).control = s.control :=
    rfl
@[simp] theorem ayStore_calls (t : Int) (r : Nat) (v : Byte) (s : State) : (ayStore t r v s).calls = s.calls := rfl
@[simp] theorem ayStore_results (t : Int) (r : Nat) (v : Byte) (s : State) : (ayStore t r v s).results = s.results :=
    rfl
@[simp] theorem ayStore_refusals (t : Int) (r : Nat) (v : Byte) (s : State) : (ayStore t r v s).refusals = s.refusals :=
    rfl
@[simp] theorem ayStore_draws (t : Int) (r : Nat) (v : Byte) (s : State) : (ayStore t r v s).draws = s.draws := rfl
@[simp] theorem ayStore_time (t : Int) (r : Nat) (v : Byte) (s : State) : (ayStore t r v s).time = s.time := rfl
@[simp] theorem ayStore_endTime (t : Int) (r : Nat) (v : Byte) (s : State) : (ayStore t r v s).endTime = s.endTime :=
    rfl
@[simp] theorem ayStore_errorCount (t : Int) (r : Nat) (v : Byte) (s : State) : (ayStore t r v s).errorCount = s.errorCount :=
    rfl
@[simp] theorem ayStore_pc (t : Int) (r : Nat) (v : Byte) (s : State) : (ayStore t r v s).pc = s.pc := rfl
@[simp] theorem ayStore_phase (t : Int) (r : Nat) (v : Byte) (s : State) : (ayStore t r v s).phase = s.phase := rfl
@[simp] theorem ayStore_m (t : Int) (r : Nat) (v : Byte) (s : State) : (ayStore t r v s).m = s.m := rfl
@[simp] theorem ayStore_z (t : Int) (r : Nat) (v : Byte) (s : State) : (ayStore t r v s).z = s.z := rfl
@[simp] theorem ayStore_unmappedFill (t : Int) (r : Nat) (v : Byte) (s : State) : (ayStore t r v s).unmappedFill = s.unmappedFill :=
    rfl
@[simp] theorem ayStore_readPage (t : Int) (r : Nat) (v : Byte) (s : State) : (ayStore t r v s).readPage = s.readPage :=
    rfl
@[simp] theorem ayStore_writePage (t : Int) (r : Nat) (v : Byte) (s : State) : (ayStore t r v s).writePage = s.writePage :=
    rfl
@[simp] theorem ayStore_regions (t : Int) (r : Nat) (v : Byte) (s : State) : (ayStore t r v s).regions = s.regions :=
    rfl
@[simp] theorem ayStore_unmappedWrite (t : Int) (r : Nat) (v : Byte) (s : State) : (ayStore t r v s).unmappedWrite = s.unmappedWrite :=
    rfl
@[simp] theorem ayStore_nes (t : Int) (r : Nat) (v : Byte) (s : State) : (ayStore t r v s).nes = s.nes := rfl
@[simp] theorem ayStore_pokey (t : Int) (r : Nat) (v : Byte) (s : State) : (ayStore t r v s).pokey = s.pokey := rfl
@[simp] theorem ayStore_nextPlayTime (t : Int) (r : Nat) (v : Byte) (s : State) : (ayStore t r v s).nextPlayTime = s.nextPlayTime :=
    rfl
@[simp] theorem ayStore_playPeriod (t : Int) (r : Nat) (v : Byte) (s : State) : (ayStore t r v s).playPeriod = s.playPeriod :=
    rfl
@[simp] theorem ayStore_suspended (t : Int) (r : Nat) (v : Byte) (s : State) : (ayStore t r v s).suspended = s.suspended :=
    rfl
@[simp] theorem ayStore_warning (t : Int) (r : Nat) (v : Byte) (s : State) : (ayStore t r v s).warning = s.warning :=
    rfl
@[simp] theorem ayStore_started (t : Int) (r : Nat) (v : Byte) (s : State) : (ayStore t r v s).started = s.started :=
    rfl
@[simp] theorem ayStore_initAddr (t : Int) (r : Nat) (v : Byte) (s : State) : (ayStore t r v s).initAddr = s.initAddr :=
    rfl
@[simp] theorem ayStore_playAddr (t : Int) (r : Nat) (v : Byte) (s : State) : (ayStore t r v s).playAddr = s.playAddr :=
    rfl
@[simp] theorem ayStore_track (t : Int) (r : Nat) (v : Byte) (s : State) : (ayStore t r v s).track = s.track := rfl
@[simp] theorem ayStore_image (t : Int) (r : Nat) (v : Byte) (s : State) : (ayStore t r v s).image = s.image := rfl
@[simp] theorem ayStore_playCalls (t : Int) (r : Nat) (v : Byte) (s : State) : (ayStore t r v s).playCalls = s.playCalls :=
    rfl
@[simp] theorem ayStore_voiceMute (t : Int) (r : Nat) (v : Byte) (s : State) : (ayStore t r v s).voiceMute = s.voiceMute :=
    rfl
@[simp] theorem ayStore_tempo (t : Int) (r : Nat) (v : Byte) (s : State) : (ayStore t r v s).tempo = s.tempo := rfl

/-! ### `pokeyAdvance` -/

@[simp] theorem pokeyAdvance_cfg (t : Int) (s : State) : (pokeyAdvance t s).cfg = s.cfg := rfl
@[simp] theorem pokeyAdvance_control (t : Int) (s : State) : (pokeyAdvance t s).control = s.control := rfl
@[simp] theorem pokeyAdvance_calls (t : Int) (s : State) : (pokeyAdvance t s).calls = s.calls := rfl
@[simp] theorem pokeyAdvance_results (t : Int) (s : State) : (pokeyAdvance t s).results = s.results := rfl
@[simp] theorem pokeyAdvance_refusals (t : Int) (s : State) : (pokeyAdvance t s).refusals = s.refusals := rfl
@[simp] theorem pokeyAdvance_draws (t : Int) (s : State) : (pokeyAdvance t s).draws = s.draws := rfl
@[simp] theorem pokeyAdvance_time (t : Int) (s : State) : (pokeyAdvance t s).time = s.time := rfl
@[simp] theorem pokeyAdvance_endTime (t : Int) (s : State) : (pokeyAdvance t s).endTime = s.endTime := rfl
@[simp] theorem pokeyAdvance_errorCount (t : Int) (s : State) : (pokeyAdvance t s).errorCount = s.errorCount := rfl
@[simp] theorem pokeyAdvance_pc (t : Int) (s : State) : (pokeyAdvance t s).pc = s.pc := rfl
@[simp] theorem pokeyAdvance_phase (t : Int) (s : State) : (pokeyAdvance t s).phase = s.phase := rfl
@[simp] theorem pokeyAdvance_m (t : Int) (s : State) : (pokeyAdvance t s).m = s.m := rfl
@[simp] theorem pokeyAdvance_z (t : Int) (s : State) : (pokeyAdvance t s).z = s.z := rfl
@[simp] theorem pokeyAdvance_unmappedFill (t : Int) (s : State) : (pokeyAdvance t s).unmappedFill = s.unmappedFill :=
    rfl
@[simp] theorem pokeyAdvance_readPage (t : Int) (s : State) : (pokeyAdvance t s).readPage = s.readPage := rfl
@[simp] theorem pokeyAdvance_writePage (t : Int) (s : State) : (pokeyAdvance t s).writePage = s.writePage := rfl
@[simp] theorem pokeyAdvance_regions (t : Int) (s : State) : (pokeyAdvance t s).regions = s.regions := rfl
@[simp] theorem pokeyAdvance_unmappedWrite (t : Int) (s : State) : (pokeyAdvance t s).unmappedWrite = s.unmappedWrite :=
    rfl
@[simp] theorem pokeyAdvance_nes (t : Int) (s : State) : (pokeyAdvance t s).nes = s.nes := rfl
@[simp] theorem pokeyAdvance_ay (t : Int) (s : State) : (pokeyAdvance t s).ay = s.ay := rfl
@[simp] theorem pokeyAdvance_nextPlayTime (t : Int) (s : State) : (pokeyAdvance t s).nextPlayTime = s.nextPlayTime :=
    rfl
@[simp] theorem pokeyAdvance_playPeriod (t : Int) (s : State) : (pokeyAdvance t s).playPeriod = s.playPeriod := rfl
@[simp] theorem pokeyAdvance_suspended (t : Int) (s : State) : (pokeyAdvance t s).suspended = s.suspended := rfl
@[simp] theorem pokeyAdvance_warning (t : Int) (s : State) : (pokeyAdvance t s).warning = s.warning := rfl
@[simp] theorem pokeyAdvance_started (t : Int) (s : State) : (pokeyAdvance t s).started = s.started := rfl
@[simp] theorem pokeyAdvance_initAddr (t : Int) (s : State) : (pokeyAdvance t s).initAddr = s.initAddr := rfl
@[simp] theorem pokeyAdvance_playAddr (t : Int) (s : State) : (pokeyAdvance t s).playAddr = s.playAddr := rfl
@[simp] theorem pokeyAdvance_track (t : Int) (s : State) : (pokeyAdvance t s).track = s.track := rfl
@[simp] theorem pokeyAdvance_image (t : Int) (s : State) : (pokeyAdvance t s).image = s.image := rfl
@[simp] theorem pokeyAdvance_playCalls (t : Int) (s : State) : (pokeyAdvance t s).playCalls = s.playCalls := rfl
@[simp] theorem pokeyAdvance_voiceMute (t : Int) (s : State) : (pokeyAdvance t s).voiceMute = s.voiceMute := rfl
@[simp] theorem pokeyAdvance_tempo (t : Int) (s : State) : (pokeyAdvance t s).tempo = s.tempo := rfl

/-! ### `pokeyStore` -/

@[simp] theorem pokeyStore_cfg (t : Int) (r : Nat) (v : Byte) (s : State) : (pokeyStore t r v s).cfg = s.cfg := rfl
@[simp] theorem pokeyStore_control (t : Int) (r : Nat) (v : Byte) (s : State) : (pokeyStore t r v s).control = s.control :=
    rfl
@[simp] theorem pokeyStore_calls (t : Int) (r : Nat) (v : Byte) (s : State) : (pokeyStore t r v s).calls = s.calls :=
    rfl
@[simp] theorem pokeyStore_results (t : Int) (r : Nat) (v : Byte) (s : State) : (pokeyStore t r v s).results = s.results :=
    rfl
@[simp] theorem pokeyStore_refusals (t : Int) (r : Nat) (v : Byte) (s : State) : (pokeyStore t r v s).refusals = s.refusals :=
    rfl
@[simp] theorem pokeyStore_draws (t : Int) (r : Nat) (v : Byte) (s : State) : (pokeyStore t r v s).draws = s.draws :=
    rfl
@[simp] theorem pokeyStore_time (t : Int) (r : Nat) (v : Byte) (s : State) : (pokeyStore t r v s).time = s.time := rfl
@[simp] theorem pokeyStore_endTime (t : Int) (r : Nat) (v : Byte) (s : State) : (pokeyStore t r v s).endTime = s.endTime :=
    rfl
@[simp] theorem pokeyStore_errorCount (t : Int) (r : Nat) (v : Byte) (s : State) : (pokeyStore t r v s).errorCount = s.errorCount :=
    rfl
@[simp] theorem pokeyStore_pc (t : Int) (r : Nat) (v : Byte) (s : State) : (pokeyStore t r v s).pc = s.pc := rfl
@[simp] theorem pokeyStore_phase (t : Int) (r : Nat) (v : Byte) (s : State) : (pokeyStore t r v s).phase = s.phase :=
    rfl
@[simp] theorem pokeyStore_m (t : Int) (r : Nat) (v : Byte) (s : State) : (pokeyStore t r v s).m = s.m := rfl
@[simp] theorem pokeyStore_z (t : Int) (r : Nat) (v : Byte) (s : State) : (pokeyStore t r v s).z = s.z := rfl
@[simp] theorem pokeyStore_unmappedFill (t : Int) (r : Nat) (v : Byte) (s : State) : (pokeyStore t r v s).unmappedFill = s.unmappedFill :=
    rfl
@[simp] theorem pokeyStore_readPage (t : Int) (r : Nat) (v : Byte) (s : State) : (pokeyStore t r v s).readPage = s.readPage :=
    rfl
@[simp] theorem pokeyStore_writePage (t : Int) (r : Nat) (v : Byte) (s : State) : (pokeyStore t r v s).writePage = s.writePage :=
    rfl
@[simp] theorem pokeyStore_regions (t : Int) (r : Nat) (v : Byte) (s : State) : (pokeyStore t r v s).regions = s.regions :=
    rfl
@[simp] theorem pokeyStore_unmappedWrite (t : Int) (r : Nat) (v : Byte) (s : State) : (pokeyStore t r v s).unmappedWrite = s.unmappedWrite :=
    rfl
@[simp] theorem pokeyStore_nes (t : Int) (r : Nat) (v : Byte) (s : State) : (pokeyStore t r v s).nes = s.nes := rfl
@[simp] theorem pokeyStore_ay (t : Int) (r : Nat) (v : Byte) (s : State) : (pokeyStore t r v s).ay = s.ay := rfl
@[simp] theorem pokeyStore_nextPlayTime (t : Int) (r : Nat) (v : Byte) (s : State) : (pokeyStore t r v s).nextPlayTime = s.nextPlayTime :=
    rfl
@[simp] theorem pokeyStore_playPeriod (t : Int) (r : Nat) (v : Byte) (s : State) : (pokeyStore t r v s).playPeriod = s.playPeriod :=
    rfl
@[simp] theorem pokeyStore_suspended (t : Int) (r : Nat) (v : Byte) (s : State) : (pokeyStore t r v s).suspended = s.suspended :=
    rfl
@[simp] theorem pokeyStore_warning (t : Int) (r : Nat) (v : Byte) (s : State) : (pokeyStore t r v s).warning = s.warning :=
    rfl
@[simp] theorem pokeyStore_started (t : Int) (r : Nat) (v : Byte) (s : State) : (pokeyStore t r v s).started = s.started :=
    rfl
@[simp] theorem pokeyStore_initAddr (t : Int) (r : Nat) (v : Byte) (s : State) : (pokeyStore t r v s).initAddr = s.initAddr :=
    rfl
@[simp] theorem pokeyStore_playAddr (t : Int) (r : Nat) (v : Byte) (s : State) : (pokeyStore t r v s).playAddr = s.playAddr :=
    rfl
@[simp] theorem pokeyStore_track (t : Int) (r : Nat) (v : Byte) (s : State) : (pokeyStore t r v s).track = s.track :=
    rfl
@[simp] theorem pokeyStore_image (t : Int) (r : Nat) (v : Byte) (s : State) : (pokeyStore t r v s).image = s.image :=
    rfl
@[simp] theorem pokeyStore_playCalls (t : Int) (r : Nat) (v : Byte) (s : State) : (pokeyStore t r v s).playCalls = s.playCalls :=
    rfl
@[simp] theorem pokeyStore_voiceMute (t : Int) (r : Nat) (v : Byte) (s : State) : (pokeyStore t r v s).voiceMute = s.voiceMute :=
    rfl
@[simp] theorem pokeyStore_tempo (t : Int) (r : Nat) (v : Byte) (s : State) : (pokeyStore t r v s).tempo = s.tempo :=
    rfl

/-! ### `restore` -/

@[simp] theorem restore_cfg (p : Snapshot) (s : State) : (restore p s).cfg = s.cfg := rfl
@[simp] theorem restore_control (p : Snapshot) (s : State) : (restore p s).control = s.control := rfl
@[simp] theorem restore_calls (p : Snapshot) (s : State) : (restore p s).calls = s.calls := rfl
@[simp] theorem restore_results (p : Snapshot) (s : State) : (restore p s).results = s.results := rfl
@[simp] theorem restore_refusals (p : Snapshot) (s : State) : (restore p s).refusals = s.refusals := rfl
@[simp] theorem restore_draws (p : Snapshot) (s : State) : (restore p s).draws = s.draws := rfl
@[simp] theorem restore_time (p : Snapshot) (s : State) : (restore p s).time = s.time := rfl
@[simp] theorem restore_endTime (p : Snapshot) (s : State) : (restore p s).endTime = s.endTime := rfl
@[simp] theorem restore_errorCount (p : Snapshot) (s : State) : (restore p s).errorCount = s.errorCount := rfl
@[simp] theorem restore_pc (p : Snapshot) (s : State) : (restore p s).pc = p.pc := rfl
@[simp] theorem restore_phase (p : Snapshot) (s : State) : (restore p s).phase = s.phase := rfl
@[simp] theorem restore_m (p : Snapshot) (s : State) : (restore p s).m = p.m := rfl
@[simp] theorem restore_z (p : Snapshot) (s : State) : (restore p s).z = p.z := rfl
@[simp] theorem restore_unmappedFill (p : Snapshot) (s : State) : (restore p s).unmappedFill = s.unmappedFill := rfl
@[simp] theorem restore_readPage (p : Snapshot) (s : State) : (restore p s).readPage = s.readPage := rfl
@[simp] theorem restore_writePage (p : Snapshot) (s : State) : (restore p s).writePage = s.writePage := rfl
@[simp] theorem restore_regions (p : Snapshot) (s : State) : (restore p s).regions = s.regions := rfl
@[simp] theorem restore_unmappedWrite (p : Snapshot) (s : State) : (restore p s).unmappedWrite = s.unmappedWrite := rfl
@[simp] theorem restore_nes (p : Snapshot) (s : State) : (restore p s).nes = s.nes := rfl
@[simp] theorem restore_ay (p : Snapshot) (s : State) : (restore p s).ay = s.ay := rfl
@[simp] theorem restore_pokey (p : Snapshot) (s : State) : (restore p s).pokey = s.pokey := rfl
@[simp] theorem restore_sink (p : Snapshot) (s : State) : (restore p s).sink = s.sink := rfl
@[simp] theorem restore_nextPlayTime (p : Snapshot) (s : State) : (restore p s).nextPlayTime = s.nextPlayTime := rfl
@[simp] theorem restore_playPeriod (p : Snapshot) (s : State) : (restore p s).playPeriod = s.playPeriod := rfl
@[simp] theorem restore_suspended (p : Snapshot) (s : State) : (restore p s).suspended = none := rfl
@[simp] theorem restore_warning (p : Snapshot) (s : State) : (restore p s).warning = s.warning := rfl
@[simp] theorem restore_started (p : Snapshot) (s : State) : (restore p s).started = s.started := rfl
@[simp] theorem restore_initAddr (p : Snapshot) (s : State) : (restore p s).initAddr = s.initAddr := rfl
@[simp] theorem restore_playAddr (p : Snapshot) (s : State) : (restore p s).playAddr = s.playAddr := rfl
@[simp] theorem restore_track (p : Snapshot) (s : State) : (restore p s).track = s.track := rfl
@[simp] theorem restore_image (p : Snapshot) (s : State) : (restore p s).image = s.image := rfl
@[simp] theorem restore_playCalls (p : Snapshot) (s : State) : (restore p s).playCalls = s.playCalls := rfl
@[simp] theorem restore_voiceMute (p : Snapshot) (s : State) : (restore p s).voiceMute = s.voiceMute := rfl
@[simp] theorem restore_tempo (p : Snapshot) (s : State) : (restore p s).tempo = s.tempo := rfl

end Sys2Proof.Machine
end

