-- ==== Sys2Proof/Laws/Ops.lean ====
section
/-! SUPPORT. What each shared operation can change, once: a frame per operation, and from it one lemma per field the
operation leaves alone. -/

namespace Sys2Proof.Machine

/-! ### The chips' entries -/

theorem nesReadStatus_frame (t : Int) (s : State) :
    (nesReadStatus t s).2 = { s with
      nes := (nesReadStatus t s).2.nes
      sink := (nesReadStatus t s).2.sink
      warning := (nesReadStatus t s).2.warning
      draws := (nesReadStatus t s).2.draws } := by
  unfold nesReadStatus nesStatusRead
  split
  · split
    · rfl
    · rfl
  · dsimp only [nesAdvance]

theorem nesWrite_frame (t : Int) (a : Word) (v : Byte) (s : State) :
    nesWrite t a v s = { s with
      nes := (nesWrite t a v s).nes
      sink := (nesWrite t a v s).sink
      warning := (nesWrite t a v s).warning } := by
  unfold nesWrite
  split
  · unfold lateCall; split <;> rfl
  · rfl

theorem pokeyLate_frame (t : Int) (r : Nat) (v : Byte) (s : State) :
    lateCall (pokeyStore t r v) s = { s with
      pokey := (lateCall (pokeyStore t r v) s).pokey
      sink := (lateCall (pokeyStore t r v) s).sink
      warning := (lateCall (pokeyStore t r v) s).warning } := by
  unfold lateCall; split <;> rfl

theorem pokeyOnTime_frame (t : Int) (r : Nat) (v : Byte) (s : State) :
    pokeyStore t r v (pokeyAdvance t s) = { s with
      pokey := (pokeyStore t r v (pokeyAdvance t s)).pokey
      sink := (pokeyStore t r v (pokeyAdvance t s)).sink
      warning := (pokeyStore t r v (pokeyAdvance t s)).warning } := rfl

theorem pokeyWrite_frame (t : Int) (a : Word) (v : Byte) (s : State) :
    pokeyWrite t a v s = { s with
      pokey := (pokeyWrite t a v s).pokey
      sink := (pokeyWrite t a v s).sink
      warning := (pokeyWrite t a v s).warning } := by
  unfold pokeyWrite
  split
  · rfl
  split
  · exact pokeyLate_frame _ _ _ _
  · exact pokeyOnTime_frame _ _ _ _

theorem ayWrite_frame (t : Int) (r : Nat) (v : Byte) (s : State) :
    ayWrite t r v s = { s with
      ay := (ayWrite t r v s).ay
      sink := (ayWrite t r v s).sink
      warning := (ayWrite t r v s).warning } := by
  unfold ayWrite
  split
  · rfl
  split
  · unfold lateCall; split <;> rfl
  · rfl

theorem ayPortWrite_frame (t : Int) (port : Word) (v : Byte) (s : State) :
    ayPortWrite t port v s = { s with
      ay := (ayPortWrite t port v s).ay
      sink := (ayPortWrite t port v s).sink
      warning := (ayPortWrite t port v s).warning } := by
  unfold ayPortWrite
  split
  · rfl
  split
  · rfl
  split
  · rw [ayWrite_frame]; rfl
  split
  · unfold ayPortCpc
    split
    · dsimp only
      split
      · rfl
      split
      · rw [ayWrite_frame]; rfl
      · rfl
    split <;> rfl
  · rfl

/-! ### Data accesses -/

/-- A callback changes `end_time` or the record of refusals. -/
theorem runCallback_frame (c : Callback) (s : State) :
    runCallback c s = { s with endTime := (runCallback c s).endTime, refusals := (runCallback c s).refusals } := by
  cases c <;> rfl

/-- A data read changes nothing but what the chip's status read or a callback does. -/
theorem memRead_frame (a : Word) (s : State) :
    (memRead a s).2 = { s with
      nes := (memRead a s).2.nes
      sink := (memRead a s).2.sink
      warning := (memRead a s).2.warning
      draws := (memRead a s).2.draws
      refusals := (memRead a s).2.refusals
      endTime := (memRead a s).2.endTime } := by
  unfold memRead
  split
  · rw [nesReadStatus_frame]
  · dsimp only; rw [runCallback_frame]
  · rfl

/-- A data read outside the read ranges changes nothing, and gives the byte of the page table (R80). -/
theorem memRead_plain (a : Word) (s : State) (h : readHandler s.cfg a = none) : memRead a s = (ptRead s a, s) := by
  unfold memRead; rw [h]

/-- A data write changes memory bytes, the page tables (a bank switch), a chip, or what a callback does. -/
theorem memWrite_frame (a : Word) (v : Byte) (s : State) :
    memWrite a v s = { s with
      nes := (memWrite a v s).nes
      pokey := (memWrite a v s).pokey
      sink := (memWrite a v s).sink
      warning := (memWrite a v s).warning
      refusals := (memWrite a v s).refusals
      endTime := (memWrite a v s).endTime
      readPage := (memWrite a v s).readPage
      writePage := (memWrite a v s).writePage
      regions := (memWrite a v s).regions
      unmappedWrite := (memWrite a v s).unmappedWrite } := by
  unfold memWrite
  split
  · rw [nesWrite_frame]
  · rw [ptWrite_frame, pokeyWrite_frame]
  · rw [bankSelect_frame]
  · rw [runCallback_frame]
  · rw [ptWrite_frame]

/-- A data write outside the write ranges stores through the page table and does nothing else (R81). -/
theorem memWrite_plain (a : Word) (v : Byte) (s : State) (h : writeHandler s.cfg a = none) :
    memWrite a v s = ptWrite s a v := by
  unfold memWrite; rw [h]

theorem portOut_frame (port : Word) (v : Byte) (s : State) :
    portOut port v s = { s with
      ay := (portOut port v s).ay
      sink := (portOut port v s).sink
      warning := (portOut port v s).warning
      refusals := (portOut port v s).refusals
      endTime := (portOut port v s).endTime } := by
  unfold portOut
  split
  · rw [ayPortWrite_frame]
  · rw [runCallback_frame]
  · rfl

/-- A port read changes what a callback does, and nothing else. -/
theorem portIn_frame (port : Word) (s : State) :
    (portIn port s).2 = { s with endTime := (portIn port s).2.endTime, refusals := (portIn port s).2.refusals } := by
  unfold portIn
  dsimp only
  split
  · rw [runCallback_frame]
  · rfl


/-! ### Fields `memRead` leaves alone -/

@[simp] theorem memRead_cfg (a : Word) (s : State) : (memRead a s).2.cfg = s.cfg := by rw [memRead_frame]
@[simp] theorem memRead_control (a : Word) (s : State) : (memRead a s).2.control = s.control := by rw [memRead_frame]
@[simp] theorem memRead_calls (a : Word) (s : State) : (memRead a s).2.calls = s.calls := by rw [memRead_frame]
@[simp] theorem memRead_results (a : Word) (s : State) : (memRead a s).2.results = s.results := by rw [memRead_frame]
@[simp] theorem memRead_time (a : Word) (s : State) : (memRead a s).2.time = s.time := by rw [memRead_frame]
@[simp] theorem memRead_errorCount (a : Word) (s : State) : (memRead a s).2.errorCount = s.errorCount :=
    by rw [memRead_frame]
@[simp] theorem memRead_pc (a : Word) (s : State) : (memRead a s).2.pc = s.pc := by rw [memRead_frame]
@[simp] theorem memRead_phase (a : Word) (s : State) : (memRead a s).2.phase = s.phase := by rw [memRead_frame]
@[simp] theorem memRead_m (a : Word) (s : State) : (memRead a s).2.m = s.m := by rw [memRead_frame]
@[simp] theorem memRead_z (a : Word) (s : State) : (memRead a s).2.z = s.z := by rw [memRead_frame]
@[simp] theorem memRead_unmappedFill (a : Word) (s : State) : (memRead a s).2.unmappedFill = s.unmappedFill :=
    by rw [memRead_frame]
@[simp] theorem memRead_readPage (a : Word) (s : State) : (memRead a s).2.readPage = s.readPage :=
    by rw [memRead_frame]
@[simp] theorem memRead_writePage (a : Word) (s : State) : (memRead a s).2.writePage = s.writePage :=
    by rw [memRead_frame]
@[simp] theorem memRead_regions (a : Word) (s : State) : (memRead a s).2.regions = s.regions := by rw [memRead_frame]
@[simp] theorem memRead_unmappedWrite (a : Word) (s : State) : (memRead a s).2.unmappedWrite = s.unmappedWrite :=
    by rw [memRead_frame]
@[simp] theorem memRead_ay (a : Word) (s : State) : (memRead a s).2.ay = s.ay := by rw [memRead_frame]
@[simp] theorem memRead_pokey (a : Word) (s : State) : (memRead a s).2.pokey = s.pokey := by rw [memRead_frame]
@[simp] theorem memRead_nextPlayTime (a : Word) (s : State) : (memRead a s).2.nextPlayTime = s.nextPlayTime :=
    by rw [memRead_frame]
@[simp] theorem memRead_playPeriod (a : Word) (s : State) : (memRead a s).2.playPeriod = s.playPeriod :=
    by rw [memRead_frame]
@[simp] theorem memRead_suspended (a : Word) (s : State) : (memRead a s).2.suspended = s.suspended :=
    by rw [memRead_frame]
@[simp] theorem memRead_started (a : Word) (s : State) : (memRead a s).2.started = s.started := by rw [memRead_frame]
@[simp] theorem memRead_initAddr (a : Word) (s : State) : (memRead a s).2.initAddr = s.initAddr :=
    by rw [memRead_frame]
@[simp] theorem memRead_playAddr (a : Word) (s : State) : (memRead a s).2.playAddr = s.playAddr :=
    by rw [memRead_frame]
@[simp] theorem memRead_track (a : Word) (s : State) : (memRead a s).2.track = s.track := by rw [memRead_frame]
@[simp] theorem memRead_image (a : Word) (s : State) : (memRead a s).2.image = s.image := by rw [memRead_frame]
@[simp] theorem memRead_playCalls (a : Word) (s : State) : (memRead a s).2.playCalls = s.playCalls :=
    by rw [memRead_frame]
@[simp] theorem memRead_voiceMute (a : Word) (s : State) : (memRead a s).2.voiceMute = s.voiceMute :=
    by rw [memRead_frame]
@[simp] theorem memRead_tempo (a : Word) (s : State) : (memRead a s).2.tempo = s.tempo := by rw [memRead_frame]

/-! ### Fields `memWrite` leaves alone -/

@[simp] theorem memWrite_cfg (a : Word) (v : Byte) (s : State) : (memWrite a v s).cfg = s.cfg :=
    by rw [memWrite_frame]
@[simp] theorem memWrite_control (a : Word) (v : Byte) (s : State) : (memWrite a v s).control = s.control :=
    by rw [memWrite_frame]
@[simp] theorem memWrite_calls (a : Word) (v : Byte) (s : State) : (memWrite a v s).calls = s.calls :=
    by rw [memWrite_frame]
@[simp] theorem memWrite_results (a : Word) (v : Byte) (s : State) : (memWrite a v s).results = s.results :=
    by rw [memWrite_frame]
@[simp] theorem memWrite_draws (a : Word) (v : Byte) (s : State) : (memWrite a v s).draws = s.draws :=
    by rw [memWrite_frame]
@[simp] theorem memWrite_time (a : Word) (v : Byte) (s : State) : (memWrite a v s).time = s.time :=
    by rw [memWrite_frame]
@[simp] theorem memWrite_errorCount (a : Word) (v : Byte) (s : State) : (memWrite a v s).errorCount = s.errorCount :=
    by rw [memWrite_frame]
@[simp] theorem memWrite_pc (a : Word) (v : Byte) (s : State) : (memWrite a v s).pc = s.pc := by rw [memWrite_frame]
@[simp] theorem memWrite_phase (a : Word) (v : Byte) (s : State) : (memWrite a v s).phase = s.phase :=
    by rw [memWrite_frame]
@[simp] theorem memWrite_m (a : Word) (v : Byte) (s : State) : (memWrite a v s).m = s.m := by rw [memWrite_frame]
@[simp] theorem memWrite_z (a : Word) (v : Byte) (s : State) : (memWrite a v s).z = s.z := by rw [memWrite_frame]
@[simp] theorem memWrite_unmappedFill (a : Word) (v : Byte) (s : State) : (memWrite a v s).unmappedFill = s.unmappedFill :=
    by rw [memWrite_frame]
@[simp] theorem memWrite_ay (a : Word) (v : Byte) (s : State) : (memWrite a v s).ay = s.ay := by rw [memWrite_frame]
@[simp] theorem memWrite_nextPlayTime (a : Word) (v : Byte) (s : State) : (memWrite a v s).nextPlayTime = s.nextPlayTime :=
    by rw [memWrite_frame]
@[simp] theorem memWrite_playPeriod (a : Word) (v : Byte) (s : State) : (memWrite a v s).playPeriod = s.playPeriod :=
    by rw [memWrite_frame]
@[simp] theorem memWrite_suspended (a : Word) (v : Byte) (s : State) : (memWrite a v s).suspended = s.suspended :=
    by rw [memWrite_frame]
@[simp] theorem memWrite_started (a : Word) (v : Byte) (s : State) : (memWrite a v s).started = s.started :=
    by rw [memWrite_frame]
@[simp] theorem memWrite_initAddr (a : Word) (v : Byte) (s : State) : (memWrite a v s).initAddr = s.initAddr :=
    by rw [memWrite_frame]
@[simp] theorem memWrite_playAddr (a : Word) (v : Byte) (s : State) : (memWrite a v s).playAddr = s.playAddr :=
    by rw [memWrite_frame]
@[simp] theorem memWrite_track (a : Word) (v : Byte) (s : State) : (memWrite a v s).track = s.track :=
    by rw [memWrite_frame]
@[simp] theorem memWrite_image (a : Word) (v : Byte) (s : State) : (memWrite a v s).image = s.image :=
    by rw [memWrite_frame]
@[simp] theorem memWrite_playCalls (a : Word) (v : Byte) (s : State) : (memWrite a v s).playCalls = s.playCalls :=
    by rw [memWrite_frame]
@[simp] theorem memWrite_voiceMute (a : Word) (v : Byte) (s : State) : (memWrite a v s).voiceMute = s.voiceMute :=
    by rw [memWrite_frame]
@[simp] theorem memWrite_tempo (a : Word) (v : Byte) (s : State) : (memWrite a v s).tempo = s.tempo :=
    by rw [memWrite_frame]

/-! ### Fields `portOut` leaves alone -/

@[simp] theorem portOut_cfg (p : Word) (v : Byte) (s : State) : (portOut p v s).cfg = s.cfg := by rw [portOut_frame]
@[simp] theorem portOut_control (p : Word) (v : Byte) (s : State) : (portOut p v s).control = s.control :=
    by rw [portOut_frame]
@[simp] theorem portOut_calls (p : Word) (v : Byte) (s : State) : (portOut p v s).calls = s.calls :=
    by rw [portOut_frame]
@[simp] theorem portOut_results (p : Word) (v : Byte) (s : State) : (portOut p v s).results = s.results :=
    by rw [portOut_frame]
@[simp] theorem portOut_draws (p : Word) (v : Byte) (s : State) : (portOut p v s).draws = s.draws :=
    by rw [portOut_frame]
@[simp] theorem portOut_time (p : Word) (v : Byte) (s : State) : (portOut p v s).time = s.time :=
    by rw [portOut_frame]
@[simp] theorem portOut_errorCount (p : Word) (v : Byte) (s : State) : (portOut p v s).errorCount = s.errorCount :=
    by rw [portOut_frame]
@[simp] theorem portOut_pc (p : Word) (v : Byte) (s : State) : (portOut p v s).pc = s.pc := by rw [portOut_frame]
@[simp] theorem portOut_phase (p : Word) (v : Byte) (s : State) : (portOut p v s).phase = s.phase :=
    by rw [portOut_frame]
@[simp] theorem portOut_m (p : Word) (v : Byte) (s : State) : (portOut p v s).m = s.m := by rw [portOut_frame]
@[simp] theorem portOut_z (p : Word) (v : Byte) (s : State) : (portOut p v s).z = s.z := by rw [portOut_frame]
@[simp] theorem portOut_unmappedFill (p : Word) (v : Byte) (s : State) : (portOut p v s).unmappedFill = s.unmappedFill :=
    by rw [portOut_frame]
@[simp] theorem portOut_readPage (p : Word) (v : Byte) (s : State) : (portOut p v s).readPage = s.readPage :=
    by rw [portOut_frame]
@[simp] theorem portOut_writePage (p : Word) (v : Byte) (s : State) : (portOut p v s).writePage = s.writePage :=
    by rw [portOut_frame]
@[simp] theorem portOut_regions (p : Word) (v : Byte) (s : State) : (portOut p v s).regions = s.regions :=
    by rw [portOut_frame]
@[simp] theorem portOut_unmappedWrite (p : Word) (v : Byte) (s : State) : (portOut p v s).unmappedWrite = s.unmappedWrite :=
    by rw [portOut_frame]
@[simp] theorem portOut_nes (p : Word) (v : Byte) (s : State) : (portOut p v s).nes = s.nes := by rw [portOut_frame]
@[simp] theorem portOut_pokey (p : Word) (v : Byte) (s : State) : (portOut p v s).pokey = s.pokey :=
    by rw [portOut_frame]
@[simp] theorem portOut_nextPlayTime (p : Word) (v : Byte) (s : State) : (portOut p v s).nextPlayTime = s.nextPlayTime :=
    by rw [portOut_frame]
@[simp] theorem portOut_playPeriod (p : Word) (v : Byte) (s : State) : (portOut p v s).playPeriod = s.playPeriod :=
    by rw [portOut_frame]
@[simp] theorem portOut_suspended (p : Word) (v : Byte) (s : State) : (portOut p v s).suspended = s.suspended :=
    by rw [portOut_frame]
@[simp] theorem portOut_started (p : Word) (v : Byte) (s : State) : (portOut p v s).started = s.started :=
    by rw [portOut_frame]
@[simp] theorem portOut_initAddr (p : Word) (v : Byte) (s : State) : (portOut p v s).initAddr = s.initAddr :=
    by rw [portOut_frame]
@[simp] theorem portOut_playAddr (p : Word) (v : Byte) (s : State) : (portOut p v s).playAddr = s.playAddr :=
    by rw [portOut_frame]
@[simp] theorem portOut_track (p : Word) (v : Byte) (s : State) : (portOut p v s).track = s.track :=
    by rw [portOut_frame]
@[simp] theorem portOut_image (p : Word) (v : Byte) (s : State) : (portOut p v s).image = s.image :=
    by rw [portOut_frame]
@[simp] theorem portOut_playCalls (p : Word) (v : Byte) (s : State) : (portOut p v s).playCalls = s.playCalls :=
    by rw [portOut_frame]
@[simp] theorem portOut_voiceMute (p : Word) (v : Byte) (s : State) : (portOut p v s).voiceMute = s.voiceMute :=
    by rw [portOut_frame]
@[simp] theorem portOut_tempo (p : Word) (v : Byte) (s : State) : (portOut p v s).tempo = s.tempo :=
    by rw [portOut_frame]

/-! ### Fields `portIn` leaves alone -/

@[simp] theorem portIn_cfg (p : Word) (s : State) : (portIn p s).2.cfg = s.cfg := by rw [portIn_frame]
@[simp] theorem portIn_control (p : Word) (s : State) : (portIn p s).2.control = s.control := by rw [portIn_frame]
@[simp] theorem portIn_calls (p : Word) (s : State) : (portIn p s).2.calls = s.calls := by rw [portIn_frame]
@[simp] theorem portIn_results (p : Word) (s : State) : (portIn p s).2.results = s.results := by rw [portIn_frame]
@[simp] theorem portIn_draws (p : Word) (s : State) : (portIn p s).2.draws = s.draws := by rw [portIn_frame]
@[simp] theorem portIn_time (p : Word) (s : State) : (portIn p s).2.time = s.time := by rw [portIn_frame]
@[simp] theorem portIn_errorCount (p : Word) (s : State) : (portIn p s).2.errorCount = s.errorCount :=
    by rw [portIn_frame]
@[simp] theorem portIn_pc (p : Word) (s : State) : (portIn p s).2.pc = s.pc := by rw [portIn_frame]
@[simp] theorem portIn_phase (p : Word) (s : State) : (portIn p s).2.phase = s.phase := by rw [portIn_frame]
@[simp] theorem portIn_m (p : Word) (s : State) : (portIn p s).2.m = s.m := by rw [portIn_frame]
@[simp] theorem portIn_z (p : Word) (s : State) : (portIn p s).2.z = s.z := by rw [portIn_frame]
@[simp] theorem portIn_unmappedFill (p : Word) (s : State) : (portIn p s).2.unmappedFill = s.unmappedFill :=
    by rw [portIn_frame]
@[simp] theorem portIn_readPage (p : Word) (s : State) : (portIn p s).2.readPage = s.readPage := by rw [portIn_frame]
@[simp] theorem portIn_writePage (p : Word) (s : State) : (portIn p s).2.writePage = s.writePage :=
    by rw [portIn_frame]
@[simp] theorem portIn_regions (p : Word) (s : State) : (portIn p s).2.regions = s.regions := by rw [portIn_frame]
@[simp] theorem portIn_unmappedWrite (p : Word) (s : State) : (portIn p s).2.unmappedWrite = s.unmappedWrite :=
    by rw [portIn_frame]
@[simp] theorem portIn_nes (p : Word) (s : State) : (portIn p s).2.nes = s.nes := by rw [portIn_frame]
@[simp] theorem portIn_ay (p : Word) (s : State) : (portIn p s).2.ay = s.ay := by rw [portIn_frame]
@[simp] theorem portIn_pokey (p : Word) (s : State) : (portIn p s).2.pokey = s.pokey := by rw [portIn_frame]
@[simp] theorem portIn_sink (p : Word) (s : State) : (portIn p s).2.sink = s.sink := by rw [portIn_frame]
@[simp] theorem portIn_nextPlayTime (p : Word) (s : State) : (portIn p s).2.nextPlayTime = s.nextPlayTime :=
    by rw [portIn_frame]
@[simp] theorem portIn_playPeriod (p : Word) (s : State) : (portIn p s).2.playPeriod = s.playPeriod :=
    by rw [portIn_frame]
@[simp] theorem portIn_suspended (p : Word) (s : State) : (portIn p s).2.suspended = s.suspended :=
    by rw [portIn_frame]
@[simp] theorem portIn_warning (p : Word) (s : State) : (portIn p s).2.warning = s.warning := by rw [portIn_frame]
@[simp] theorem portIn_started (p : Word) (s : State) : (portIn p s).2.started = s.started := by rw [portIn_frame]
@[simp] theorem portIn_initAddr (p : Word) (s : State) : (portIn p s).2.initAddr = s.initAddr := by rw [portIn_frame]
@[simp] theorem portIn_playAddr (p : Word) (s : State) : (portIn p s).2.playAddr = s.playAddr := by rw [portIn_frame]
@[simp] theorem portIn_track (p : Word) (s : State) : (portIn p s).2.track = s.track := by rw [portIn_frame]
@[simp] theorem portIn_image (p : Word) (s : State) : (portIn p s).2.image = s.image := by rw [portIn_frame]
@[simp] theorem portIn_playCalls (p : Word) (s : State) : (portIn p s).2.playCalls = s.playCalls :=
    by rw [portIn_frame]
@[simp] theorem portIn_voiceMute (p : Word) (s : State) : (portIn p s).2.voiceMute = s.voiceMute :=
    by rw [portIn_frame]
@[simp] theorem portIn_tempo (p : Word) (s : State) : (portIn p s).2.tempo = s.tempo := by rw [portIn_frame]

/-! ### Fields `memRead16` leaves alone -/

@[simp] theorem memRead16_cfg (a : Word) (s : State) : (memRead16 a s).2.cfg = s.cfg := by simp [memRead16]
@[simp] theorem memRead16_control (a : Word) (s : State) : (memRead16 a s).2.control = s.control :=
    by simp [memRead16]
@[simp] theorem memRead16_calls (a : Word) (s : State) : (memRead16 a s).2.calls = s.calls := by simp [memRead16]
@[simp] theorem memRead16_results (a : Word) (s : State) : (memRead16 a s).2.results = s.results :=
    by simp [memRead16]
@[simp] theorem memRead16_time (a : Word) (s : State) : (memRead16 a s).2.time = s.time := by simp [memRead16]
@[simp] theorem memRead16_errorCount (a : Word) (s : State) : (memRead16 a s).2.errorCount = s.errorCount :=
    by simp [memRead16]
@[simp] theorem memRead16_pc (a : Word) (s : State) : (memRead16 a s).2.pc = s.pc := by simp [memRead16]
@[simp] theorem memRead16_phase (a : Word) (s : State) : (memRead16 a s).2.phase = s.phase := by simp [memRead16]
@[simp] theorem memRead16_m (a : Word) (s : State) : (memRead16 a s).2.m = s.m := by simp [memRead16]
@[simp] theorem memRead16_z (a : Word) (s : State) : (memRead16 a s).2.z = s.z := by simp [memRead16]
@[simp] theorem memRead16_unmappedFill (a : Word) (s : State) : (memRead16 a s).2.unmappedFill = s.unmappedFill :=
    by simp [memRead16]
@[simp] theorem memRead16_readPage (a : Word) (s : State) : (memRead16 a s).2.readPage = s.readPage :=
    by simp [memRead16]
@[simp] theorem memRead16_writePage (a : Word) (s : State) : (memRead16 a s).2.writePage = s.writePage :=
    by simp [memRead16]
@[simp] theorem memRead16_regions (a : Word) (s : State) : (memRead16 a s).2.regions = s.regions :=
    by simp [memRead16]
@[simp] theorem memRead16_unmappedWrite (a : Word) (s : State) : (memRead16 a s).2.unmappedWrite = s.unmappedWrite :=
    by simp [memRead16]
@[simp] theorem memRead16_ay (a : Word) (s : State) : (memRead16 a s).2.ay = s.ay := by simp [memRead16]
@[simp] theorem memRead16_pokey (a : Word) (s : State) : (memRead16 a s).2.pokey = s.pokey := by simp [memRead16]
@[simp] theorem memRead16_nextPlayTime (a : Word) (s : State) : (memRead16 a s).2.nextPlayTime = s.nextPlayTime :=
    by simp [memRead16]
@[simp] theorem memRead16_playPeriod (a : Word) (s : State) : (memRead16 a s).2.playPeriod = s.playPeriod :=
    by simp [memRead16]
@[simp] theorem memRead16_suspended (a : Word) (s : State) : (memRead16 a s).2.suspended = s.suspended :=
    by simp [memRead16]
@[simp] theorem memRead16_started (a : Word) (s : State) : (memRead16 a s).2.started = s.started :=
    by simp [memRead16]
@[simp] theorem memRead16_initAddr (a : Word) (s : State) : (memRead16 a s).2.initAddr = s.initAddr :=
    by simp [memRead16]
@[simp] theorem memRead16_playAddr (a : Word) (s : State) : (memRead16 a s).2.playAddr = s.playAddr :=
    by simp [memRead16]
@[simp] theorem memRead16_track (a : Word) (s : State) : (memRead16 a s).2.track = s.track := by simp [memRead16]
@[simp] theorem memRead16_image (a : Word) (s : State) : (memRead16 a s).2.image = s.image := by simp [memRead16]
@[simp] theorem memRead16_playCalls (a : Word) (s : State) : (memRead16 a s).2.playCalls = s.playCalls :=
    by simp [memRead16]
@[simp] theorem memRead16_voiceMute (a : Word) (s : State) : (memRead16 a s).2.voiceMute = s.voiceMute :=
    by simp [memRead16]
@[simp] theorem memRead16_tempo (a : Word) (s : State) : (memRead16 a s).2.tempo = s.tempo := by simp [memRead16]

/-! ### Fields `memWrite16` leaves alone -/

@[simp] theorem memWrite16_cfg (a v : Word) (s : State) : (memWrite16 a v s).cfg = s.cfg := by simp [memWrite16]
@[simp] theorem memWrite16_control (a v : Word) (s : State) : (memWrite16 a v s).control = s.control :=
    by simp [memWrite16]
@[simp] theorem memWrite16_calls (a v : Word) (s : State) : (memWrite16 a v s).calls = s.calls := by simp [memWrite16]
@[simp] theorem memWrite16_results (a v : Word) (s : State) : (memWrite16 a v s).results = s.results :=
    by simp [memWrite16]
@[simp] theorem memWrite16_draws (a v : Word) (s : State) : (memWrite16 a v s).draws = s.draws := by simp [memWrite16]
@[simp] theorem memWrite16_time (a v : Word) (s : State) : (memWrite16 a v s).time = s.time := by simp [memWrite16]
@[simp] theorem memWrite16_errorCount (a v : Word) (s : State) : (memWrite16 a v s).errorCount = s.errorCount :=
    by simp [memWrite16]
@[simp] theorem memWrite16_pc (a v : Word) (s : State) : (memWrite16 a v s).pc = s.pc := by simp [memWrite16]
@[simp] theorem memWrite16_phase (a v : Word) (s : State) : (memWrite16 a v s).phase = s.phase := by simp [memWrite16]
@[simp] theorem memWrite16_m (a v : Word) (s : State) : (memWrite16 a v s).m = s.m := by simp [memWrite16]
@[simp] theorem memWrite16_z (a v : Word) (s : State) : (memWrite16 a v s).z = s.z := by simp [memWrite16]
@[simp] theorem memWrite16_unmappedFill (a v : Word) (s : State) : (memWrite16 a v s).unmappedFill = s.unmappedFill :=
    by simp [memWrite16]
@[simp] theorem memWrite16_ay (a v : Word) (s : State) : (memWrite16 a v s).ay = s.ay := by simp [memWrite16]
@[simp] theorem memWrite16_nextPlayTime (a v : Word) (s : State) : (memWrite16 a v s).nextPlayTime = s.nextPlayTime :=
    by simp [memWrite16]
@[simp] theorem memWrite16_playPeriod (a v : Word) (s : State) : (memWrite16 a v s).playPeriod = s.playPeriod :=
    by simp [memWrite16]
@[simp] theorem memWrite16_suspended (a v : Word) (s : State) : (memWrite16 a v s).suspended = s.suspended :=
    by simp [memWrite16]
@[simp] theorem memWrite16_started (a v : Word) (s : State) : (memWrite16 a v s).started = s.started :=
    by simp [memWrite16]
@[simp] theorem memWrite16_initAddr (a v : Word) (s : State) : (memWrite16 a v s).initAddr = s.initAddr :=
    by simp [memWrite16]
@[simp] theorem memWrite16_playAddr (a v : Word) (s : State) : (memWrite16 a v s).playAddr = s.playAddr :=
    by simp [memWrite16]
@[simp] theorem memWrite16_track (a v : Word) (s : State) : (memWrite16 a v s).track = s.track := by simp [memWrite16]
@[simp] theorem memWrite16_image (a v : Word) (s : State) : (memWrite16 a v s).image = s.image := by simp [memWrite16]
@[simp] theorem memWrite16_playCalls (a v : Word) (s : State) : (memWrite16 a v s).playCalls = s.playCalls :=
    by simp [memWrite16]
@[simp] theorem memWrite16_voiceMute (a v : Word) (s : State) : (memWrite16 a v s).voiceMute = s.voiceMute :=
    by simp [memWrite16]
@[simp] theorem memWrite16_tempo (a v : Word) (s : State) : (memWrite16 a v s).tempo = s.tempo := by simp [memWrite16]

/-! ### Fields `push` leaves alone -/

@[simp] theorem push_cfg (v : Byte) (s : State) : (push v s).cfg = s.cfg := by simp [push]
@[simp] theorem push_control (v : Byte) (s : State) : (push v s).control = s.control := by simp [push]
@[simp] theorem push_calls (v : Byte) (s : State) : (push v s).calls = s.calls := by simp [push]
@[simp] theorem push_results (v : Byte) (s : State) : (push v s).results = s.results := by simp [push]
@[simp] theorem push_draws (v : Byte) (s : State) : (push v s).draws = s.draws := by simp [push]
@[simp] theorem push_time (v : Byte) (s : State) : (push v s).time = s.time := by simp [push]
@[simp] theorem push_errorCount (v : Byte) (s : State) : (push v s).errorCount = s.errorCount := by simp [push]
@[simp] theorem push_pc (v : Byte) (s : State) : (push v s).pc = s.pc := by simp [push]
@[simp] theorem push_phase (v : Byte) (s : State) : (push v s).phase = s.phase := by simp [push]
@[simp] theorem push_m (v : Byte) (s : State) : (push v s).m = { s.m with sp := s.m.sp - 1 } := by simp [push]
@[simp] theorem push_z (v : Byte) (s : State) : (push v s).z = s.z := by simp [push]
@[simp] theorem push_unmappedFill (v : Byte) (s : State) : (push v s).unmappedFill = s.unmappedFill := by simp [push]
@[simp] theorem push_ay (v : Byte) (s : State) : (push v s).ay = s.ay := by simp [push]
@[simp] theorem push_nextPlayTime (v : Byte) (s : State) : (push v s).nextPlayTime = s.nextPlayTime := by simp [push]
@[simp] theorem push_playPeriod (v : Byte) (s : State) : (push v s).playPeriod = s.playPeriod := by simp [push]
@[simp] theorem push_suspended (v : Byte) (s : State) : (push v s).suspended = s.suspended := by simp [push]
@[simp] theorem push_started (v : Byte) (s : State) : (push v s).started = s.started := by simp [push]
@[simp] theorem push_initAddr (v : Byte) (s : State) : (push v s).initAddr = s.initAddr := by simp [push]
@[simp] theorem push_playAddr (v : Byte) (s : State) : (push v s).playAddr = s.playAddr := by simp [push]
@[simp] theorem push_track (v : Byte) (s : State) : (push v s).track = s.track := by simp [push]
@[simp] theorem push_image (v : Byte) (s : State) : (push v s).image = s.image := by simp [push]
@[simp] theorem push_playCalls (v : Byte) (s : State) : (push v s).playCalls = s.playCalls := by simp [push]
@[simp] theorem push_voiceMute (v : Byte) (s : State) : (push v s).voiceMute = s.voiceMute := by simp [push]
@[simp] theorem push_tempo (v : Byte) (s : State) : (push v s).tempo = s.tempo := by simp [push]

/-! ### Fields `pull` leaves alone -/

@[simp] theorem pull_cfg (s : State) : (pull s).2.cfg = s.cfg := by simp [pull]
@[simp] theorem pull_control (s : State) : (pull s).2.control = s.control := by simp [pull]
@[simp] theorem pull_calls (s : State) : (pull s).2.calls = s.calls := by simp [pull]
@[simp] theorem pull_results (s : State) : (pull s).2.results = s.results := by simp [pull]
@[simp] theorem pull_time (s : State) : (pull s).2.time = s.time := by simp [pull]
@[simp] theorem pull_errorCount (s : State) : (pull s).2.errorCount = s.errorCount := by simp [pull]
@[simp] theorem pull_pc (s : State) : (pull s).2.pc = s.pc := by simp [pull]
@[simp] theorem pull_phase (s : State) : (pull s).2.phase = s.phase := by simp [pull]
@[simp] theorem pull_m (s : State) : (pull s).2.m = { s.m with sp := s.m.sp + 1 } := by simp [pull]
@[simp] theorem pull_z (s : State) : (pull s).2.z = s.z := by simp [pull]
@[simp] theorem pull_unmappedFill (s : State) : (pull s).2.unmappedFill = s.unmappedFill := by simp [pull]
@[simp] theorem pull_readPage (s : State) : (pull s).2.readPage = s.readPage := by simp [pull]
@[simp] theorem pull_writePage (s : State) : (pull s).2.writePage = s.writePage := by simp [pull]
@[simp] theorem pull_regions (s : State) : (pull s).2.regions = s.regions := by simp [pull]
@[simp] theorem pull_unmappedWrite (s : State) : (pull s).2.unmappedWrite = s.unmappedWrite := by simp [pull]
@[simp] theorem pull_ay (s : State) : (pull s).2.ay = s.ay := by simp [pull]
@[simp] theorem pull_pokey (s : State) : (pull s).2.pokey = s.pokey := by simp [pull]
@[simp] theorem pull_nextPlayTime (s : State) : (pull s).2.nextPlayTime = s.nextPlayTime := by simp [pull]
@[simp] theorem pull_playPeriod (s : State) : (pull s).2.playPeriod = s.playPeriod := by simp [pull]
@[simp] theorem pull_suspended (s : State) : (pull s).2.suspended = s.suspended := by simp [pull]
@[simp] theorem pull_started (s : State) : (pull s).2.started = s.started := by simp [pull]
@[simp] theorem pull_initAddr (s : State) : (pull s).2.initAddr = s.initAddr := by simp [pull]
@[simp] theorem pull_playAddr (s : State) : (pull s).2.playAddr = s.playAddr := by simp [pull]
@[simp] theorem pull_track (s : State) : (pull s).2.track = s.track := by simp [pull]
@[simp] theorem pull_image (s : State) : (pull s).2.image = s.image := by simp [pull]
@[simp] theorem pull_playCalls (s : State) : (pull s).2.playCalls = s.playCalls := by simp [pull]
@[simp] theorem pull_voiceMute (s : State) : (pull s).2.voiceMute = s.voiceMute := by simp [pull]
@[simp] theorem pull_tempo (s : State) : (pull s).2.tempo = s.tempo := by simp [pull]

/-! ### Fields `push16` leaves alone -/

@[simp] theorem push16_cfg (v : Word) (s : State) : (push16 v s).cfg = s.cfg := by simp [push16]
@[simp] theorem push16_control (v : Word) (s : State) : (push16 v s).control = s.control := by simp [push16]
@[simp] theorem push16_calls (v : Word) (s : State) : (push16 v s).calls = s.calls := by simp [push16]
@[simp] theorem push16_results (v : Word) (s : State) : (push16 v s).results = s.results := by simp [push16]
@[simp] theorem push16_draws (v : Word) (s : State) : (push16 v s).draws = s.draws := by simp [push16]
@[simp] theorem push16_time (v : Word) (s : State) : (push16 v s).time = s.time := by simp [push16]
@[simp] theorem push16_errorCount (v : Word) (s : State) : (push16 v s).errorCount = s.errorCount := by simp [push16]
@[simp] theorem push16_pc (v : Word) (s : State) : (push16 v s).pc = s.pc := by simp [push16]
@[simp] theorem push16_phase (v : Word) (s : State) : (push16 v s).phase = s.phase := by simp [push16]
@[simp] theorem push16_m (v : Word) (s : State) : (push16 v s).m = s.m := by simp [push16]
@[simp] theorem push16_z (v : Word) (s : State) : (push16 v s).z = { s.z with sp := s.z.sp - 2 } :=
    by simp [push16, BitVec.sub_sub]
@[simp] theorem push16_unmappedFill (v : Word) (s : State) : (push16 v s).unmappedFill = s.unmappedFill :=
    by simp [push16]
@[simp] theorem push16_ay (v : Word) (s : State) : (push16 v s).ay = s.ay := by simp [push16]
@[simp] theorem push16_nextPlayTime (v : Word) (s : State) : (push16 v s).nextPlayTime = s.nextPlayTime :=
    by simp [push16]
@[simp] theorem push16_playPeriod (v : Word) (s : State) : (push16 v s).playPeriod = s.playPeriod := by simp [push16]
@[simp] theorem push16_suspended (v : Word) (s : State) : (push16 v s).suspended = s.suspended := by simp [push16]
@[simp] theorem push16_started (v : Word) (s : State) : (push16 v s).started = s.started := by simp [push16]
@[simp] theorem push16_initAddr (v : Word) (s : State) : (push16 v s).initAddr = s.initAddr := by simp [push16]
@[simp] theorem push16_playAddr (v : Word) (s : State) : (push16 v s).playAddr = s.playAddr := by simp [push16]
@[simp] theorem push16_track (v : Word) (s : State) : (push16 v s).track = s.track := by simp [push16]
@[simp] theorem push16_image (v : Word) (s : State) : (push16 v s).image = s.image := by simp [push16]
@[simp] theorem push16_playCalls (v : Word) (s : State) : (push16 v s).playCalls = s.playCalls := by simp [push16]
@[simp] theorem push16_voiceMute (v : Word) (s : State) : (push16 v s).voiceMute = s.voiceMute := by simp [push16]
@[simp] theorem push16_tempo (v : Word) (s : State) : (push16 v s).tempo = s.tempo := by simp [push16]

/-! ### Fields `pop16` leaves alone -/

@[simp] theorem pop16_cfg (s : State) : (pop16 s).2.cfg = s.cfg := by simp [pop16]
@[simp] theorem pop16_control (s : State) : (pop16 s).2.control = s.control := by simp [pop16]
@[simp] theorem pop16_calls (s : State) : (pop16 s).2.calls = s.calls := by simp [pop16]
@[simp] theorem pop16_results (s : State) : (pop16 s).2.results = s.results := by simp [pop16]
@[simp] theorem pop16_time (s : State) : (pop16 s).2.time = s.time := by simp [pop16]
@[simp] theorem pop16_errorCount (s : State) : (pop16 s).2.errorCount = s.errorCount := by simp [pop16]
@[simp] theorem pop16_pc (s : State) : (pop16 s).2.pc = s.pc := by simp [pop16]
@[simp] theorem pop16_phase (s : State) : (pop16 s).2.phase = s.phase := by simp [pop16]
@[simp] theorem pop16_m (s : State) : (pop16 s).2.m = s.m := by simp [pop16]
@[simp] theorem pop16_z (s : State) : (pop16 s).2.z = { s.z with sp := s.z.sp + 2 } :=
    by simp [pop16, BitVec.add_assoc]
@[simp] theorem pop16_unmappedFill (s : State) : (pop16 s).2.unmappedFill = s.unmappedFill := by simp [pop16]
@[simp] theorem pop16_readPage (s : State) : (pop16 s).2.readPage = s.readPage := by simp [pop16]
@[simp] theorem pop16_writePage (s : State) : (pop16 s).2.writePage = s.writePage := by simp [pop16]
@[simp] theorem pop16_regions (s : State) : (pop16 s).2.regions = s.regions := by simp [pop16]
@[simp] theorem pop16_unmappedWrite (s : State) : (pop16 s).2.unmappedWrite = s.unmappedWrite := by simp [pop16]
@[simp] theorem pop16_ay (s : State) : (pop16 s).2.ay = s.ay := by simp [pop16]
@[simp] theorem pop16_pokey (s : State) : (pop16 s).2.pokey = s.pokey := by simp [pop16]
@[simp] theorem pop16_nextPlayTime (s : State) : (pop16 s).2.nextPlayTime = s.nextPlayTime := by simp [pop16]
@[simp] theorem pop16_playPeriod (s : State) : (pop16 s).2.playPeriod = s.playPeriod := by simp [pop16]
@[simp] theorem pop16_suspended (s : State) : (pop16 s).2.suspended = s.suspended := by simp [pop16]
@[simp] theorem pop16_started (s : State) : (pop16 s).2.started = s.started := by simp [pop16]
@[simp] theorem pop16_initAddr (s : State) : (pop16 s).2.initAddr = s.initAddr := by simp [pop16]
@[simp] theorem pop16_playAddr (s : State) : (pop16 s).2.playAddr = s.playAddr := by simp [pop16]
@[simp] theorem pop16_track (s : State) : (pop16 s).2.track = s.track := by simp [pop16]
@[simp] theorem pop16_image (s : State) : (pop16 s).2.image = s.image := by simp [pop16]
@[simp] theorem pop16_playCalls (s : State) : (pop16 s).2.playCalls = s.playCalls := by simp [pop16]
@[simp] theorem pop16_voiceMute (s : State) : (pop16 s).2.voiceMute = s.voiceMute := by simp [pop16]
@[simp] theorem pop16_tempo (s : State) : (pop16 s).2.tempo = s.tempo := by simp [pop16]

/-! ### Reads and memory -/

/-- A data read leaves every byte of memory. -/
@[simp] theorem ptRead_memRead (a b : Word) (s : State) : ptRead (memRead a s).2 b = ptRead s b :=
  ptRead_congr (by simp) (by simp) (by simp) (by simp) (by simp) b

@[simp] theorem ptRead_memRead16 (a b : Word) (s : State) : ptRead (memRead16 a s).2 b = ptRead s b :=
  ptRead_congr (by simp) (by simp) (by simp) (by simp) (by simp) b

@[simp] theorem ptRead_pull (b : Word) (s : State) : ptRead (pull s).2 b = ptRead s b :=
  ptRead_congr (by simp) (by simp) (by simp) (by simp) (by simp) b

@[simp] theorem ptRead_pop16 (b : Word) (s : State) : ptRead (pop16 s).2 b = ptRead s b :=
  ptRead_congr (by simp) (by simp) (by simp) (by simp) (by simp) b

@[simp] theorem ptRead_portOut (p : Word) (v : Byte) (b : Word) (s : State) : ptRead (portOut p v s) b = ptRead s b :=
  ptRead_congr (by simp) (by simp) (by simp) (by simp) (by simp) b

@[simp] theorem ptRead_portIn (p b : Word) (s : State) : ptRead (portIn p s).2 b = ptRead s b :=
  ptRead_congr (by simp) (by simp) (by simp) (by simp) (by simp) b

/-! ### Operations and the canonical form -/

theorem portIn_wf (p : Word) (s : State) (w : Memory.wf s = true) : Memory.wf (portIn p s).2 = true := by
  rw [portIn_frame]; exact w

theorem memRead_wf (a : Word) (s : State) (w : Memory.wf s = true) : Memory.wf (memRead a s).2 = true := by
  rw [wf_congr (s := s) (by simp) (by simp) (by simp)]; exact w

theorem portOut_wf (p : Word) (v : Byte) (s : State) (w : Memory.wf s = true) : Memory.wf (portOut p v s) = true := by
  rw [wf_congr (s := s) (by simp) (by simp) (by simp)]; exact w

theorem memWrite_wf (a : Word) (v : Byte) (s : State) (w : Memory.wf s = true) : Memory.wf (memWrite a v s) = true := by
  unfold memWrite
  split
  · rw [nesWrite_frame]; exact w
  · exact ptWrite_wf _ _ _ (by rw [pokeyWrite_frame]; exact w)
  · rw [bankSelect_wf]; exact w
  · rw [runCallback_frame]; exact w
  · exact ptWrite_wf _ _ _ w

theorem memRead16_wf (a : Word) (s : State) (w : Memory.wf s = true) : Memory.wf (memRead16 a s).2 = true :=
  memRead_wf _ _ (memRead_wf _ _ w)

theorem memWrite16_wf (a v : Word) (s : State) (w : Memory.wf s = true) : Memory.wf (memWrite16 a v s) = true :=
  memWrite_wf _ _ _ (memWrite_wf _ _ _ w)

theorem push_wf (v : Byte) (s : State) (w : Memory.wf s = true) : Memory.wf (push v s) = true :=
  memWrite_wf _ _ _ w

theorem pull_wf (s : State) (w : Memory.wf s = true) : Memory.wf (pull s).2 = true := memRead_wf _ _ w

theorem push16_wf (v : Word) (s : State) (w : Memory.wf s = true) : Memory.wf (push16 v s) = true :=
  memWrite_wf _ _ _ (memWrite_wf _ _ _ w)

theorem pop16_wf (s : State) (w : Memory.wf s = true) : Memory.wf (pop16 s).2 = true :=
  memRead_wf _ _ (memRead_wf _ _ w)

/-! ### The stacks: where a push stores and what comes back -/

/-- Bit `i` of a word, by halves. -/
theorem word_getLsbD (lo hi : Byte) (i : Nat) :
    (word lo hi).getLsbD i = if i < 8 then lo.getLsbD i else hi.getLsbD (i - 8) := by
  have h := BitVec.getLsbD_append (x := hi) (y := lo) (i := i)
  by_cases c : i < 8
  · rw [if_pos c] at h ⊢; exact h
  · rw [if_neg c] at h ⊢; exact h

@[simp] theorem word_lo8_hi8 (w : Word) : word (lo8 w) (hi8 w) = w := by
  apply BitVec.eq_of_getLsbD_eq
  intro i h
  rw [word_getLsbD]
  split
  · rename_i c; simp [lo8, c]
  · rename_i c; simp [hi8, show i - 8 < 8 by omega, show 8 + (i - 8) = i by omega]

@[simp] theorem lo8_word (lo hi : Byte) : lo8 (word lo hi) = lo := by
  apply BitVec.eq_of_getLsbD_eq
  intro i h
  simp [lo8, h, word_getLsbD]

@[simp] theorem hi8_word (lo hi : Byte) : hi8 (word lo hi) = hi := by
  apply BitVec.eq_of_getLsbD_eq
  intro i h
  simp [hi8, h, word_getLsbD]
end Sys2Proof.Machine
end

