-- ==== Sys2Proof/Laws/View.lean ====
section
/-! SUPPORT. What every instruction does, by shape: `exec` is the run of the instruction's shape with the `CYC` of its
row. Later proofs go by the shapes, a hundred cases, and never open the 850 meanings. -/

namespace Sys2Proof

open Machine

/-- The run of an M6502 shape, given the `CYC` of its row. -/
def MView.run (v : MView) (c : Nat) : State → State :=
  match v with
  | .read op f => runMRead c op f
  | .store r md => runMStore c r md
  | .modify op md => runMModify c op md
  | .acc op => runMAcc c op
  | .implied op => runMImplied c op
  | .pha => runMPha c
  | .php => runMPhp c
  | .pla => runMPla c
  | .plp => runMPlp c
  | .jmp b1 b2 => runMJmp c b1 b2
  | .jmpInd b1 b2 => runMJmpInd c b1 b2
  | .jsr b1 b2 => runMJsr c b1 b2
  | .rts => runMRts c
  | .rti => runMRti c
  | .branch k b1 => runMBranch c k b1
  | .brk => runMBrk c
  | .halt => runMHalt

/-- The run of a Z80 shape, given the `CYC` of its row. -/
def ZView.run (v : ZView) (c : Nat) : State → State :=
  match v with
  | .ldRR r q => runZLdRR c r q
  | .ldRN r n => runZLdRN c r n
  | .ldRM r m => runZLdRM c r m
  | .ldMR m r => runZLdMR c m r
  | .ldMN m n => runZLdMN c m n
  | .ldAP p => runZLdAP c p
  | .ldANn lo hi => runZLdANn c lo hi
  | .ldPA p => runZLdPA c p
  | .ldNnA lo hi => runZLdNnA c lo hi
  | .ldAIR k => runZLdAIR c k
  | .ldIRA k => runZLdIRA c k
  | .ldPN p lo hi => runZLdPN c p lo hi
  | .ldHLNn lo hi => runZLdHLNn c lo hi
  | .ldPNn p lo hi => runZLdPNn c p lo hi
  | .ldNnHL lo hi => runZLdNnHL c lo hi
  | .ldNnP p lo hi => runZLdNnP c p lo hi
  | .ldSP p => runZLdSP c p
  | .push p => runZPush c p
  | .pop p => runZPop c p
  | .exDEHL => runZExDEHL c
  | .exAF => runZExAF c
  | .exx => runZExx c
  | .exSP p => runZExSP c p
  | .ldBlock d rep => runZLdBlock c d rep
  | .cpBlock d rep => runZCpBlock c d rep
  | .alu op src => runZAlu c op src
  | .incDecR op r => runZIncDecR c op r
  | .incDecM op m => runZIncDecM c op m
  | .gen op => runZGen c op
  | .arith16 op p => runZArith16 c op p
  | .addXY x p => runZAddXY c x p
  | .incDec16 op p => runZIncDec16 c op p
  | .accRot op => runZAccRot c op
  | .rot op tgt => runZRot c op tgt
  | .rld => runZRld c
  | .rrd => runZRrd c
  | .bit b tgt => runZBit c b tgt
  | .setB b tgt => runZSet c b tgt
  | .resB b tgt => runZRes c b tgt
  | .jp lo hi => runZJp c lo hi
  | .jpCC k lo hi => runZJpCC c k lo hi
  | .jr e => runZJr c e
  | .jrCC k e => runZJrCC c k e
  | .jpHL p => runZJpHL c p
  | .djnz e => runZDjnz c e
  | .call lo hi => runZCall c lo hi
  | .callCC k lo hi => runZCallCC c k lo hi
  | .ret => runZRet c
  | .retCC k => runZRetCC c k
  | .reti => runZReti c
  | .retn => runZRetn c
  | .rst y => runZRst c y
  | .nop => runZNop c
  | .halt => runZHalt
  | .di => runZDi c
  | .ei => runZEi c
  | .im k => runZIm c k
  | .inAN n => runZInAN c n
  | .inRC r => runZInRC c r
  | .inBlock d rep => runZInBlock c d rep
  | .outNA n => runZOutNA c n
  | .outCR r => runZOutCR c r
  | .outBlock d rep => runZOutBlock c d rep

/-- The run of a shape. -/
def View.run (v : View) (c : Nat) : State → State :=
  match v with
  | .m v => v.run c
  | .z v => v.run c

/-- Every instruction answers the run of its shape with the `CYC` of its row: no instruction stops. -/
theorem exec_eq_next (i : Instr) (s : State) : exec i s = .next (i.view.run (i.cyc s.cfg) s) := by
  cases i <;> rfl

end Sys2Proof
end

