-- ==== Sys2Proof/Laws/Fetch.lean ====
section
/-! SUPPORT. What an instruction finds before its body, by shape: the costs the shapes charge are those of the opcode
table, and the two ways to write the refresh counter agree. -/

namespace Sys2Proof

open Machine

/-- Length of an M6502 shape, as its run goes by it. -/
def MView.len (v : MView) : Nat :=
  match v with
  | .read _ (.imm _) => 2
  | .read _ (.mem md) => md.len
  | .store _ md => md.len
  | .modify _ md => md.len
  | .acc _ => 1
  | .implied _ => 1
  | .pha => 1
  | .php => 1
  | .pla => 1
  | .plp => 1
  | .jmp _ _ => 3
  | .jmpInd _ _ => 3
  | .jsr _ _ => 3
  | .rts => 1
  | .rti => 1
  | .branch _ _ => 2
  | .brk => 1
  | .halt => 1

/-- Length, `CYC` and counted bytes of a Z80 shape, as its run charges them. The halt is charged by what it does. -/
def ZView.cost (v : ZView) (c : Nat) : Cost :=
  match v with
  | .ldRR _ _ => ⟨1, c, 1⟩
  | .ldRN _ _ => ⟨2, c, 1⟩
  | .ldRM _ m => m.cost ⟨1, c, 1⟩ ⟨3, c, 2⟩
  | .ldMR m _ => m.cost ⟨1, c, 1⟩ ⟨3, c, 2⟩
  | .ldMN m _ => m.cost ⟨2, c, 1⟩ ⟨4, c, 2⟩
  | .ldAP _ => ⟨1, c, 1⟩
  | .ldANn _ _ => ⟨3, c, 1⟩
  | .ldPA _ => ⟨1, c, 1⟩
  | .ldNnA _ _ => ⟨3, c, 1⟩
  | .ldAIR _ => ⟨2, c, 2⟩
  | .ldIRA _ => ⟨2, c, 2⟩
  | .ldPN p _ _ => p.cost ⟨3, c, 1⟩ ⟨4, c, 2⟩
  | .ldHLNn _ _ => ⟨3, c, 1⟩
  | .ldPNn _ _ _ => ⟨4, c, 2⟩
  | .ldNnHL _ _ => ⟨3, c, 1⟩
  | .ldNnP _ _ _ => ⟨4, c, 2⟩
  | .ldSP p => p.cost ⟨1, c, 1⟩ ⟨2, c, 2⟩
  | .push p => p.cost ⟨1, c, 1⟩ ⟨2, c, 2⟩
  | .pop p => p.cost ⟨1, c, 1⟩ ⟨2, c, 2⟩
  | .exDEHL => ⟨1, c, 1⟩
  | .exAF => ⟨1, c, 1⟩
  | .exx => ⟨1, c, 1⟩
  | .exSP p => p.cost ⟨1, c, 1⟩ ⟨2, c, 2⟩
  | .ldBlock _ _ => ⟨2, c, 2⟩
  | .cpBlock _ _ => ⟨2, c, 2⟩
  | .alu _ (.reg _) => ⟨1, c, 1⟩
  | .alu _ (.imm _) => ⟨2, c, 1⟩
  | .alu _ (.mem m) => m.cost ⟨1, c, 1⟩ ⟨3, c, 2⟩
  | .incDecR _ _ => ⟨1, c, 1⟩
  | .incDecM _ m => m.cost ⟨1, c, 1⟩ ⟨3, c, 2⟩
  | .gen op => op.cost c
  | .arith16 op _ => op.cost c
  | .addXY _ _ => ⟨2, c, 2⟩
  | .incDec16 _ p => p.cost ⟨1, c, 1⟩ ⟨2, c, 2⟩
  | .accRot _ => ⟨1, c, 1⟩
  | .rot _ (.reg _) => ⟨2, c, 2⟩
  | .rot _ (.mem m) => m.cost ⟨2, c, 2⟩ ⟨4, c, 2⟩
  | .rld => ⟨2, c, 2⟩
  | .rrd => ⟨2, c, 2⟩
  | .bit _ (.reg _) => ⟨2, c, 2⟩
  | .bit _ (.mem m) => m.cost ⟨2, c, 2⟩ ⟨4, c, 2⟩
  | .setB _ (.reg _) => ⟨2, c, 2⟩
  | .setB _ (.mem m) => m.cost ⟨2, c, 2⟩ ⟨4, c, 2⟩
  | .resB _ (.reg _) => ⟨2, c, 2⟩
  | .resB _ (.mem m) => m.cost ⟨2, c, 2⟩ ⟨4, c, 2⟩
  | .jp _ _ => ⟨3, c, 1⟩
  | .jpCC _ _ _ => ⟨3, c, 1⟩
  | .jr _ => ⟨2, c, 1⟩
  | .jrCC _ _ => ⟨2, c, 1⟩
  | .jpHL p => p.cost ⟨1, c, 1⟩ ⟨2, c, 2⟩
  | .djnz _ => ⟨2, c, 1⟩
  | .call _ _ => ⟨3, c, 1⟩
  | .callCC _ _ _ => ⟨3, c, 1⟩
  | .ret => ⟨1, c, 1⟩
  | .retCC _ => ⟨1, c, 1⟩
  | .reti => ⟨2, c, 2⟩
  | .retn => ⟨2, c, 2⟩
  | .rst _ => ⟨1, c, 1⟩
  | .nop => ⟨1, c, 1⟩
  | .halt => ⟨1, c, 1⟩
  | .di => ⟨1, c, 1⟩
  | .ei => ⟨1, c, 1⟩
  | .im _ => ⟨2, c, 2⟩
  | .inAN _ => ⟨2, c, 1⟩
  | .inRC _ => ⟨2, c, 2⟩
  | .inBlock _ _ => ⟨2, c, 2⟩
  | .outNA _ => ⟨2, c, 1⟩
  | .outCR _ => ⟨2, c, 2⟩
  | .outBlock _ _ => ⟨2, c, 2⟩

namespace Machine

/-- The refresh counter, as a sum and as bits. -/
theorem refreshed_eq (n : Nat) (r : Byte) : refreshed n r = bumpR n r := by
  have hb : byteOfBits (bit r 7) false false false false false false false = BitVec.ofNat 8 (2 ^ 7 * (r.toNat / 128)) := by
    revert r; decide
  have hr : r.toNat / 128 < 2 := by have := r.isLt; omega
  have hm : (r.toNat + n) % 128 < 2 ^ 7 := Nat.mod_lt _ (by decide)
  apply BitVec.eq_of_toNat_eq
  rw [refreshed, bumpR, hb, BitVec.toNat_or, BitVec.toNat_ofNat, BitVec.toNat_ofNat, BitVec.toNat_ofNat,
    Nat.mod_eq_of_lt (show 128 * (r.toNat / 128) + (r.toNat + n) % 128 < 2 ^ 8 by omega),
    Nat.mod_eq_of_lt (show 2 ^ 7 * (r.toNat / 128) < 2 ^ 8 by omega),
    Nat.mod_eq_of_lt (show (r.toNat + n) % 128 < 2 ^ 8 by omega), ← Nat.two_pow_add_eq_or_of_lt hm]

/-- The lengths the shapes go by are those of the opcode table (R111). -/
theorem len_eq (i : Instr) (c : Nat) : i.row.len = match i.view with
    | .m v => v.len
    | .z v => (v.cost c).len := by
  cases i <;> rfl

/-- A shape charges the `CYC` it is given. -/
theorem cost_cyc (v : ZView) (c : Nat) : (v.cost c).cyc = c := by
  cases v
  case alu op src => rcases src with _ | _ | m <;> try rfl
                     cases m <;> rfl
  case gen op => cases op <;> rfl
  case arith16 op p => cases op <;> rfl
  case rot op tgt => rcases tgt with _ | m <;> try rfl
                     cases m <;> rfl
  case bit b tgt => rcases tgt with _ | m <;> try rfl
                    cases m <;> rfl
  case setB b tgt => rcases tgt with _ | m <;> try rfl
                     cases m <;> rfl
  case resB b tgt => rcases tgt with _ | m <;> try rfl
                     cases m <;> rfl
  case ldRM r m => cases m <;> rfl
  case ldMR m r => cases m <;> rfl
  case ldMN m n => cases m <;> rfl
  case incDecM op m => cases m <;> rfl
  case ldPN p lo hi => cases p <;> rfl
  case incDec16 op p => cases p <;> rfl
  case ldSP p => cases p <;> rfl
  case exSP p => cases p <;> rfl
  case jpHL p => cases p <;> rfl
  case push p => cases p <;> rfl
  case pop p => cases p <;> rfl
  all_goals rfl

/-- The bytes a shape counts are those its encoding makes it count (R171). -/
theorem opcodeFetches_eq (i : Instr) (c : Nat) : (match i.view with
    | .m _ => i.opcodeFetches
    | .z v => (v.cost c).fetches) = i.opcodeFetches := by
  cases i <;> rfl

/-- What an instruction finds, by shape. -/
theorem fetched_eq (i : Instr) (s : State) :
    fetched i s = match i.view with
      | .m v => beginM v.len (i.cyc s.cfg) s
      | .z v => beginZ (v.cost (i.cyc s.cfg)) s := by
  have hr := len_eq i (i.cyc s.cfg)
  have hf := opcodeFetches_eq i (i.cyc s.cfg)
  have hfam : i.family = match i.view with
      | .m _ => .m6502
      | .z _ => .z80 := rfl
  cases hv : i.view with
  | m v => simp only [hv] at hr hfam; simp only [fetched, hfam, hr, beginM]
  | z v => simp only [hv] at hr hf hfam; simp only [fetched, hfam, hr, ← hf, refreshed_eq, beginZ, cost_cyc]

theorem fetched_m {i : Instr} {v : MView} (h : i.view = .m v) (s : State) :
    fetched i s = beginM v.len (i.cyc s.cfg) s := by rw [fetched_eq, h]

theorem fetched_z {i : Instr} {v : ZView} (h : i.view = .z v) (s : State) :
    fetched i s = beginZ (v.cost (i.cyc s.cfg)) s := by
  rw [fetched_eq, h]

theorem exec_m {i : Instr} {v : MView} (h : i.view = .m v) (s : State) :
    exec i s = .next (v.run (i.cyc s.cfg) s) := by
  rw [exec_eq_next, h]; rfl

theorem exec_z {i : Instr} {v : ZView} (h : i.view = .z v) (s : State) :
    exec i s = .next (v.run (i.cyc s.cfg) s) := by
  rw [exec_eq_next, h]; rfl

end Machine

end Sys2Proof
end

