-- ==== Sys2Proof/Laws/Flags.lean ====
section
/-! SUPPORT. The flag computations of the machine, written on bits as the hardware rules write them, are the exact arithmetic
of Sys2Proof.Safety. -/

namespace Sys2Proof.Machine

/-! ### Bytes and words as numbers -/

theorem msb8 (v : Byte) : v.msb = decide (128 ≤ v.toNat) := by rw [BitVec.msb_eq_decide]

theorem msb16 (v : Word) : v.msb = decide (32768 ≤ v.toNat) := by rw [BitVec.msb_eq_decide]

theorem beq_zero8 (v : Byte) : (v == 0) = decide (v.toNat = 0) := by
  rw [Bool.eq_iff_iff, beq_iff_eq, decide_eq_true_eq, ← BitVec.toNat_inj]; rfl

theorem beq_zero16 (v : Word) : (v == 0) = decide (v.toNat = 0) := by
  rw [Bool.eq_iff_iff, beq_iff_eq, decide_eq_true_eq, ← BitVec.toNat_inj]; rfl

/-- The signed value of a byte. -/
theorem toInt8 (v : Byte) : v.toInt = if v.toNat < 128 then (v.toNat : Int) else (v.toNat : Int) - 256 := by
  rw [BitVec.toInt_eq_toNat_cond]; split <;> split <;> omega

/-- The signed value of a word. -/
theorem toInt16 (v : Word) : v.toInt = if v.toNat < 32768 then (v.toNat : Int) else (v.toNat : Int) - 65536 := by
  rw [BitVec.toInt_eq_toNat_cond]; split <;> split <;> omega

/-- A little-endian pair of bytes is a number. -/
theorem word_eq (lo hi : Byte) : word lo hi = BitVec.ofNat 16 (lo.toNat + 256 * hi.toNat) := by
  apply BitVec.eq_of_toNat_eq
  have := lo.isLt; have := hi.isLt
  rw [word, BitVec.toNat_append, BitVec.toNat_ofNat, ← Nat.shiftLeft_add_eq_or_of_lt lo.isLt, Nat.shiftLeft_eq]
  omega

theorem hi8_eq (w : Word) : hi8 w = BitVec.ofNat 8 (w.toNat / 256) := by
  apply BitVec.eq_of_toNat_eq
  have := w.isLt
  simp [hi8, BitVec.extractLsb'_toNat, Nat.shiftRight_eq_div_pow]

theorem lo8_eq (w : Word) : lo8 w = BitVec.ofNat 8 w.toNat := by
  apply BitVec.eq_of_toNat_eq
  simp [lo8, BitVec.extractLsb'_toNat]

theorem sext_eq (e : Byte) : sext e = BitVec.ofInt 16 e.toInt := rfl

theorem byte_succ (v : Byte) : v + 1 = BitVec.ofNat 8 (v.toNat + 1) := by
  apply BitVec.eq_of_toNat_eq; simp [BitVec.toNat_add]

theorem byte_pred (v : Byte) : v - 1 = BitVec.ofNat 8 (v.toNat + 255) := by
  apply BitVec.eq_of_toNat_eq; simp [BitVec.toNat_sub]; omega

theorem word_succ (w : Word) : w + 1 = BitVec.ofNat 16 (w.toNat + 1) := by
  apply BitVec.eq_of_toNat_eq; simp [BitVec.toNat_add]

theorem word_pred (w : Word) : w - 1 = BitVec.ofNat 16 (w.toNat + 65535) := by
  apply BitVec.eq_of_toNat_eq; simp [BitVec.toNat_sub]; omega

theorem word_add (a b : Word) : a + b = BitVec.ofNat 16 (a.toNat + b.toNat) := by
  apply BitVec.eq_of_toNat_eq; simp [BitVec.toNat_add]

/-- An address plus a signed byte. -/
theorem word_add_sext (w : Word) (e : Byte) : w + sext e = BitVec.ofInt 16 (w.toNat + e.toInt) := by
  rw [sext_eq, BitVec.ofInt_add, BitVec.ofInt_natCast, BitVec.ofNat_toNat, BitVec.setWidth_eq]

theorem ofInt_sub {w : Nat} (x y : Int) : BitVec.ofInt w (x - y) = BitVec.ofInt w x - BitVec.ofInt w y := by
  rw [Int.sub_eq_add_neg, BitVec.ofInt_add, BitVec.ofInt_neg, BitVec.sub_eq_add_neg]

theorem byte_sub (a b : Byte) : a - b = BitVec.ofInt 8 (a.toNat - b.toNat) := by
  apply BitVec.eq_of_toInt_eq
  rw [BitVec.toInt_sub, BitVec.toInt_ofInt, toInt8, toInt8]
  have := a.isLt; have := b.isLt
  simp only [Int.bmod_def]
  split <;> split <;> split <;> omega

/-! ### M6502 -/

theorem setNZ_eq (v : Byte) (p : MFlags) : setNZ v p = withNZ v p := by
  simp only [setNZ, withNZ, msb8, beq_zero8]

/-- The sign bits of operands and result tell true signed overflow, for a sum of bytes. -/
theorem overflow_add8 (a m : Byte) (c : Bool) (r : Byte) (h : r = BitVec.ofNat 8 (a.toNat + m.toNat + c.toNat)) :
    ((a ^^^ r) &&& (m ^^^ r)).msb = outside8 (a.toInt + m.toInt + c.toNat) := by
  have ha := a.isLt; have hm := m.isLt
  have hr : r.toNat = (a.toNat + m.toNat + c.toNat) % 256 := by rw [h, BitVec.toNat_ofNat]
  rw [BitVec.msb_and, BitVec.msb_xor, BitVec.msb_xor, msb8, msb8, msb8, outside8, toInt8, toInt8, hr]
  generalize a.toNat = x at *
  generalize m.toNat = y at *
  rw [Bool.eq_iff_iff]
  cases c <;> simp only [Bool.and_eq_true, bne_iff_ne, ne_eq, decide_eq_true_eq, decide_eq_decide, Bool.toNat_true,
    Bool.toNat_false] <;> split <;> split <;> omega

/-- The same for a difference of bytes. -/
theorem overflow_sub8 (a m : Byte) (c : Bool) (r : Byte) (h : r.toNat = (a.toNat + 512 - m.toNat - c.toNat) % 256) :
    ((a ^^^ m) &&& (a ^^^ r)).msb = outside8 (a.toInt - m.toInt - c.toNat) := by
  have ha := a.isLt; have hm := m.isLt
  rw [BitVec.msb_and, BitVec.msb_xor, BitVec.msb_xor, msb8, msb8, msb8, outside8, toInt8, toInt8, h]
  generalize a.toNat = x at *
  generalize m.toNat = y at *
  rw [Bool.eq_iff_iff]
  cases c <;> simp only [Bool.and_eq_true, bne_iff_ne, ne_eq, decide_eq_true_eq, decide_eq_decide, Bool.toNat_true,
    Bool.toNat_false] <;> split <;> split <;> omega

/-- The same for a sum of words. -/
theorem overflow_add16 (a m : Word) (c : Bool) (r : Word) (h : r = BitVec.ofNat 16 (a.toNat + m.toNat + c.toNat)) :
    ((a ^^^ r) &&& (m ^^^ r)).msb = outside16 (a.toInt + m.toInt + c.toNat) := by
  have ha := a.isLt; have hm := m.isLt
  have hr : r.toNat = (a.toNat + m.toNat + c.toNat) % 65536 := by rw [h, BitVec.toNat_ofNat]
  rw [BitVec.msb_and, BitVec.msb_xor, BitVec.msb_xor, msb16, msb16, msb16, outside16, toInt16, toInt16, hr]
  generalize a.toNat = x at *
  generalize m.toNat = y at *
  rw [Bool.eq_iff_iff]
  cases c <;> simp only [Bool.and_eq_true, bne_iff_ne, ne_eq, decide_eq_true_eq, decide_eq_decide, Bool.toNat_true,
    Bool.toNat_false] <;> split <;> split <;> omega

/-- The same for a difference of words. -/
theorem overflow_sub16 (a m : Word) (c : Bool) (r : Word)
    (h : r.toNat = (a.toNat + 131072 - m.toNat - c.toNat) % 65536) :
    ((a ^^^ m) &&& (a ^^^ r)).msb = outside16 (a.toInt - m.toInt - c.toNat) := by
  have ha := a.isLt; have hm := m.isLt
  rw [BitVec.msb_and, BitVec.msb_xor, BitVec.msb_xor, msb16, msb16, msb16, outside16, toInt16, toInt16, h]
  generalize a.toNat = x at *
  generalize m.toNat = y at *
  rw [Bool.eq_iff_iff]
  cases c <;> simp only [Bool.and_eq_true, bne_iff_ne, ne_eq, decide_eq_true_eq, decide_eq_decide, Bool.toNat_true,
    Bool.toNat_false] <;> split <;> split <;> omega

theorem adcM_eq (a m : Byte) (p : MFlags) :
    adcM a m p =
      (BitVec.ofNat 8 (a.toNat + m.toNat + p.c.toNat),
        { withNZ (BitVec.ofNat 8 (a.toNat + m.toNat + p.c.toNat)) p with
          v := outside8 (a.toInt + m.toInt + p.c.toNat)
          c := decide (255 < a.toNat + m.toNat + p.c.toNat) }) := by
  rw [adcM, overflow_add8 a m p.c _ rfl, setNZ_eq]; rfl

/-- The complement of a byte, as a number. -/
theorem xor_ff (m : Byte) : (m ^^^ 0xFF).toNat = 255 - m.toNat := by revert m; decide

theorem xor_ff_toInt (m : Byte) : (m ^^^ 0xFF).toInt = -m.toInt - 1 := by revert m; decide

theorem sbcM_eq (a m : Byte) (p : MFlags) :
    sbcM a m p =
      (BitVec.ofNat 8 (a.toNat + 256 - m.toNat - (1 - p.c.toNat)),
        { withNZ (BitVec.ofNat 8 (a.toNat + 256 - m.toNat - (1 - p.c.toNat))) p with
          v := outside8 (a.toInt - m.toInt - (1 - p.c.toNat : Nat))
          c := decide (m.toNat + (1 - p.c.toNat) ≤ a.toNat) }) := by
  have hm := m.isLt
  have hc : p.c.toNat ≤ 1 := by cases p.c <;> decide
  have hs : a.toNat + (m ^^^ 0xFF).toNat + p.c.toNat = a.toNat + 256 - m.toNat - (1 - p.c.toNat) := by
    rw [xor_ff]; omega
  have hv : a.toInt + (m ^^^ 0xFF).toInt + p.c.toNat = a.toInt - m.toInt - (1 - p.c.toNat : Nat) := by
    rw [xor_ff_toInt]; omega
  have hb : decide (255 < a.toNat + 256 - m.toNat - (1 - p.c.toNat)) = decide (m.toNat + (1 - p.c.toNat) ≤ a.toNat) := by
    rw [decide_eq_decide]; omega
  rw [sbcM, adcM_eq, hs, hv, hb]

theorem cmpM_eq (a m : Byte) (p : MFlags) :
    cmpM a m p = { withNZ (a - m) p with c := decide (m.toNat ≤ a.toNat) } := by rw [cmpM, setNZ_eq]; rfl

theorem bitM_eq (a m : Byte) (p : MFlags) :
    bitM a m p = { p with z := decide (a &&& m = 0), n := m.getLsbD 7, v := m.getLsbD 6 } := by
  rw [bitM]; congr 1

/-- A modify-class instruction, on bits and as a number. -/
theorem modify_eq (op : MModOp) (v : Byte) (p : MFlags) :
    op.apply v p = ((mModified op v p.c).1, { withNZ (mModified op v p.c).1 p with c := (mModified op v p.c).2 }) := by
  have hl : v <<< 1 = BitVec.ofNat 8 (2 * v.toNat) := by revert v; decide
  have hr : v >>> 1 = BitVec.ofNat 8 (v.toNat / 2) := by revert v; decide
  have h7 : bit v 7 = decide (128 ≤ v.toNat) := by revert v; decide
  have h0 : bit v 0 = decide (v.toNat % 2 = 1) := by revert v; decide
  have hrol : ∀ c : Bool, BitVec.ofNat 8 (2 * v.toNat) ||| carryLow c = BitVec.ofNat 8 (2 * v.toNat + c.toNat) := by revert v; decide
  have hror : ∀ c : Bool, BitVec.ofNat 8 (v.toNat / 2) ||| carryHigh c
      = BitVec.ofNat 8 (v.toNat / 2 + 128 * c.toNat) := by revert v; decide
  cases op <;>
    simp only [MModOp.apply, aslM, lsrM, rolM, rorM, incM, decM, mModified, setNZ_eq, hl, hr, h7, h0, hrol, hror,
      byte_succ, byte_pred, withNZ] <;> rfl

theorem implied_eq (op : MImpl) (m : M6502Regs) : op.apply m = mImplied op m := by
  cases op <;> simp only [MImpl.apply, mImplied, setNZ_eq, byte_succ, byte_pred]

theorem toByte_eq (p : MFlags) : p.toByte = statusByte p := by
  obtain ⟨n, v, d, i, z, c⟩ := p
  revert n v d i z c; decide

theorem ofByte_eq (v : Byte) : MFlags.ofByte v = flagsOf v := rfl

theorem stackAddr_eq (sp : Byte) : stackAddr sp = stackPage sp := by
  rw [stackAddr, word_eq, stackPage]; congr 1; rw [Nat.add_comm]; rfl

/-! ### Z80 -/

theorem undef35_eq (t : State) (f : ZFlags) : undef35 (freeBits t) f = free35 t f := rfl

theorem setSZ_eq (v : Byte) (f : ZFlags) : setSZ v f = withSZ v f := by
  simp only [setSZ, withSZ, msb8, beq_zero8]

theorem parity_eq (v : Byte) : parity v = evenOnes v := by revert v; decide

theorem add8_eq (t : State) (a v : Byte) (c : Bool) : add8 (freeBits t) a v c t.z.f = zSum t a v c := by
  rw [add8, overflow_add8 a v c _ rfl, setSZ_eq, undef35_eq]; rfl

theorem sub8_eq (t : State) (a v : Byte) (c : Bool) : sub8 (freeBits t) a v c t.z.f = zDifference t a v c := by
  have ha := a.isLt; have hv := v.isLt
  have hr : a - v - BitVec.ofNat 8 c.toNat = BitVec.ofInt 8 (a.toNat - v.toNat - c.toNat) := by
    rw [byte_sub a v, ofInt_sub (_ - _) (c.toNat : Int), BitVec.ofInt_natCast]
  have hn : (a - v - BitVec.ofNat 8 c.toNat).toNat = (a.toNat + 512 - v.toNat - c.toNat) % 256 := by
    simp only [BitVec.toNat_sub, BitVec.toNat_ofNat]
    cases c <;> simp only [Bool.toNat_true, Bool.toNat_false] <;> omega
  rw [sub8, overflow_sub8 a v c _ hn, setSZ_eq, undef35_eq, hr]; rfl

theorem logicZ_eq (t : State) (r : Byte) (h : Bool) : logicZ (freeBits t) r h t.z.f = zLogic t r h := by
  rw [logicZ, setSZ_eq, undef35_eq, parity_eq]; rfl

theorem shiftZ_eq (t : State) (r : Byte) (c : Bool) : shiftZ (freeBits t) r c t.z.f = zShifted t r c := by
  rw [shiftZ, setSZ_eq, undef35_eq, parity_eq]; rfl

theorem inFlagsZ_eq (t : State) (r : Byte) : inFlagsZ (freeBits t) r t.z.f = zLoaded t r := by
  rw [inFlagsZ, setSZ_eq, undef35_eq, parity_eq]; rfl

theorem stepByte_eq (op : IncDec) (t : State) (v : Byte) : op.byte (freeBits t) v t.z.f = zStepped op t v := by
  have h7 : (v == 0x7F) = decide (v.toNat = 127) := by revert v; decide
  have h8 : (v == 0x80) = decide (v.toNat = 128) := by revert v; decide
  cases op <;> simp only [IncDec.byte, incZ, decZ, zStepped, setSZ_eq, undef35_eq, byte_succ, byte_pred, h7, h8] <;> rfl

theorem daaZ_eq (t : State) (a : Byte) (f : ZFlags) :
    daaZ (freeBits t) a f =
      (BitVec.ofNat 8 (if f.n = true then a.toNat + 256 - (daaCorrection a f).1 else a.toNat + (daaCorrection a f).1),
        free35 t { withSZ
            (BitVec.ofNat 8 (if f.n = true then a.toNat + 256 - (daaCorrection a f).1
              else a.toNat + (daaCorrection a f).1)) f with
          h := if f.n = true then f.h && decide (a.toNat % 16 < 6) else decide (9 < a.toNat % 16)
          pv := evenOnes (BitVec.ofNat 8 (if f.n = true then a.toNat + 256 - (daaCorrection a f).1
              else a.toNat + (daaCorrection a f).1))
          c := (daaCorrection a f).2 }) := by
  have hc : ∀ x y : Bool, ((if x then 0x06 else 0) ||| (if y then 0x60 else 0) : Byte)
      = BitVec.ofNat 8 ((if x = true then 6 else 0) + (if y = true then 0x60 else 0)) := by decide
  have hle : ∀ x y : Bool, (if x = true then 6 else 0) + (if y = true then 0x60 else 0) ≤ 0x66 := by decide
  have hk : daaCorrection a f =
      ((if (f.h || decide (9 < a.toNat % 16)) = true then 6 else 0)
        + (if (f.c || decide (0x99 < a.toNat)) = true then 0x60 else 0), f.c || decide (0x99 < a.toNat)) := by
    simp only [daaCorrection, Bool.or_eq_true, decide_eq_true_eq]
  have hl := hle (f.h || decide (9 < a.toNat % 16)) (f.c || decide (0x99 < a.toNat))
  rw [daaZ, hk]
  simp only [hc, setSZ_eq, undef35_eq, parity_eq]
  have hr : ∀ k : Nat, k ≤ 0x66 → (if f.n = true then a - BitVec.ofNat 8 k else a + BitVec.ofNat 8 k)
      = BitVec.ofNat 8 (if f.n = true then a.toNat + 256 - k else a.toNat + k) := by
    intro k h
    have := a.isLt
    apply BitVec.eq_of_toNat_eq
    cases f.n <;> simp only [Bool.false_eq_true, if_true, if_false, BitVec.toNat_sub, BitVec.toNat_add, BitVec.toNat_ofNat] <;> omega
  rw [hr _ hl]; rfl

theorem add16_eq (t : State) (a v : Word) (f : ZFlags) :
    add16 (freeBits t) a v f =
      (BitVec.ofNat 16 (a.toNat + v.toNat), free35 t { f with
        h := decide (4095 < a.toNat % 4096 + v.toNat % 4096)
        n := false
        c := decide (65535 < a.toNat + v.toNat) }) := by
  rw [add16, word_add, undef35_eq]

theorem adc16_eq (t : State) (a v : Word) (f : ZFlags) :
    adc16 (freeBits t) a v f =
      (BitVec.ofNat 16 (a.toNat + v.toNat + f.c.toNat), free35 t { f with
        s := decide (32768 ≤ (BitVec.ofNat 16 (a.toNat + v.toNat + f.c.toNat)).toNat)
        z := decide ((BitVec.ofNat 16 (a.toNat + v.toNat + f.c.toNat)).toNat = 0)
        h := decide (4095 < a.toNat % 4096 + v.toNat % 4096 + f.c.toNat)
        pv := outside16 (a.toInt + v.toInt + f.c.toNat)
        n := false
        c := decide (65535 < a.toNat + v.toNat + f.c.toNat) }) := by
  rw [adc16, overflow_add16 a v f.c _ rfl, msb16, beq_zero16, undef35_eq]

theorem sbc16_eq (t : State) (a v : Word) (f : ZFlags) :
    sbc16 (freeBits t) a v f =
      (BitVec.ofInt 16 (a.toNat - v.toNat - f.c.toNat), free35 t { f with
        s := decide (32768 ≤ (BitVec.ofInt 16 (a.toNat - v.toNat - f.c.toNat)).toNat)
        z := decide ((BitVec.ofInt 16 (a.toNat - v.toNat - f.c.toNat)).toNat = 0)
        h := decide (a.toNat % 4096 < v.toNat % 4096 + f.c.toNat)
        pv := outside16 (a.toInt - v.toInt - f.c.toNat)
        n := true
        c := decide (a.toNat < v.toNat + f.c.toNat) }) := by
  have ha := a.isLt; have hv := v.isLt
  have hr : a - v - BitVec.ofNat 16 f.c.toNat = BitVec.ofInt 16 (a.toNat - v.toNat - f.c.toNat) := by
    rw [ofInt_sub (_ - _) (f.c.toNat : Int), ofInt_sub (a.toNat : Int), BitVec.ofInt_natCast,
      BitVec.ofInt_natCast, BitVec.ofInt_natCast, BitVec.ofNat_toNat, BitVec.ofNat_toNat, BitVec.setWidth_eq, BitVec.setWidth_eq]
  have hn : (a - v - BitVec.ofNat 16 f.c.toNat).toNat = (a.toNat + 131072 - v.toNat - f.c.toNat) % 65536 := by
    simp only [BitVec.toNat_sub, BitVec.toNat_ofNat]
    cases f.c <;> simp only [Bool.toNat_true, Bool.toNat_false] <;> omega
  rw [sbc16, overflow_sub16 a v f.c _ hn, msb16, beq_zero16, undef35_eq, hr]

theorem rotZ_eq (op : ZRot) (v : Byte) (c : Bool) : rotZ op v c = zRotated op v c := by
  cases op <;> revert v c <;> decide

theorem rotFlagsZ_eq (op : ZRot) (t : State) (v : Byte) (c : Bool) (h : t.z.f.c = c) :
    rotFlagsZ op (freeBits t) v t.z.f = ((zRotated op v c).1, zShifted t (zRotated op v c).1 (zRotated op v c).2) := by
  rw [rotFlagsZ, h, rotZ_eq, shiftZ_eq]

theorem accRotZ_eq (op : ZAccRot) (t : State) (v : Byte) (f : ZFlags) :
    accRotZ op (freeBits t) v f =
      ((zRotated (accRotOf op) v f.c).1, free35 t { f with h := false, n := false, c := (zRotated (accRotOf op) v f.c).2 }) := by
  cases op <;> simp only [accRotZ, rotZ_eq, undef35_eq, accRotOf]

theorem bitZ_eq (t : State) (v : Byte) (b : Nat) (f : ZFlags) :
    bitZ (freeBits t) v b f = free35 t { f with
      s := freeFlag t 7
      z := !v.getLsbD b
      h := true
      pv := freeFlag t 2
      n := false } := rfl

theorem setBitZ_eq (b : Nat) (h : b < 8) (v : Byte) :
    setBitZ b v = BitVec.ofNat 8 (if v.getLsbD b then v.toNat else v.toNat + 2 ^ b) := by
  have : ∀ b : Fin 8, ∀ v : Byte, setBitZ b v = BitVec.ofNat 8 (if v.getLsbD b then v.toNat else v.toNat + 2 ^ b.val) := by
    decide
  exact this ⟨b, h⟩ v

theorem resBitZ_eq (b : Nat) (h : b < 8) (v : Byte) :
    resBitZ b v = BitVec.ofNat 8 (if v.getLsbD b then v.toNat - 2 ^ b else v.toNat) := by
  have : ∀ b : Fin 8, ∀ v : Byte, resBitZ b v = BitVec.ofNat 8 (if v.getLsbD b then v.toNat - 2 ^ b.val else v.toNat) := by
    decide
  exact this ⟨b, h⟩ v

theorem irFlagsZ_eq (t : State) (v : Byte) (iff2 : Bool) (f : ZFlags) :
    irFlagsZ (freeBits t) v iff2 f = free35 t { withSZ v f with h := false, n := false, pv := iff2 } := by
  rw [irFlagsZ, setSZ_eq, undef35_eq]; rfl

theorem holds_iff (k : CC) (f : ZFlags) : k.holds f = true ↔ conditionHolds k f := by
  cases k <;> simp [CC.holds, conditionHolds]

theorem move_eq (d : Dir) (w : Word) : d.move w = stepped d w := by
  cases d
  · exact word_succ w
  · exact word_pred w

theorem zRepeat_eq (again : Bool) (s t : State) : zRepeat again s t = repeats again s t := rfl

end Sys2Proof.Machine
end

