-- ==== Sys2Proof/Laws/Operands.lean ====
section
/-! SUPPORT. Operands by shape: what an effective address is in exact arithmetic, that finding an operand writes no register,
and the ranges of the numbers a shape carries. -/

namespace Sys2Proof

open Machine

/-- The bit numbers and restart numbers a shape carries are in range. -/
def View.numbersFit : View → Bool
  | .z (.bit b _) => decide (b < 8)
  | .z (.setB b _) => decide (b < 8)
  | .z (.resB b _) => decide (b < 8)
  | .z (.rst y) => decide (y < 8)
  | _ => true

theorem view_numbersFit (i : Instr) : i.view.numbersFit = true := by cases i <;> rfl

theorem view_bit_lt {i : Instr} {b : Nat} {t : ZTgt} (h : i.view = .z (.bit b t)) : b < 8 := by
  have := view_numbersFit i; rw [h] at this; exact of_decide_eq_true this

theorem view_setB_lt {i : Instr} {b : Nat} {t : ZTgt} (h : i.view = .z (.setB b t)) : b < 8 := by
  have := view_numbersFit i; rw [h] at this; exact of_decide_eq_true this

theorem view_resB_lt {i : Instr} {b : Nat} {t : ZTgt} (h : i.view = .z (.resB b t)) : b < 8 := by
  have := view_numbersFit i; rw [h] at this; exact of_decide_eq_true this

theorem view_rst_lt {i : Instr} {y : Nat} (h : i.view = .z (.rst y)) : y < 8 := by
  have := view_numbersFit i; rw [h] at this; exact of_decide_eq_true this

namespace Machine

theorem zext_eq (b : Byte) : zext b = BitVec.ofNat 16 b.toNat := by
  apply BitVec.eq_of_toNat_eq
  have := b.isLt
  simp [zext]

theorem zext_add (a b : Byte) : zext (a + b) = BitVec.ofNat 16 ((a.toNat + b.toNat) % 256) := by
  rw [zext_eq, BitVec.toNat_add]

/-- A pointer in page zero wraps within it (R118, R119). -/
theorem zpPointer_eq (p : Byte) (s : State) :
    zpPointer p s =
      (let lo := memRead (BitVec.ofNat 16 p.toNat) s
       let hi := memRead (BitVec.ofNat 16 ((p.toNat + 1) % 256)) lo.2
       (BitVec.ofNat 16 (lo.1.toNat + 256 * hi.1.toNat), hi.2)) := by
  simp only [zpPointer, zext_eq, word_eq, BitVec.toNat_add]
  rfl

/-- An indexed address and whether the index crosses a page (R117, R119). -/
theorem indexed_eq (lo hi x : Byte) (s : State) :
    indexed (BitVec.ofNat 16 (lo.toNat + 256 * hi.toNat)) x s =
      ⟨BitVec.ofNat 16 (lo.toNat + 256 * hi.toNat + x.toNat), decide (255 < lo.toNat + x.toNat), s⟩ := by
  rw [indexed, ← word_eq, lo8_word, word_eq, zext_eq]
  congr 1
  apply BitVec.eq_of_toNat_eq
  simp [BitVec.toNat_add]

@[simp] theorem zpPointer_m (p : Byte) (s : State) : (zpPointer p s).2.m = s.m := by simp [zpPointer]

@[simp] theorem ea_m (md : MMode) (s : State) : (md.ea s).st.m = s.m := by cases md <;> simp [MMode.ea, indexed]

@[simp] theorem ea_z (md : MMode) (s : State) : (md.ea s).st.z = s.z := by
  cases md <;> simp [MMode.ea, indexed, zpPointer]

@[simp] theorem zOperand_z (src : ZSrc) (t : State) : (zOperand src t).2.z = t.z := by cases src <;> simp [zOperand]

@[simp] theorem zTarget_z (tgt : ZTgt) (t : State) : (zTarget tgt t).2.z = t.z := by cases tgt <;> simp [zTarget]

/-- A read-class instruction of the M6502, whatever its operand form. -/
theorem runMRead_eq (c : Nat) (op : MReadOp) (f : MForm) (s : State) :
    runMRead c op f s =
      (let t := beginM (MView.read op f).len c s
       let x := mOperand f t
       { x.2 with time := x.2.time + mExtra f t, m := op.apply x.1 x.2.m }) := by
  cases f with
  | imm b => simp [runMRead, MView.len, mOperand, mExtra, beginM]
  | mem md =>
    by_cases h : (md.ea (beginM md.len c s)).crossed = true <;>
      simp [runMRead, MView.len, mOperand, mExtra, charge, h]

/-- An accumulator operation of the Z80, whatever its operand form. -/
theorem runZAlu_eq (c : Nat) (op : ZAlu) (src : ZSrc) (s : State) :
    runZAlu c op src s =
      (let t := beginZ ((ZView.alu op src).cost c) s
       let x := zOperand src t
       drawn { x.2 with z := op.apply (freeBits x.2) x.1 x.2.z }) := by
  cases src <;> rfl

theorem bne_zero8 (w : Byte) : (w != 0) = decide (w.toNat ≠ 0) := by
  rw [bne, beq_zero8]; simp

theorem bne_zero16 (w : Word) : (w != 0) = decide (w.toNat ≠ 0) := by
  rw [bne, beq_zero16]; simp

end Machine

end Sys2Proof
end

