-- ==== Sys2Proof/Laws/PerInstr.lean ====
section
/-! SUPPORT. Statements about every instruction as syntax, one lemma per constructor: the length of its encoding, and the entry
of the spec's own `CYC` tables that its opcode names. -/

namespace Sys2Proof.Laws.EncodingLength

/-- An encoding has the length the opcode table gives, one to four bytes (R111), and the spec's table of cycles has the cost
the opcode table gives at the opcode the encoding names (R124, R139). -/
def Statement (i : Instr) : Prop :=
  (encode i).length = i.row.len ∧ 1 ≤ i.row.len ∧ i.row.len ≤ 4 ∧ i.cyc (Config.machineOf i.family) = i.row.cyc

theorem mBrk : Statement .mBrk :=
  ⟨rfl, Nat.le_of_ble_eq_true rfl, Nat.le_of_ble_eq_true rfl, (rfl : Config.cycM6502.cost .main 0x00 = 7)⟩
theorem mOraIzx (b1 : Byte) : Statement (.mOraIzx b1) :=
  ⟨rfl, Nat.le_of_ble_eq_true rfl, Nat.le_of_ble_eq_true rfl, (rfl : Config.cycM6502.cost .main 0x01 = 6)⟩
theorem mOraZp (b1 : Byte) : Statement (.mOraZp b1) :=
  ⟨rfl, Nat.le_of_ble_eq_true rfl, Nat.le_of_ble_eq_true rfl, (rfl : Config.cycM6502.cost .main 0x05 = 3)⟩
theorem mAslZp (b1 : Byte) : Statement (.mAslZp b1) :=
  ⟨rfl, Nat.le_of_ble_eq_true rfl, Nat.le_of_ble_eq_true rfl, (rfl : Config.cycM6502.cost .main 0x06 = 5)⟩
theorem mPhp : Statement .mPhp :=
  ⟨rfl, Nat.le_of_ble_eq_true rfl, Nat.le_of_ble_eq_true rfl, (rfl : Config.cycM6502.cost .main 0x08 = 3)⟩
theorem mOraImm (b1 : Byte) : Statement (.mOraImm b1) :=
  ⟨rfl, Nat.le_of_ble_eq_true rfl, Nat.le_of_ble_eq_true rfl, (rfl : Config.cycM6502.cost .main 0x09 = 2)⟩
theorem mAslAcc : Statement .mAslAcc :=
  ⟨rfl, Nat.le_of_ble_eq_true rfl, Nat.le_of_ble_eq_true rfl, (rfl : Config.cycM6502.cost .main 0x0A = 2)⟩
theorem mOraAbs (b1 : Byte) (b2 : Byte) : Statement (.mOraAbs b1 b2) :=
  ⟨rfl, Nat.le_of_ble_eq_true rfl, Nat.le_of_ble_eq_true rfl, (rfl : Config.cycM6502.cost .main 0x0D = 4)⟩
theorem mAslAbs (b1 : Byte) (b2 : Byte) : Statement (.mAslAbs b1 b2) :=
  ⟨rfl, Nat.le_of_ble_eq_true rfl, Nat.le_of_ble_eq_true rfl, (rfl : Config.cycM6502.cost .main 0x0E = 6)⟩
theorem mBpl (b1 : Byte) : Statement (.mBpl b1) :=
  ⟨rfl, Nat.le_of_ble_eq_true rfl, Nat.le_of_ble_eq_true rfl, (rfl : Config.cycM6502.cost .main 0x10 = 2)⟩
theorem mOraIzy (b1 : Byte) : Statement (.mOraIzy b1) :=
  ⟨rfl, Nat.le_of_ble_eq_true rfl, Nat.le_of_ble_eq_true rfl, (rfl : Config.cycM6502.cost .main 0x11 = 5)⟩
theorem mOraZpx (b1 : Byte) : Statement (.mOraZpx b1) :=
  ⟨rfl, Nat.le_of_ble_eq_true rfl, Nat.le_of_ble_eq_true rfl, (rfl : Config.cycM6502.cost .main 0x15 = 4)⟩
theorem mAslZpx (b1 : Byte) : Statement (.mAslZpx b1) :=
  ⟨rfl, Nat.le_of_ble_eq_true rfl, Nat.le_of_ble_eq_true rfl, (rfl : Config.cycM6502.cost .main 0x16 = 6)⟩
theorem mClc : Statement .mClc :=
  ⟨rfl, Nat.le_of_ble_eq_true rfl, Nat.le_of_ble_eq_true rfl, (rfl : Config.cycM6502.cost .main 0x18 = 2)⟩
theorem mOraAby (b1 : Byte) (b2 : Byte) : Statement (.mOraAby b1 b2) :=
  ⟨rfl, Nat.le_of_ble_eq_true rfl, Nat.le_of_ble_eq_true rfl, (rfl : Config.cycM6502.cost .main 0x19 = 4)⟩
theorem mOraAbx (b1 : Byte) (b2 : Byte) : Statement (.mOraAbx b1 b2) :=
  ⟨rfl, Nat.le_of_ble_eq_true rfl, Nat.le_of_ble_eq_true rfl, (rfl : Config.cycM6502.cost .main 0x1D = 4)⟩
theorem mAslAbx (b1 : Byte) (b2 : Byte) : Statement (.mAslAbx b1 b2) :=
  ⟨rfl, Nat.le_of_ble_eq_true rfl, Nat.le_of_ble_eq_true rfl, (rfl : Config.cycM6502.cost .main 0x1E = 7)⟩
theorem mJsr (b1 : Byte) (b2 : Byte) : Statement (.mJsr b1 b2) :=
  ⟨rfl, Nat.le_of_ble_eq_true rfl, Nat.le_of_ble_eq_true rfl, (rfl : Config.cycM6502.cost .main 0x20 = 6)⟩
theorem mAndIzx (b1 : Byte) : Statement (.mAndIzx b1) :=
  ⟨rfl, Nat.le_of_ble_eq_true rfl, Nat.le_of_ble_eq_true rfl, (rfl : Config.cycM6502.cost .main 0x21 = 6)⟩
theorem mHaltSentinel : Statement .mHaltSentinel :=
  ⟨rfl, Nat.le_of_ble_eq_true rfl, Nat.le_of_ble_eq_true rfl, (rfl : Config.cycM6502.cost .main 0x22 = 0)⟩
theorem mBitZp (b1 : Byte) : Statement (.mBitZp b1) :=
  ⟨rfl, Nat.le_of_ble_eq_true rfl, Nat.le_of_ble_eq_true rfl, (rfl : Config.cycM6502.cost .main 0x24 = 3)⟩
theorem mAndZp (b1 : Byte) : Statement (.mAndZp b1) :=
  ⟨rfl, Nat.le_of_ble_eq_true rfl, Nat.le_of_ble_eq_true rfl, (rfl : Config.cycM6502.cost .main 0x25 = 3)⟩
theorem mRolZp (b1 : Byte) : Statement (.mRolZp b1) :=
  ⟨rfl, Nat.le_of_ble_eq_true rfl, Nat.le_of_ble_eq_true rfl, (rfl : Config.cycM6502.cost .main 0x26 = 5)⟩
theorem mPlp : Statement .mPlp :=
  ⟨rfl, Nat.le_of_ble_eq_true rfl, Nat.le_of_ble_eq_true rfl, (rfl : Config.cycM6502.cost .main 0x28 = 4)⟩
theorem mAndImm (b1 : Byte) : Statement (.mAndImm b1) :=
  ⟨rfl, Nat.le_of_ble_eq_true rfl, Nat.le_of_ble_eq_true rfl, (rfl : Config.cycM6502.cost .main 0x29 = 2)⟩
theorem mRolAcc : Statement .mRolAcc :=
  ⟨rfl, Nat.le_of_ble_eq_true rfl, Nat.le_of_ble_eq_true rfl, (rfl : Config.cycM6502.cost .main 0x2A = 2)⟩
theorem mBitAbs (b1 : Byte) (b2 : Byte) : Statement (.mBitAbs b1 b2) :=
  ⟨rfl, Nat.le_of_ble_eq_true rfl, Nat.le_of_ble_eq_true rfl, (rfl : Config.cycM6502.cost .main 0x2C = 4)⟩
theorem mAndAbs (b1 : Byte) (b2 : Byte) : Statement (.mAndAbs b1 b2) :=
  ⟨rfl, Nat.le_of_ble_eq_true rfl, Nat.le_of_ble_eq_true rfl, (rfl : Config.cycM6502.cost .main 0x2D = 4)⟩
theorem mRolAbs (b1 : Byte) (b2 : Byte) : Statement (.mRolAbs b1 b2) :=
  ⟨rfl, Nat.le_of_ble_eq_true rfl, Nat.le_of_ble_eq_true rfl, (rfl : Config.cycM6502.cost .main 0x2E = 6)⟩
theorem mBmi (b1 : Byte) : Statement (.mBmi b1) :=
  ⟨rfl, Nat.le_of_ble_eq_true rfl, Nat.le_of_ble_eq_true rfl, (rfl : Config.cycM6502.cost .main 0x30 = 2)⟩
theorem mAndIzy (b1 : Byte) : Statement (.mAndIzy b1) :=
  ⟨rfl, Nat.le_of_ble_eq_true rfl, Nat.le_of_ble_eq_true rfl, (rfl : Config.cycM6502.cost .main 0x31 = 5)⟩
theorem mAndZpx (b1 : Byte) : Statement (.mAndZpx b1) :=
  ⟨rfl, Nat.le_of_ble_eq_true rfl, Nat.le_of_ble_eq_true rfl, (rfl : Config.cycM6502.cost .main 0x35 = 4)⟩
theorem mRolZpx (b1 : Byte) : Statement (.mRolZpx b1) :=
  ⟨rfl, Nat.le_of_ble_eq_true rfl, Nat.le_of_ble_eq_true rfl, (rfl : Config.cycM6502.cost .main 0x36 = 6)⟩
theorem mSec : Statement .mSec :=
  ⟨rfl, Nat.le_of_ble_eq_true rfl, Nat.le_of_ble_eq_true rfl, (rfl : Config.cycM6502.cost .main 0x38 = 2)⟩
theorem mAndAby (b1 : Byte) (b2 : Byte) : Statement (.mAndAby b1 b2) :=
  ⟨rfl, Nat.le_of_ble_eq_true rfl, Nat.le_of_ble_eq_true rfl, (rfl : Config.cycM6502.cost .main 0x39 = 4)⟩
theorem mAndAbx (b1 : Byte) (b2 : Byte) : Statement (.mAndAbx b1 b2) :=
  ⟨rfl, Nat.le_of_ble_eq_true rfl, Nat.le_of_ble_eq_true rfl, (rfl : Config.cycM6502.cost .main 0x3D = 4)⟩
theorem mRolAbx (b1 : Byte) (b2 : Byte) : Statement (.mRolAbx b1 b2) :=
  ⟨rfl, Nat.le_of_ble_eq_true rfl, Nat.le_of_ble_eq_true rfl, (rfl : Config.cycM6502.cost .main 0x3E = 7)⟩
theorem mRti : Statement .mRti :=
  ⟨rfl, Nat.le_of_ble_eq_true rfl, Nat.le_of_ble_eq_true rfl, (rfl : Config.cycM6502.cost .main 0x40 = 6)⟩
theorem mEorIzx (b1 : Byte) : Statement (.mEorIzx b1) :=
  ⟨rfl, Nat.le_of_ble_eq_true rfl, Nat.le_of_ble_eq_true rfl, (rfl : Config.cycM6502.cost .main 0x41 = 6)⟩
theorem mEorZp (b1 : Byte) : Statement (.mEorZp b1) :=
  ⟨rfl, Nat.le_of_ble_eq_true rfl, Nat.le_of_ble_eq_true rfl, (rfl : Config.cycM6502.cost .main 0x45 = 3)⟩
theorem mLsrZp (b1 : Byte) : Statement (.mLsrZp b1) :=
  ⟨rfl, Nat.le_of_ble_eq_true rfl, Nat.le_of_ble_eq_true rfl, (rfl : Config.cycM6502.cost .main 0x46 = 5)⟩
theorem mPha : Statement .mPha :=
  ⟨rfl, Nat.le_of_ble_eq_true rfl, Nat.le_of_ble_eq_true rfl, (rfl : Config.cycM6502.cost .main 0x48 = 3)⟩
theorem mEorImm (b1 : Byte) : Statement (.mEorImm b1) :=
  ⟨rfl, Nat.le_of_ble_eq_true rfl, Nat.le_of_ble_eq_true rfl, (rfl : Config.cycM6502.cost .main 0x49 = 2)⟩
theorem mLsrAcc : Statement .mLsrAcc :=
  ⟨rfl, Nat.le_of_ble_eq_true rfl, Nat.le_of_ble_eq_true rfl, (rfl : Config.cycM6502.cost .main 0x4A = 2)⟩
theorem mJmpAbs (b1 : Byte) (b2 : Byte) : Statement (.mJmpAbs b1 b2) :=
  ⟨rfl, Nat.le_of_ble_eq_true rfl, Nat.le_of_ble_eq_true rfl, (rfl : Config.cycM6502.cost .main 0x4C = 3)⟩
theorem mEorAbs (b1 : Byte) (b2 : Byte) : Statement (.mEorAbs b1 b2) :=
  ⟨rfl, Nat.le_of_ble_eq_true rfl, Nat.le_of_ble_eq_true rfl, (rfl : Config.cycM6502.cost .main 0x4D = 4)⟩
theorem mLsrAbs (b1 : Byte) (b2 : Byte) : Statement (.mLsrAbs b1 b2) :=
  ⟨rfl, Nat.le_of_ble_eq_true rfl, Nat.le_of_ble_eq_true rfl, (rfl : Config.cycM6502.cost .main 0x4E = 6)⟩
theorem mBvc (b1 : Byte) : Statement (.mBvc b1) :=
  ⟨rfl, Nat.le_of_ble_eq_true rfl, Nat.le_of_ble_eq_true rfl, (rfl : Config.cycM6502.cost .main 0x50 = 2)⟩
theorem mEorIzy (b1 : Byte) : Statement (.mEorIzy b1) :=
  ⟨rfl, Nat.le_of_ble_eq_true rfl, Nat.le_of_ble_eq_true rfl, (rfl : Config.cycM6502.cost .main 0x51 = 5)⟩
theorem mEorZpx (b1 : Byte) : Statement (.mEorZpx b1) :=
  ⟨rfl, Nat.le_of_ble_eq_true rfl, Nat.le_of_ble_eq_true rfl, (rfl : Config.cycM6502.cost .main 0x55 = 4)⟩
theorem mLsrZpx (b1 : Byte) : Statement (.mLsrZpx b1) :=
  ⟨rfl, Nat.le_of_ble_eq_true rfl, Nat.le_of_ble_eq_true rfl, (rfl : Config.cycM6502.cost .main 0x56 = 6)⟩
theorem mCli : Statement .mCli :=
  ⟨rfl, Nat.le_of_ble_eq_true rfl, Nat.le_of_ble_eq_true rfl, (rfl : Config.cycM6502.cost .main 0x58 = 2)⟩
theorem mEorAby (b1 : Byte) (b2 : Byte) : Statement (.mEorAby b1 b2) :=
  ⟨rfl, Nat.le_of_ble_eq_true rfl, Nat.le_of_ble_eq_true rfl, (rfl : Config.cycM6502.cost .main 0x59 = 4)⟩
theorem mEorAbx (b1 : Byte) (b2 : Byte) : Statement (.mEorAbx b1 b2) :=
  ⟨rfl, Nat.le_of_ble_eq_true rfl, Nat.le_of_ble_eq_true rfl, (rfl : Config.cycM6502.cost .main 0x5D = 4)⟩
theorem mLsrAbx (b1 : Byte) (b2 : Byte) : Statement (.mLsrAbx b1 b2) :=
  ⟨rfl, Nat.le_of_ble_eq_true rfl, Nat.le_of_ble_eq_true rfl, (rfl : Config.cycM6502.cost .main 0x5E = 7)⟩
theorem mRts : Statement .mRts :=
  ⟨rfl, Nat.le_of_ble_eq_true rfl, Nat.le_of_ble_eq_true rfl, (rfl : Config.cycM6502.cost .main 0x60 = 6)⟩
theorem mAdcIzx (b1 : Byte) : Statement (.mAdcIzx b1) :=
  ⟨rfl, Nat.le_of_ble_eq_true rfl, Nat.le_of_ble_eq_true rfl, (rfl : Config.cycM6502.cost .main 0x61 = 6)⟩
theorem mAdcZp (b1 : Byte) : Statement (.mAdcZp b1) :=
  ⟨rfl, Nat.le_of_ble_eq_true rfl, Nat.le_of_ble_eq_true rfl, (rfl : Config.cycM6502.cost .main 0x65 = 3)⟩
theorem mRorZp (b1 : Byte) : Statement (.mRorZp b1) :=
  ⟨rfl, Nat.le_of_ble_eq_true rfl, Nat.le_of_ble_eq_true rfl, (rfl : Config.cycM6502.cost .main 0x66 = 5)⟩
theorem mPla : Statement .mPla :=
  ⟨rfl, Nat.le_of_ble_eq_true rfl, Nat.le_of_ble_eq_true rfl, (rfl : Config.cycM6502.cost .main 0x68 = 4)⟩
theorem mAdcImm (b1 : Byte) : Statement (.mAdcImm b1) :=
  ⟨rfl, Nat.le_of_ble_eq_true rfl, Nat.le_of_ble_eq_true rfl, (rfl : Config.cycM6502.cost .main 0x69 = 2)⟩
theorem mRorAcc : Statement .mRorAcc :=
  ⟨rfl, Nat.le_of_ble_eq_true rfl, Nat.le_of_ble_eq_true rfl, (rfl : Config.cycM6502.cost .main 0x6A = 2)⟩
theorem mJmpInd (b1 : Byte) (b2 : Byte) : Statement (.mJmpInd b1 b2) :=
  ⟨rfl, Nat.le_of_ble_eq_true rfl, Nat.le_of_ble_eq_true rfl, (rfl : Config.cycM6502.cost .main 0x6C = 5)⟩
theorem mAdcAbs (b1 : Byte) (b2 : Byte) : Statement (.mAdcAbs b1 b2) :=
  ⟨rfl, Nat.le_of_ble_eq_true rfl, Nat.le_of_ble_eq_true rfl, (rfl : Config.cycM6502.cost .main 0x6D = 4)⟩
theorem mRorAbs (b1 : Byte) (b2 : Byte) : Statement (.mRorAbs b1 b2) :=
  ⟨rfl, Nat.le_of_ble_eq_true rfl, Nat.le_of_ble_eq_true rfl, (rfl : Config.cycM6502.cost .main 0x6E = 6)⟩
theorem mBvs (b1 : Byte) : Statement (.mBvs b1) :=
  ⟨rfl, Nat.le_of_ble_eq_true rfl, Nat.le_of_ble_eq_true rfl, (rfl : Config.cycM6502.cost .main 0x70 = 2)⟩
theorem mAdcIzy (b1 : Byte) : Statement (.mAdcIzy b1) :=
  ⟨rfl, Nat.le_of_ble_eq_true rfl, Nat.le_of_ble_eq_true rfl, (rfl : Config.cycM6502.cost .main 0x71 = 5)⟩
theorem mAdcZpx (b1 : Byte) : Statement (.mAdcZpx b1) :=
  ⟨rfl, Nat.le_of_ble_eq_true rfl, Nat.le_of_ble_eq_true rfl, (rfl : Config.cycM6502.cost .main 0x75 = 4)⟩
theorem mRorZpx (b1 : Byte) : Statement (.mRorZpx b1) :=
  ⟨rfl, Nat.le_of_ble_eq_true rfl, Nat.le_of_ble_eq_true rfl, (rfl : Config.cycM6502.cost .main 0x76 = 6)⟩
theorem mSei : Statement .mSei :=
  ⟨rfl, Nat.le_of_ble_eq_true rfl, Nat.le_of_ble_eq_true rfl, (rfl : Config.cycM6502.cost .main 0x78 = 2)⟩
theorem mAdcAby (b1 : Byte) (b2 : Byte) : Statement (.mAdcAby b1 b2) :=
  ⟨rfl, Nat.le_of_ble_eq_true rfl, Nat.le_of_ble_eq_true rfl, (rfl : Config.cycM6502.cost .main 0x79 = 4)⟩
theorem mAdcAbx (b1 : Byte) (b2 : Byte) : Statement (.mAdcAbx b1 b2) :=
  ⟨rfl, Nat.le_of_ble_eq_true rfl, Nat.le_of_ble_eq_true rfl, (rfl : Config.cycM6502.cost .main 0x7D = 4)⟩
theorem mRorAbx (b1 : Byte) (b2 : Byte) : Statement (.mRorAbx b1 b2) :=
  ⟨rfl, Nat.le_of_ble_eq_true rfl, Nat.le_of_ble_eq_true rfl, (rfl : Config.cycM6502.cost .main 0x7E = 7)⟩
theorem mStaIzx (b1 : Byte) : Statement (.mStaIzx b1) :=
  ⟨rfl, Nat.le_of_ble_eq_true rfl, Nat.le_of_ble_eq_true rfl, (rfl : Config.cycM6502.cost .main 0x81 = 6)⟩
theorem mStyZp (b1 : Byte) : Statement (.mStyZp b1) :=
  ⟨rfl, Nat.le_of_ble_eq_true rfl, Nat.le_of_ble_eq_true rfl, (rfl : Config.cycM6502.cost .main 0x84 = 3)⟩
theorem mStaZp (b1 : Byte) : Statement (.mStaZp b1) :=
  ⟨rfl, Nat.le_of_ble_eq_true rfl, Nat.le_of_ble_eq_true rfl, (rfl : Config.cycM6502.cost .main 0x85 = 3)⟩
theorem mStxZp (b1 : Byte) : Statement (.mStxZp b1) :=
  ⟨rfl, Nat.le_of_ble_eq_true rfl, Nat.le_of_ble_eq_true rfl, (rfl : Config.cycM6502.cost .main 0x86 = 3)⟩
theorem mDey : Statement .mDey :=
  ⟨rfl, Nat.le_of_ble_eq_true rfl, Nat.le_of_ble_eq_true rfl, (rfl : Config.cycM6502.cost .main 0x88 = 2)⟩
theorem mTxa : Statement .mTxa :=
  ⟨rfl, Nat.le_of_ble_eq_true rfl, Nat.le_of_ble_eq_true rfl, (rfl : Config.cycM6502.cost .main 0x8A = 2)⟩
theorem mStyAbs (b1 : Byte) (b2 : Byte) : Statement (.mStyAbs b1 b2) :=
  ⟨rfl, Nat.le_of_ble_eq_true rfl, Nat.le_of_ble_eq_true rfl, (rfl : Config.cycM6502.cost .main 0x8C = 4)⟩
theorem mStaAbs (b1 : Byte) (b2 : Byte) : Statement (.mStaAbs b1 b2) :=
  ⟨rfl, Nat.le_of_ble_eq_true rfl, Nat.le_of_ble_eq_true rfl, (rfl : Config.cycM6502.cost .main 0x8D = 4)⟩
theorem mStxAbs (b1 : Byte) (b2 : Byte) : Statement (.mStxAbs b1 b2) :=
  ⟨rfl, Nat.le_of_ble_eq_true rfl, Nat.le_of_ble_eq_true rfl, (rfl : Config.cycM6502.cost .main 0x8E = 4)⟩
theorem mBcc (b1 : Byte) : Statement (.mBcc b1) :=
  ⟨rfl, Nat.le_of_ble_eq_true rfl, Nat.le_of_ble_eq_true rfl, (rfl : Config.cycM6502.cost .main 0x90 = 2)⟩
theorem mStaIzy (b1 : Byte) : Statement (.mStaIzy b1) :=
  ⟨rfl, Nat.le_of_ble_eq_true rfl, Nat.le_of_ble_eq_true rfl, (rfl : Config.cycM6502.cost .main 0x91 = 6)⟩
theorem mStyZpx (b1 : Byte) : Statement (.mStyZpx b1) :=
  ⟨rfl, Nat.le_of_ble_eq_true rfl, Nat.le_of_ble_eq_true rfl, (rfl : Config.cycM6502.cost .main 0x94 = 4)⟩
theorem mStaZpx (b1 : Byte) : Statement (.mStaZpx b1) :=
  ⟨rfl, Nat.le_of_ble_eq_true rfl, Nat.le_of_ble_eq_true rfl, (rfl : Config.cycM6502.cost .main 0x95 = 4)⟩
theorem mStxZpy (b1 : Byte) : Statement (.mStxZpy b1) :=
  ⟨rfl, Nat.le_of_ble_eq_true rfl, Nat.le_of_ble_eq_true rfl, (rfl : Config.cycM6502.cost .main 0x96 = 4)⟩
theorem mTya : Statement .mTya :=
  ⟨rfl, Nat.le_of_ble_eq_true rfl, Nat.le_of_ble_eq_true rfl, (rfl : Config.cycM6502.cost .main 0x98 = 2)⟩
theorem mStaAby (b1 : Byte) (b2 : Byte) : Statement (.mStaAby b1 b2) :=
  ⟨rfl, Nat.le_of_ble_eq_true rfl, Nat.le_of_ble_eq_true rfl, (rfl : Config.cycM6502.cost .main 0x99 = 5)⟩
theorem mTxs : Statement .mTxs :=
  ⟨rfl, Nat.le_of_ble_eq_true rfl, Nat.le_of_ble_eq_true rfl, (rfl : Config.cycM6502.cost .main 0x9A = 2)⟩
theorem mStaAbx (b1 : Byte) (b2 : Byte) : Statement (.mStaAbx b1 b2) :=
  ⟨rfl, Nat.le_of_ble_eq_true rfl, Nat.le_of_ble_eq_true rfl, (rfl : Config.cycM6502.cost .main 0x9D = 5)⟩
theorem mLdyImm (b1 : Byte) : Statement (.mLdyImm b1) :=
  ⟨rfl, Nat.le_of_ble_eq_true rfl, Nat.le_of_ble_eq_true rfl, (rfl : Config.cycM6502.cost .main 0xA0 = 2)⟩
theorem mLdaIzx (b1 : Byte) : Statement (.mLdaIzx b1) :=
  ⟨rfl, Nat.le_of_ble_eq_true rfl, Nat.le_of_ble_eq_true rfl, (rfl : Config.cycM6502.cost .main 0xA1 = 6)⟩
theorem mLdxImm (b1 : Byte) : Statement (.mLdxImm b1) :=
  ⟨rfl, Nat.le_of_ble_eq_true rfl, Nat.le_of_ble_eq_true rfl, (rfl : Config.cycM6502.cost .main 0xA2 = 2)⟩
theorem mLdyZp (b1 : Byte) : Statement (.mLdyZp b1) :=
  ⟨rfl, Nat.le_of_ble_eq_true rfl, Nat.le_of_ble_eq_true rfl, (rfl : Config.cycM6502.cost .main 0xA4 = 3)⟩
theorem mLdaZp (b1 : Byte) : Statement (.mLdaZp b1) :=
  ⟨rfl, Nat.le_of_ble_eq_true rfl, Nat.le_of_ble_eq_true rfl, (rfl : Config.cycM6502.cost .main 0xA5 = 3)⟩
theorem mLdxZp (b1 : Byte) : Statement (.mLdxZp b1) :=
  ⟨rfl, Nat.le_of_ble_eq_true rfl, Nat.le_of_ble_eq_true rfl, (rfl : Config.cycM6502.cost .main 0xA6 = 3)⟩
theorem mTay : Statement .mTay :=
  ⟨rfl, Nat.le_of_ble_eq_true rfl, Nat.le_of_ble_eq_true rfl, (rfl : Config.cycM6502.cost .main 0xA8 = 2)⟩
theorem mLdaImm (b1 : Byte) : Statement (.mLdaImm b1) :=
  ⟨rfl, Nat.le_of_ble_eq_true rfl, Nat.le_of_ble_eq_true rfl, (rfl : Config.cycM6502.cost .main 0xA9 = 2)⟩
theorem mTax : Statement .mTax :=
  ⟨rfl, Nat.le_of_ble_eq_true rfl, Nat.le_of_ble_eq_true rfl, (rfl : Config.cycM6502.cost .main 0xAA = 2)⟩
theorem mLdyAbs (b1 : Byte) (b2 : Byte) : Statement (.mLdyAbs b1 b2) :=
  ⟨rfl, Nat.le_of_ble_eq_true rfl, Nat.le_of_ble_eq_true rfl, (rfl : Config.cycM6502.cost .main 0xAC = 4)⟩
theorem mLdaAbs (b1 : Byte) (b2 : Byte) : Statement (.mLdaAbs b1 b2) :=
  ⟨rfl, Nat.le_of_ble_eq_true rfl, Nat.le_of_ble_eq_true rfl, (rfl : Config.cycM6502.cost .main 0xAD = 4)⟩
theorem mLdxAbs (b1 : Byte) (b2 : Byte) : Statement (.mLdxAbs b1 b2) :=
  ⟨rfl, Nat.le_of_ble_eq_true rfl, Nat.le_of_ble_eq_true rfl, (rfl : Config.cycM6502.cost .main 0xAE = 4)⟩
theorem mBcs (b1 : Byte) : Statement (.mBcs b1) :=
  ⟨rfl, Nat.le_of_ble_eq_true rfl, Nat.le_of_ble_eq_true rfl, (rfl : Config.cycM6502.cost .main 0xB0 = 2)⟩
theorem mLdaIzy (b1 : Byte) : Statement (.mLdaIzy b1) :=
  ⟨rfl, Nat.le_of_ble_eq_true rfl, Nat.le_of_ble_eq_true rfl, (rfl : Config.cycM6502.cost .main 0xB1 = 5)⟩
theorem mLdyZpx (b1 : Byte) : Statement (.mLdyZpx b1) :=
  ⟨rfl, Nat.le_of_ble_eq_true rfl, Nat.le_of_ble_eq_true rfl, (rfl : Config.cycM6502.cost .main 0xB4 = 4)⟩
theorem mLdaZpx (b1 : Byte) : Statement (.mLdaZpx b1) :=
  ⟨rfl, Nat.le_of_ble_eq_true rfl, Nat.le_of_ble_eq_true rfl, (rfl : Config.cycM6502.cost .main 0xB5 = 4)⟩
theorem mLdxZpy (b1 : Byte) : Statement (.mLdxZpy b1) :=
  ⟨rfl, Nat.le_of_ble_eq_true rfl, Nat.le_of_ble_eq_true rfl, (rfl : Config.cycM6502.cost .main 0xB6 = 4)⟩
theorem mClv : Statement .mClv :=
  ⟨rfl, Nat.le_of_ble_eq_true rfl, Nat.le_of_ble_eq_true rfl, (rfl : Config.cycM6502.cost .main 0xB8 = 2)⟩
theorem mLdaAby (b1 : Byte) (b2 : Byte) : Statement (.mLdaAby b1 b2) :=
  ⟨rfl, Nat.le_of_ble_eq_true rfl, Nat.le_of_ble_eq_true rfl, (rfl : Config.cycM6502.cost .main 0xB9 = 4)⟩
theorem mTsx : Statement .mTsx :=
  ⟨rfl, Nat.le_of_ble_eq_true rfl, Nat.le_of_ble_eq_true rfl, (rfl : Config.cycM6502.cost .main 0xBA = 2)⟩
theorem mLdyAbx (b1 : Byte) (b2 : Byte) : Statement (.mLdyAbx b1 b2) :=
  ⟨rfl, Nat.le_of_ble_eq_true rfl, Nat.le_of_ble_eq_true rfl, (rfl : Config.cycM6502.cost .main 0xBC = 4)⟩
theorem mLdaAbx (b1 : Byte) (b2 : Byte) : Statement (.mLdaAbx b1 b2) :=
  ⟨rfl, Nat.le_of_ble_eq_true rfl, Nat.le_of_ble_eq_true rfl, (rfl : Config.cycM6502.cost .main 0xBD = 4)⟩
theorem mLdxAby (b1 : Byte) (b2 : Byte) : Statement (.mLdxAby b1 b2) :=
  ⟨rfl, Nat.le_of_ble_eq_true rfl, Nat.le_of_ble_eq_true rfl, (rfl : Config.cycM6502.cost .main 0xBE = 4)⟩
theorem mCpyImm (b1 : Byte) : Statement (.mCpyImm b1) :=
  ⟨rfl, Nat.le_of_ble_eq_true rfl, Nat.le_of_ble_eq_true rfl, (rfl : Config.cycM6502.cost .main 0xC0 = 2)⟩
theorem mCmpIzx (b1 : Byte) : Statement (.mCmpIzx b1) :=
  ⟨rfl, Nat.le_of_ble_eq_true rfl, Nat.le_of_ble_eq_true rfl, (rfl : Config.cycM6502.cost .main 0xC1 = 6)⟩
theorem mCpyZp (b1 : Byte) : Statement (.mCpyZp b1) :=
  ⟨rfl, Nat.le_of_ble_eq_true rfl, Nat.le_of_ble_eq_true rfl, (rfl : Config.cycM6502.cost .main 0xC4 = 3)⟩
theorem mCmpZp (b1 : Byte) : Statement (.mCmpZp b1) :=
  ⟨rfl, Nat.le_of_ble_eq_true rfl, Nat.le_of_ble_eq_true rfl, (rfl : Config.cycM6502.cost .main 0xC5 = 3)⟩
theorem mDecZp (b1 : Byte) : Statement (.mDecZp b1) :=
  ⟨rfl, Nat.le_of_ble_eq_true rfl, Nat.le_of_ble_eq_true rfl, (rfl : Config.cycM6502.cost .main 0xC6 = 5)⟩
theorem mIny : Statement .mIny :=
  ⟨rfl, Nat.le_of_ble_eq_true rfl, Nat.le_of_ble_eq_true rfl, (rfl : Config.cycM6502.cost .main 0xC8 = 2)⟩
theorem mCmpImm (b1 : Byte) : Statement (.mCmpImm b1) :=
  ⟨rfl, Nat.le_of_ble_eq_true rfl, Nat.le_of_ble_eq_true rfl, (rfl : Config.cycM6502.cost .main 0xC9 = 2)⟩
theorem mDex : Statement .mDex :=
  ⟨rfl, Nat.le_of_ble_eq_true rfl, Nat.le_of_ble_eq_true rfl, (rfl : Config.cycM6502.cost .main 0xCA = 2)⟩
theorem mCpyAbs (b1 : Byte) (b2 : Byte) : Statement (.mCpyAbs b1 b2) :=
  ⟨rfl, Nat.le_of_ble_eq_true rfl, Nat.le_of_ble_eq_true rfl, (rfl : Config.cycM6502.cost .main 0xCC = 4)⟩
theorem mCmpAbs (b1 : Byte) (b2 : Byte) : Statement (.mCmpAbs b1 b2) :=
  ⟨rfl, Nat.le_of_ble_eq_true rfl, Nat.le_of_ble_eq_true rfl, (rfl : Config.cycM6502.cost .main 0xCD = 4)⟩
theorem mDecAbs (b1 : Byte) (b2 : Byte) : Statement (.mDecAbs b1 b2) :=
  ⟨rfl, Nat.le_of_ble_eq_true rfl, Nat.le_of_ble_eq_true rfl, (rfl : Config.cycM6502.cost .main 0xCE = 6)⟩
theorem mBne (b1 : Byte) : Statement (.mBne b1) :=
  ⟨rfl, Nat.le_of_ble_eq_true rfl, Nat.le_of_ble_eq_true rfl, (rfl : Config.cycM6502.cost .main 0xD0 = 2)⟩
theorem mCmpIzy (b1 : Byte) : Statement (.mCmpIzy b1) :=
  ⟨rfl, Nat.le_of_ble_eq_true rfl, Nat.le_of_ble_eq_true rfl, (rfl : Config.cycM6502.cost .main 0xD1 = 5)⟩
theorem mCmpZpx (b1 : Byte) : Statement (.mCmpZpx b1) :=
  ⟨rfl, Nat.le_of_ble_eq_true rfl, Nat.le_of_ble_eq_true rfl, (rfl : Config.cycM6502.cost .main 0xD5 = 4)⟩
theorem mDecZpx (b1 : Byte) : Statement (.mDecZpx b1) :=
  ⟨rfl, Nat.le_of_ble_eq_true rfl, Nat.le_of_ble_eq_true rfl, (rfl : Config.cycM6502.cost .main 0xD6 = 6)⟩
theorem mCld : Statement .mCld :=
  ⟨rfl, Nat.le_of_ble_eq_true rfl, Nat.le_of_ble_eq_true rfl, (rfl : Config.cycM6502.cost .main 0xD8 = 2)⟩
theorem mCmpAby (b1 : Byte) (b2 : Byte) : Statement (.mCmpAby b1 b2) :=
  ⟨rfl, Nat.le_of_ble_eq_true rfl, Nat.le_of_ble_eq_true rfl, (rfl : Config.cycM6502.cost .main 0xD9 = 4)⟩
theorem mCmpAbx (b1 : Byte) (b2 : Byte) : Statement (.mCmpAbx b1 b2) :=
  ⟨rfl, Nat.le_of_ble_eq_true rfl, Nat.le_of_ble_eq_true rfl, (rfl : Config.cycM6502.cost .main 0xDD = 4)⟩
theorem mDecAbx (b1 : Byte) (b2 : Byte) : Statement (.mDecAbx b1 b2) :=
  ⟨rfl, Nat.le_of_ble_eq_true rfl, Nat.le_of_ble_eq_true rfl, (rfl : Config.cycM6502.cost .main 0xDE = 7)⟩
theorem mCpxImm (b1 : Byte) : Statement (.mCpxImm b1) :=
  ⟨rfl, Nat.le_of_ble_eq_true rfl, Nat.le_of_ble_eq_true rfl, (rfl : Config.cycM6502.cost .main 0xE0 = 2)⟩
theorem mSbcIzx (b1 : Byte) : Statement (.mSbcIzx b1) :=
  ⟨rfl, Nat.le_of_ble_eq_true rfl, Nat.le_of_ble_eq_true rfl, (rfl : Config.cycM6502.cost .main 0xE1 = 6)⟩
theorem mCpxZp (b1 : Byte) : Statement (.mCpxZp b1) :=
  ⟨rfl, Nat.le_of_ble_eq_true rfl, Nat.le_of_ble_eq_true rfl, (rfl : Config.cycM6502.cost .main 0xE4 = 3)⟩
theorem mSbcZp (b1 : Byte) : Statement (.mSbcZp b1) :=
  ⟨rfl, Nat.le_of_ble_eq_true rfl, Nat.le_of_ble_eq_true rfl, (rfl : Config.cycM6502.cost .main 0xE5 = 3)⟩
theorem mIncZp (b1 : Byte) : Statement (.mIncZp b1) :=
  ⟨rfl, Nat.le_of_ble_eq_true rfl, Nat.le_of_ble_eq_true rfl, (rfl : Config.cycM6502.cost .main 0xE6 = 5)⟩
theorem mInx : Statement .mInx :=
  ⟨rfl, Nat.le_of_ble_eq_true rfl, Nat.le_of_ble_eq_true rfl, (rfl : Config.cycM6502.cost .main 0xE8 = 2)⟩
theorem mSbcImm (b1 : Byte) : Statement (.mSbcImm b1) :=
  ⟨rfl, Nat.le_of_ble_eq_true rfl, Nat.le_of_ble_eq_true rfl, (rfl : Config.cycM6502.cost .main 0xE9 = 2)⟩
theorem mNop : Statement .mNop :=
  ⟨rfl, Nat.le_of_ble_eq_true rfl, Nat.le_of_ble_eq_true rfl, (rfl : Config.cycM6502.cost .main 0xEA = 2)⟩
theorem mCpxAbs (b1 : Byte) (b2 : Byte) : Statement (.mCpxAbs b1 b2) :=
  ⟨rfl, Nat.le_of_ble_eq_true rfl, Nat.le_of_ble_eq_true rfl, (rfl : Config.cycM6502.cost .main 0xEC = 4)⟩
theorem mSbcAbs (b1 : Byte) (b2 : Byte) : Statement (.mSbcAbs b1 b2) :=
  ⟨rfl, Nat.le_of_ble_eq_true rfl, Nat.le_of_ble_eq_true rfl, (rfl : Config.cycM6502.cost .main 0xED = 4)⟩
theorem mIncAbs (b1 : Byte) (b2 : Byte) : Statement (.mIncAbs b1 b2) :=
  ⟨rfl, Nat.le_of_ble_eq_true rfl, Nat.le_of_ble_eq_true rfl, (rfl : Config.cycM6502.cost .main 0xEE = 6)⟩
theorem mBeq (b1 : Byte) : Statement (.mBeq b1) :=
  ⟨rfl, Nat.le_of_ble_eq_true rfl, Nat.le_of_ble_eq_true rfl, (rfl : Config.cycM6502.cost .main 0xF0 = 2)⟩
theorem mSbcIzy (b1 : Byte) : Statement (.mSbcIzy b1) :=
  ⟨rfl, Nat.le_of_ble_eq_true rfl, Nat.le_of_ble_eq_true rfl, (rfl : Config.cycM6502.cost .main 0xF1 = 5)⟩
theorem mSbcZpx (b1 : Byte) : Statement (.mSbcZpx b1) :=
  ⟨rfl, Nat.le_of_ble_eq_true rfl, Nat.le_of_ble_eq_true rfl, (rfl : Config.cycM6502.cost .main 0xF5 = 4)⟩
theorem mIncZpx (b1 : Byte) : Statement (.mIncZpx b1) :=
  ⟨rfl, Nat.le_of_ble_eq_true rfl, Nat.le_of_ble_eq_true rfl, (rfl : Config.cycM6502.cost .main 0xF6 = 6)⟩
theorem mSed : Statement .mSed :=
  ⟨rfl, Nat.le_of_ble_eq_true rfl, Nat.le_of_ble_eq_true rfl, (rfl : Config.cycM6502.cost .main 0xF8 = 2)⟩
theorem mSbcAby (b1 : Byte) (b2 : Byte) : Statement (.mSbcAby b1 b2) :=
  ⟨rfl, Nat.le_of_ble_eq_true rfl, Nat.le_of_ble_eq_true rfl, (rfl : Config.cycM6502.cost .main 0xF9 = 4)⟩
theorem mSbcAbx (b1 : Byte) (b2 : Byte) : Statement (.mSbcAbx b1 b2) :=
  ⟨rfl, Nat.le_of_ble_eq_true rfl, Nat.le_of_ble_eq_true rfl, (rfl : Config.cycM6502.cost .main 0xFD = 4)⟩
theorem mIncAbx (b1 : Byte) (b2 : Byte) : Statement (.mIncAbx b1 b2) :=
  ⟨rfl, Nat.le_of_ble_eq_true rfl, Nat.le_of_ble_eq_true rfl, (rfl : Config.cycM6502.cost .main 0xFE = 7)⟩
theorem zNop : Statement .zNop :=
  ⟨rfl, Nat.le_of_ble_eq_true rfl, Nat.le_of_ble_eq_true rfl, (rfl : Config.cycZ80.cost .main 0x00 = 4)⟩
theorem zLd_BC_nn (lo : Byte) (hi : Byte) : Statement (.zLd_BC_nn lo hi) :=
  ⟨rfl, Nat.le_of_ble_eq_true rfl, Nat.le_of_ble_eq_true rfl, (rfl : Config.cycZ80.cost .main 0x01 = 10)⟩
theorem zLd_atBC_A : Statement .zLd_atBC_A :=
  ⟨rfl, Nat.le_of_ble_eq_true rfl, Nat.le_of_ble_eq_true rfl, (rfl : Config.cycZ80.cost .main 0x02 = 7)⟩
theorem zInc_BC : Statement .zInc_BC :=
  ⟨rfl, Nat.le_of_ble_eq_true rfl, Nat.le_of_ble_eq_true rfl, (rfl : Config.cycZ80.cost .main 0x03 = 6)⟩
theorem zInc_B : Statement .zInc_B :=
  ⟨rfl, Nat.le_of_ble_eq_true rfl, Nat.le_of_ble_eq_true rfl, (rfl : Config.cycZ80.cost .main 0x04 = 4)⟩
theorem zDec_B : Statement .zDec_B :=
  ⟨rfl, Nat.le_of_ble_eq_true rfl, Nat.le_of_ble_eq_true rfl, (rfl : Config.cycZ80.cost .main 0x05 = 4)⟩
theorem zLd_B_n (n : Byte) : Statement (.zLd_B_n n) :=
  ⟨rfl, Nat.le_of_ble_eq_true rfl, Nat.le_of_ble_eq_true rfl, (rfl : Config.cycZ80.cost .main 0x06 = 7)⟩
theorem zRlca : Statement .zRlca :=
  ⟨rfl, Nat.le_of_ble_eq_true rfl, Nat.le_of_ble_eq_true rfl, (rfl : Config.cycZ80.cost .main 0x07 = 4)⟩
theorem zEx_AF_AFalt : Statement .zEx_AF_AFalt :=
  ⟨rfl, Nat.le_of_ble_eq_true rfl, Nat.le_of_ble_eq_true rfl, (rfl : Config.cycZ80.cost .main 0x08 = 4)⟩
theorem zAdd_HL_BC : Statement .zAdd_HL_BC :=
  ⟨rfl, Nat.le_of_ble_eq_true rfl, Nat.le_of_ble_eq_true rfl, (rfl : Config.cycZ80.cost .main 0x09 = 11)⟩
theorem zLd_A_atBC : Statement .zLd_A_atBC :=
  ⟨rfl, Nat.le_of_ble_eq_true rfl, Nat.le_of_ble_eq_true rfl, (rfl : Config.cycZ80.cost .main 0x0A = 7)⟩
theorem zDec_BC : Statement .zDec_BC :=
  ⟨rfl, Nat.le_of_ble_eq_true rfl, Nat.le_of_ble_eq_true rfl, (rfl : Config.cycZ80.cost .main 0x0B = 6)⟩
theorem zInc_C : Statement .zInc_C :=
  ⟨rfl, Nat.le_of_ble_eq_true rfl, Nat.le_of_ble_eq_true rfl, (rfl : Config.cycZ80.cost .main 0x0C = 4)⟩
theorem zDec_C : Statement .zDec_C :=
  ⟨rfl, Nat.le_of_ble_eq_true rfl, Nat.le_of_ble_eq_true rfl, (rfl : Config.cycZ80.cost .main 0x0D = 4)⟩
theorem zLd_C_n (n : Byte) : Statement (.zLd_C_n n) :=
  ⟨rfl, Nat.le_of_ble_eq_true rfl, Nat.le_of_ble_eq_true rfl, (rfl : Config.cycZ80.cost .main 0x0E = 7)⟩
theorem zRrca : Statement .zRrca :=
  ⟨rfl, Nat.le_of_ble_eq_true rfl, Nat.le_of_ble_eq_true rfl, (rfl : Config.cycZ80.cost .main 0x0F = 4)⟩
theorem zDjnz_e (e : Byte) : Statement (.zDjnz_e e) :=
  ⟨rfl, Nat.le_of_ble_eq_true rfl, Nat.le_of_ble_eq_true rfl, (rfl : Config.cycZ80.cost .main 0x10 = 8)⟩
theorem zLd_DE_nn (lo : Byte) (hi : Byte) : Statement (.zLd_DE_nn lo hi) :=
  ⟨rfl, Nat.le_of_ble_eq_true rfl, Nat.le_of_ble_eq_true rfl, (rfl : Config.cycZ80.cost .main 0x11 = 10)⟩
theorem zLd_atDE_A : Statement .zLd_atDE_A :=
  ⟨rfl, Nat.le_of_ble_eq_true rfl, Nat.le_of_ble_eq_true rfl, (rfl : Config.cycZ80.cost .main 0x12 = 7)⟩
theorem zInc_DE : Statement .zInc_DE :=
  ⟨rfl, Nat.le_of_ble_eq_true rfl, Nat.le_of_ble_eq_true rfl, (rfl : Config.cycZ80.cost .main 0x13 = 6)⟩
theorem zInc_D : Statement .zInc_D :=
  ⟨rfl, Nat.le_of_ble_eq_true rfl, Nat.le_of_ble_eq_true rfl, (rfl : Config.cycZ80.cost .main 0x14 = 4)⟩
theorem zDec_D : Statement .zDec_D :=
  ⟨rfl, Nat.le_of_ble_eq_true rfl, Nat.le_of_ble_eq_true rfl, (rfl : Config.cycZ80.cost .main 0x15 = 4)⟩
theorem zLd_D_n (n : Byte) : Statement (.zLd_D_n n) :=
  ⟨rfl, Nat.le_of_ble_eq_true rfl, Nat.le_of_ble_eq_true rfl, (rfl : Config.cycZ80.cost .main 0x16 = 7)⟩
theorem zRla : Statement .zRla :=
  ⟨rfl, Nat.le_of_ble_eq_true rfl, Nat.le_of_ble_eq_true rfl, (rfl : Config.cycZ80.cost .main 0x17 = 4)⟩
theorem zJr_e (e : Byte) : Statement (.zJr_e e) :=
  ⟨rfl, Nat.le_of_ble_eq_true rfl, Nat.le_of_ble_eq_true rfl, (rfl : Config.cycZ80.cost .main 0x18 = 12)⟩
theorem zAdd_HL_DE : Statement .zAdd_HL_DE :=
  ⟨rfl, Nat.le_of_ble_eq_true rfl, Nat.le_of_ble_eq_true rfl, (rfl : Config.cycZ80.cost .main 0x19 = 11)⟩
theorem zLd_A_atDE : Statement .zLd_A_atDE :=
  ⟨rfl, Nat.le_of_ble_eq_true rfl, Nat.le_of_ble_eq_true rfl, (rfl : Config.cycZ80.cost .main 0x1A = 7)⟩
theorem zDec_DE : Statement .zDec_DE :=
  ⟨rfl, Nat.le_of_ble_eq_true rfl, Nat.le_of_ble_eq_true rfl, (rfl : Config.cycZ80.cost .main 0x1B = 6)⟩
theorem zInc_E : Statement .zInc_E :=
  ⟨rfl, Nat.le_of_ble_eq_true rfl, Nat.le_of_ble_eq_true rfl, (rfl : Config.cycZ80.cost .main 0x1C = 4)⟩
theorem zDec_E : Statement .zDec_E :=
  ⟨rfl, Nat.le_of_ble_eq_true rfl, Nat.le_of_ble_eq_true rfl, (rfl : Config.cycZ80.cost .main 0x1D = 4)⟩
theorem zLd_E_n (n : Byte) : Statement (.zLd_E_n n) :=
  ⟨rfl, Nat.le_of_ble_eq_true rfl, Nat.le_of_ble_eq_true rfl, (rfl : Config.cycZ80.cost .main 0x1E = 7)⟩
theorem zRra : Statement .zRra :=
  ⟨rfl, Nat.le_of_ble_eq_true rfl, Nat.le_of_ble_eq_true rfl, (rfl : Config.cycZ80.cost .main 0x1F = 4)⟩
theorem zJr_NZ_e (e : Byte) : Statement (.zJr_NZ_e e) :=
  ⟨rfl, Nat.le_of_ble_eq_true rfl, Nat.le_of_ble_eq_true rfl, (rfl : Config.cycZ80.cost .main 0x20 = 7)⟩
theorem zLd_HL_nn (lo : Byte) (hi : Byte) : Statement (.zLd_HL_nn lo hi) :=
  ⟨rfl, Nat.le_of_ble_eq_true rfl, Nat.le_of_ble_eq_true rfl, (rfl : Config.cycZ80.cost .main 0x21 = 10)⟩
theorem zLd_atnn_HL (lo : Byte) (hi : Byte) : Statement (.zLd_atnn_HL lo hi) :=
  ⟨rfl, Nat.le_of_ble_eq_true rfl, Nat.le_of_ble_eq_true rfl, (rfl : Config.cycZ80.cost .main 0x22 = 16)⟩
theorem zInc_HL : Statement .zInc_HL :=
  ⟨rfl, Nat.le_of_ble_eq_true rfl, Nat.le_of_ble_eq_true rfl, (rfl : Config.cycZ80.cost .main 0x23 = 6)⟩
theorem zInc_H : Statement .zInc_H :=
  ⟨rfl, Nat.le_of_ble_eq_true rfl, Nat.le_of_ble_eq_true rfl, (rfl : Config.cycZ80.cost .main 0x24 = 4)⟩
theorem zDec_H : Statement .zDec_H :=
  ⟨rfl, Nat.le_of_ble_eq_true rfl, Nat.le_of_ble_eq_true rfl, (rfl : Config.cycZ80.cost .main 0x25 = 4)⟩
theorem zLd_H_n (n : Byte) : Statement (.zLd_H_n n) :=
  ⟨rfl, Nat.le_of_ble_eq_true rfl, Nat.le_of_ble_eq_true rfl, (rfl : Config.cycZ80.cost .main 0x26 = 7)⟩
theorem zDaa : Statement .zDaa :=
  ⟨rfl, Nat.le_of_ble_eq_true rfl, Nat.le_of_ble_eq_true rfl, (rfl : Config.cycZ80.cost .main 0x27 = 4)⟩
theorem zJr_Z_e (e : Byte) : Statement (.zJr_Z_e e) :=
  ⟨rfl, Nat.le_of_ble_eq_true rfl, Nat.le_of_ble_eq_true rfl, (rfl : Config.cycZ80.cost .main 0x28 = 7)⟩
theorem zAdd_HL_HL : Statement .zAdd_HL_HL :=
  ⟨rfl, Nat.le_of_ble_eq_true rfl, Nat.le_of_ble_eq_true rfl, (rfl : Config.cycZ80.cost .main 0x29 = 11)⟩
theorem zLd_HL_atnn (lo : Byte) (hi : Byte) : Statement (.zLd_HL_atnn lo hi) :=
  ⟨rfl, Nat.le_of_ble_eq_true rfl, Nat.le_of_ble_eq_true rfl, (rfl : Config.cycZ80.cost .main 0x2A = 16)⟩
theorem zDec_HL : Statement .zDec_HL :=
  ⟨rfl, Nat.le_of_ble_eq_true rfl, Nat.le_of_ble_eq_true rfl, (rfl : Config.cycZ80.cost .main 0x2B = 6)⟩
theorem zInc_L : Statement .zInc_L :=
  ⟨rfl, Nat.le_of_ble_eq_true rfl, Nat.le_of_ble_eq_true rfl, (rfl : Config.cycZ80.cost .main 0x2C = 4)⟩
theorem zDec_L : Statement .zDec_L :=
  ⟨rfl, Nat.le_of_ble_eq_true rfl, Nat.le_of_ble_eq_true rfl, (rfl : Config.cycZ80.cost .main 0x2D = 4)⟩
theorem zLd_L_n (n : Byte) : Statement (.zLd_L_n n) :=
  ⟨rfl, Nat.le_of_ble_eq_true rfl, Nat.le_of_ble_eq_true rfl, (rfl : Config.cycZ80.cost .main 0x2E = 7)⟩
theorem zCpl : Statement .zCpl :=
  ⟨rfl, Nat.le_of_ble_eq_true rfl, Nat.le_of_ble_eq_true rfl, (rfl : Config.cycZ80.cost .main 0x2F = 4)⟩
theorem zJr_NC_e (e : Byte) : Statement (.zJr_NC_e e) :=
  ⟨rfl, Nat.le_of_ble_eq_true rfl, Nat.le_of_ble_eq_true rfl, (rfl : Config.cycZ80.cost .main 0x30 = 7)⟩
theorem zLd_SP_nn (lo : Byte) (hi : Byte) : Statement (.zLd_SP_nn lo hi) :=
  ⟨rfl, Nat.le_of_ble_eq_true rfl, Nat.le_of_ble_eq_true rfl, (rfl : Config.cycZ80.cost .main 0x31 = 10)⟩
theorem zLd_atnn_A (lo : Byte) (hi : Byte) : Statement (.zLd_atnn_A lo hi) :=
  ⟨rfl, Nat.le_of_ble_eq_true rfl, Nat.le_of_ble_eq_true rfl, (rfl : Config.cycZ80.cost .main 0x32 = 13)⟩
theorem zInc_SP : Statement .zInc_SP :=
  ⟨rfl, Nat.le_of_ble_eq_true rfl, Nat.le_of_ble_eq_true rfl, (rfl : Config.cycZ80.cost .main 0x33 = 6)⟩
theorem zInc_atHL : Statement .zInc_atHL :=
  ⟨rfl, Nat.le_of_ble_eq_true rfl, Nat.le_of_ble_eq_true rfl, (rfl : Config.cycZ80.cost .main 0x34 = 11)⟩
theorem zDec_atHL : Statement .zDec_atHL :=
  ⟨rfl, Nat.le_of_ble_eq_true rfl, Nat.le_of_ble_eq_true rfl, (rfl : Config.cycZ80.cost .main 0x35 = 11)⟩
theorem zLd_atHL_n (n : Byte) : Statement (.zLd_atHL_n n) :=
  ⟨rfl, Nat.le_of_ble_eq_true rfl, Nat.le_of_ble_eq_true rfl, (rfl : Config.cycZ80.cost .main 0x36 = 10)⟩
theorem zScf : Statement .zScf :=
  ⟨rfl, Nat.le_of_ble_eq_true rfl, Nat.le_of_ble_eq_true rfl, (rfl : Config.cycZ80.cost .main 0x37 = 4)⟩
theorem zJr_C_e (e : Byte) : Statement (.zJr_C_e e) :=
  ⟨rfl, Nat.le_of_ble_eq_true rfl, Nat.le_of_ble_eq_true rfl, (rfl : Config.cycZ80.cost .main 0x38 = 7)⟩
theorem zAdd_HL_SP : Statement .zAdd_HL_SP :=
  ⟨rfl, Nat.le_of_ble_eq_true rfl, Nat.le_of_ble_eq_true rfl, (rfl : Config.cycZ80.cost .main 0x39 = 11)⟩
theorem zLd_A_atnn (lo : Byte) (hi : Byte) : Statement (.zLd_A_atnn lo hi) :=
  ⟨rfl, Nat.le_of_ble_eq_true rfl, Nat.le_of_ble_eq_true rfl, (rfl : Config.cycZ80.cost .main 0x3A = 13)⟩
theorem zDec_SP : Statement .zDec_SP :=
  ⟨rfl, Nat.le_of_ble_eq_true rfl, Nat.le_of_ble_eq_true rfl, (rfl : Config.cycZ80.cost .main 0x3B = 6)⟩
theorem zInc_A : Statement .zInc_A :=
  ⟨rfl, Nat.le_of_ble_eq_true rfl, Nat.le_of_ble_eq_true rfl, (rfl : Config.cycZ80.cost .main 0x3C = 4)⟩
theorem zDec_A : Statement .zDec_A :=
  ⟨rfl, Nat.le_of_ble_eq_true rfl, Nat.le_of_ble_eq_true rfl, (rfl : Config.cycZ80.cost .main 0x3D = 4)⟩
theorem zLd_A_n (n : Byte) : Statement (.zLd_A_n n) :=
  ⟨rfl, Nat.le_of_ble_eq_true rfl, Nat.le_of_ble_eq_true rfl, (rfl : Config.cycZ80.cost .main 0x3E = 7)⟩
theorem zCcf : Statement .zCcf :=
  ⟨rfl, Nat.le_of_ble_eq_true rfl, Nat.le_of_ble_eq_true rfl, (rfl : Config.cycZ80.cost .main 0x3F = 4)⟩
theorem zLd_B_B : Statement .zLd_B_B :=
  ⟨rfl, Nat.le_of_ble_eq_true rfl, Nat.le_of_ble_eq_true rfl, (rfl : Config.cycZ80.cost .main 0x40 = 4)⟩
theorem zLd_B_C : Statement .zLd_B_C :=
  ⟨rfl, Nat.le_of_ble_eq_true rfl, Nat.le_of_ble_eq_true rfl, (rfl : Config.cycZ80.cost .main 0x41 = 4)⟩
theorem zLd_B_D : Statement .zLd_B_D :=
  ⟨rfl, Nat.le_of_ble_eq_true rfl, Nat.le_of_ble_eq_true rfl, (rfl : Config.cycZ80.cost .main 0x42 = 4)⟩
theorem zLd_B_E : Statement .zLd_B_E :=
  ⟨rfl, Nat.le_of_ble_eq_true rfl, Nat.le_of_ble_eq_true rfl, (rfl : Config.cycZ80.cost .main 0x43 = 4)⟩
theorem zLd_B_H : Statement .zLd_B_H :=
  ⟨rfl, Nat.le_of_ble_eq_true rfl, Nat.le_of_ble_eq_true rfl, (rfl : Config.cycZ80.cost .main 0x44 = 4)⟩
theorem zLd_B_L : Statement .zLd_B_L :=
  ⟨rfl, Nat.le_of_ble_eq_true rfl, Nat.le_of_ble_eq_true rfl, (rfl : Config.cycZ80.cost .main 0x45 = 4)⟩
theorem zLd_B_atHL : Statement .zLd_B_atHL :=
  ⟨rfl, Nat.le_of_ble_eq_true rfl, Nat.le_of_ble_eq_true rfl, (rfl : Config.cycZ80.cost .main 0x46 = 7)⟩
theorem zLd_B_A : Statement .zLd_B_A :=
  ⟨rfl, Nat.le_of_ble_eq_true rfl, Nat.le_of_ble_eq_true rfl, (rfl : Config.cycZ80.cost .main 0x47 = 4)⟩
theorem zLd_C_B : Statement .zLd_C_B :=
  ⟨rfl, Nat.le_of_ble_eq_true rfl, Nat.le_of_ble_eq_true rfl, (rfl : Config.cycZ80.cost .main 0x48 = 4)⟩
theorem zLd_C_C : Statement .zLd_C_C :=
  ⟨rfl, Nat.le_of_ble_eq_true rfl, Nat.le_of_ble_eq_true rfl, (rfl : Config.cycZ80.cost .main 0x49 = 4)⟩
theorem zLd_C_D : Statement .zLd_C_D :=
  ⟨rfl, Nat.le_of_ble_eq_true rfl, Nat.le_of_ble_eq_true rfl, (rfl : Config.cycZ80.cost .main 0x4A = 4)⟩
theorem zLd_C_E : Statement .zLd_C_E :=
  ⟨rfl, Nat.le_of_ble_eq_true rfl, Nat.le_of_ble_eq_true rfl, (rfl : Config.cycZ80.cost .main 0x4B = 4)⟩
theorem zLd_C_H : Statement .zLd_C_H :=
  ⟨rfl, Nat.le_of_ble_eq_true rfl, Nat.le_of_ble_eq_true rfl, (rfl : Config.cycZ80.cost .main 0x4C = 4)⟩
theorem zLd_C_L : Statement .zLd_C_L :=
  ⟨rfl, Nat.le_of_ble_eq_true rfl, Nat.le_of_ble_eq_true rfl, (rfl : Config.cycZ80.cost .main 0x4D = 4)⟩
theorem zLd_C_atHL : Statement .zLd_C_atHL :=
  ⟨rfl, Nat.le_of_ble_eq_true rfl, Nat.le_of_ble_eq_true rfl, (rfl : Config.cycZ80.cost .main 0x4E = 7)⟩
theorem zLd_C_A : Statement .zLd_C_A :=
  ⟨rfl, Nat.le_of_ble_eq_true rfl, Nat.le_of_ble_eq_true rfl, (rfl : Config.cycZ80.cost .main 0x4F = 4)⟩
theorem zLd_D_B : Statement .zLd_D_B :=
  ⟨rfl, Nat.le_of_ble_eq_true rfl, Nat.le_of_ble_eq_true rfl, (rfl : Config.cycZ80.cost .main 0x50 = 4)⟩
theorem zLd_D_C : Statement .zLd_D_C :=
  ⟨rfl, Nat.le_of_ble_eq_true rfl, Nat.le_of_ble_eq_true rfl, (rfl : Config.cycZ80.cost .main 0x51 = 4)⟩
theorem zLd_D_D : Statement .zLd_D_D :=
  ⟨rfl, Nat.le_of_ble_eq_true rfl, Nat.le_of_ble_eq_true rfl, (rfl : Config.cycZ80.cost .main 0x52 = 4)⟩
theorem zLd_D_E : Statement .zLd_D_E :=
  ⟨rfl, Nat.le_of_ble_eq_true rfl, Nat.le_of_ble_eq_true rfl, (rfl : Config.cycZ80.cost .main 0x53 = 4)⟩
theorem zLd_D_H : Statement .zLd_D_H :=
  ⟨rfl, Nat.le_of_ble_eq_true rfl, Nat.le_of_ble_eq_true rfl, (rfl : Config.cycZ80.cost .main 0x54 = 4)⟩
theorem zLd_D_L : Statement .zLd_D_L :=
  ⟨rfl, Nat.le_of_ble_eq_true rfl, Nat.le_of_ble_eq_true rfl, (rfl : Config.cycZ80.cost .main 0x55 = 4)⟩
theorem zLd_D_atHL : Statement .zLd_D_atHL :=
  ⟨rfl, Nat.le_of_ble_eq_true rfl, Nat.le_of_ble_eq_true rfl, (rfl : Config.cycZ80.cost .main 0x56 = 7)⟩
theorem zLd_D_A : Statement .zLd_D_A :=
  ⟨rfl, Nat.le_of_ble_eq_true rfl, Nat.le_of_ble_eq_true rfl, (rfl : Config.cycZ80.cost .main 0x57 = 4)⟩
theorem zLd_E_B : Statement .zLd_E_B :=
  ⟨rfl, Nat.le_of_ble_eq_true rfl, Nat.le_of_ble_eq_true rfl, (rfl : Config.cycZ80.cost .main 0x58 = 4)⟩
theorem zLd_E_C : Statement .zLd_E_C :=
  ⟨rfl, Nat.le_of_ble_eq_true rfl, Nat.le_of_ble_eq_true rfl, (rfl : Config.cycZ80.cost .main 0x59 = 4)⟩
theorem zLd_E_D : Statement .zLd_E_D :=
  ⟨rfl, Nat.le_of_ble_eq_true rfl, Nat.le_of_ble_eq_true rfl, (rfl : Config.cycZ80.cost .main 0x5A = 4)⟩
theorem zLd_E_E : Statement .zLd_E_E :=
  ⟨rfl, Nat.le_of_ble_eq_true rfl, Nat.le_of_ble_eq_true rfl, (rfl : Config.cycZ80.cost .main 0x5B = 4)⟩
theorem zLd_E_H : Statement .zLd_E_H :=
  ⟨rfl, Nat.le_of_ble_eq_true rfl, Nat.le_of_ble_eq_true rfl, (rfl : Config.cycZ80.cost .main 0x5C = 4)⟩
theorem zLd_E_L : Statement .zLd_E_L :=
  ⟨rfl, Nat.le_of_ble_eq_true rfl, Nat.le_of_ble_eq_true rfl, (rfl : Config.cycZ80.cost .main 0x5D = 4)⟩
theorem zLd_E_atHL : Statement .zLd_E_atHL :=
  ⟨rfl, Nat.le_of_ble_eq_true rfl, Nat.le_of_ble_eq_true rfl, (rfl : Config.cycZ80.cost .main 0x5E = 7)⟩
theorem zLd_E_A : Statement .zLd_E_A :=
  ⟨rfl, Nat.le_of_ble_eq_true rfl, Nat.le_of_ble_eq_true rfl, (rfl : Config.cycZ80.cost .main 0x5F = 4)⟩
theorem zLd_H_B : Statement .zLd_H_B :=
  ⟨rfl, Nat.le_of_ble_eq_true rfl, Nat.le_of_ble_eq_true rfl, (rfl : Config.cycZ80.cost .main 0x60 = 4)⟩
theorem zLd_H_C : Statement .zLd_H_C :=
  ⟨rfl, Nat.le_of_ble_eq_true rfl, Nat.le_of_ble_eq_true rfl, (rfl : Config.cycZ80.cost .main 0x61 = 4)⟩
theorem zLd_H_D : Statement .zLd_H_D :=
  ⟨rfl, Nat.le_of_ble_eq_true rfl, Nat.le_of_ble_eq_true rfl, (rfl : Config.cycZ80.cost .main 0x62 = 4)⟩
theorem zLd_H_E : Statement .zLd_H_E :=
  ⟨rfl, Nat.le_of_ble_eq_true rfl, Nat.le_of_ble_eq_true rfl, (rfl : Config.cycZ80.cost .main 0x63 = 4)⟩
theorem zLd_H_H : Statement .zLd_H_H :=
  ⟨rfl, Nat.le_of_ble_eq_true rfl, Nat.le_of_ble_eq_true rfl, (rfl : Config.cycZ80.cost .main 0x64 = 4)⟩
theorem zLd_H_L : Statement .zLd_H_L :=
  ⟨rfl, Nat.le_of_ble_eq_true rfl, Nat.le_of_ble_eq_true rfl, (rfl : Config.cycZ80.cost .main 0x65 = 4)⟩
theorem zLd_H_atHL : Statement .zLd_H_atHL :=
  ⟨rfl, Nat.le_of_ble_eq_true rfl, Nat.le_of_ble_eq_true rfl, (rfl : Config.cycZ80.cost .main 0x66 = 7)⟩
theorem zLd_H_A : Statement .zLd_H_A :=
  ⟨rfl, Nat.le_of_ble_eq_true rfl, Nat.le_of_ble_eq_true rfl, (rfl : Config.cycZ80.cost .main 0x67 = 4)⟩
theorem zLd_L_B : Statement .zLd_L_B :=
  ⟨rfl, Nat.le_of_ble_eq_true rfl, Nat.le_of_ble_eq_true rfl, (rfl : Config.cycZ80.cost .main 0x68 = 4)⟩
theorem zLd_L_C : Statement .zLd_L_C :=
  ⟨rfl, Nat.le_of_ble_eq_true rfl, Nat.le_of_ble_eq_true rfl, (rfl : Config.cycZ80.cost .main 0x69 = 4)⟩
theorem zLd_L_D : Statement .zLd_L_D :=
  ⟨rfl, Nat.le_of_ble_eq_true rfl, Nat.le_of_ble_eq_true rfl, (rfl : Config.cycZ80.cost .main 0x6A = 4)⟩
theorem zLd_L_E : Statement .zLd_L_E :=
  ⟨rfl, Nat.le_of_ble_eq_true rfl, Nat.le_of_ble_eq_true rfl, (rfl : Config.cycZ80.cost .main 0x6B = 4)⟩
theorem zLd_L_H : Statement .zLd_L_H :=
  ⟨rfl, Nat.le_of_ble_eq_true rfl, Nat.le_of_ble_eq_true rfl, (rfl : Config.cycZ80.cost .main 0x6C = 4)⟩
theorem zLd_L_L : Statement .zLd_L_L :=
  ⟨rfl, Nat.le_of_ble_eq_true rfl, Nat.le_of_ble_eq_true rfl, (rfl : Config.cycZ80.cost .main 0x6D = 4)⟩
theorem zLd_L_atHL : Statement .zLd_L_atHL :=
  ⟨rfl, Nat.le_of_ble_eq_true rfl, Nat.le_of_ble_eq_true rfl, (rfl : Config.cycZ80.cost .main 0x6E = 7)⟩
theorem zLd_L_A : Statement .zLd_L_A :=
  ⟨rfl, Nat.le_of_ble_eq_true rfl, Nat.le_of_ble_eq_true rfl, (rfl : Config.cycZ80.cost .main 0x6F = 4)⟩
theorem zLd_atHL_B : Statement .zLd_atHL_B :=
  ⟨rfl, Nat.le_of_ble_eq_true rfl, Nat.le_of_ble_eq_true rfl, (rfl : Config.cycZ80.cost .main 0x70 = 7)⟩
theorem zLd_atHL_C : Statement .zLd_atHL_C :=
  ⟨rfl, Nat.le_of_ble_eq_true rfl, Nat.le_of_ble_eq_true rfl, (rfl : Config.cycZ80.cost .main 0x71 = 7)⟩
theorem zLd_atHL_D : Statement .zLd_atHL_D :=
  ⟨rfl, Nat.le_of_ble_eq_true rfl, Nat.le_of_ble_eq_true rfl, (rfl : Config.cycZ80.cost .main 0x72 = 7)⟩
theorem zLd_atHL_E : Statement .zLd_atHL_E :=
  ⟨rfl, Nat.le_of_ble_eq_true rfl, Nat.le_of_ble_eq_true rfl, (rfl : Config.cycZ80.cost .main 0x73 = 7)⟩
theorem zLd_atHL_H : Statement .zLd_atHL_H :=
  ⟨rfl, Nat.le_of_ble_eq_true rfl, Nat.le_of_ble_eq_true rfl, (rfl : Config.cycZ80.cost .main 0x74 = 7)⟩
theorem zLd_atHL_L : Statement .zLd_atHL_L :=
  ⟨rfl, Nat.le_of_ble_eq_true rfl, Nat.le_of_ble_eq_true rfl, (rfl : Config.cycZ80.cost .main 0x75 = 7)⟩
theorem zHalt : Statement .zHalt :=
  ⟨rfl, Nat.le_of_ble_eq_true rfl, Nat.le_of_ble_eq_true rfl, (rfl : Config.cycZ80.cost .main 0x76 = 4)⟩
theorem zLd_atHL_A : Statement .zLd_atHL_A :=
  ⟨rfl, Nat.le_of_ble_eq_true rfl, Nat.le_of_ble_eq_true rfl, (rfl : Config.cycZ80.cost .main 0x77 = 7)⟩
theorem zLd_A_B : Statement .zLd_A_B :=
  ⟨rfl, Nat.le_of_ble_eq_true rfl, Nat.le_of_ble_eq_true rfl, (rfl : Config.cycZ80.cost .main 0x78 = 4)⟩
theorem zLd_A_C : Statement .zLd_A_C :=
  ⟨rfl, Nat.le_of_ble_eq_true rfl, Nat.le_of_ble_eq_true rfl, (rfl : Config.cycZ80.cost .main 0x79 = 4)⟩
theorem zLd_A_D : Statement .zLd_A_D :=
  ⟨rfl, Nat.le_of_ble_eq_true rfl, Nat.le_of_ble_eq_true rfl, (rfl : Config.cycZ80.cost .main 0x7A = 4)⟩
theorem zLd_A_E : Statement .zLd_A_E :=
  ⟨rfl, Nat.le_of_ble_eq_true rfl, Nat.le_of_ble_eq_true rfl, (rfl : Config.cycZ80.cost .main 0x7B = 4)⟩
theorem zLd_A_H : Statement .zLd_A_H :=
  ⟨rfl, Nat.le_of_ble_eq_true rfl, Nat.le_of_ble_eq_true rfl, (rfl : Config.cycZ80.cost .main 0x7C = 4)⟩
theorem zLd_A_L : Statement .zLd_A_L :=
  ⟨rfl, Nat.le_of_ble_eq_true rfl, Nat.le_of_ble_eq_true rfl, (rfl : Config.cycZ80.cost .main 0x7D = 4)⟩
theorem zLd_A_atHL : Statement .zLd_A_atHL :=
  ⟨rfl, Nat.le_of_ble_eq_true rfl, Nat.le_of_ble_eq_true rfl, (rfl : Config.cycZ80.cost .main 0x7E = 7)⟩
theorem zLd_A_A : Statement .zLd_A_A :=
  ⟨rfl, Nat.le_of_ble_eq_true rfl, Nat.le_of_ble_eq_true rfl, (rfl : Config.cycZ80.cost .main 0x7F = 4)⟩
theorem zAdd_A_B : Statement .zAdd_A_B :=
  ⟨rfl, Nat.le_of_ble_eq_true rfl, Nat.le_of_ble_eq_true rfl, (rfl : Config.cycZ80.cost .main 0x80 = 4)⟩
theorem zAdd_A_C : Statement .zAdd_A_C :=
  ⟨rfl, Nat.le_of_ble_eq_true rfl, Nat.le_of_ble_eq_true rfl, (rfl : Config.cycZ80.cost .main 0x81 = 4)⟩
theorem zAdd_A_D : Statement .zAdd_A_D :=
  ⟨rfl, Nat.le_of_ble_eq_true rfl, Nat.le_of_ble_eq_true rfl, (rfl : Config.cycZ80.cost .main 0x82 = 4)⟩
theorem zAdd_A_E : Statement .zAdd_A_E :=
  ⟨rfl, Nat.le_of_ble_eq_true rfl, Nat.le_of_ble_eq_true rfl, (rfl : Config.cycZ80.cost .main 0x83 = 4)⟩
theorem zAdd_A_H : Statement .zAdd_A_H :=
  ⟨rfl, Nat.le_of_ble_eq_true rfl, Nat.le_of_ble_eq_true rfl, (rfl : Config.cycZ80.cost .main 0x84 = 4)⟩
theorem zAdd_A_L : Statement .zAdd_A_L :=
  ⟨rfl, Nat.le_of_ble_eq_true rfl, Nat.le_of_ble_eq_true rfl, (rfl : Config.cycZ80.cost .main 0x85 = 4)⟩
theorem zAdd_A_atHL : Statement .zAdd_A_atHL :=
  ⟨rfl, Nat.le_of_ble_eq_true rfl, Nat.le_of_ble_eq_true rfl, (rfl : Config.cycZ80.cost .main 0x86 = 7)⟩
theorem zAdd_A_A : Statement .zAdd_A_A :=
  ⟨rfl, Nat.le_of_ble_eq_true rfl, Nat.le_of_ble_eq_true rfl, (rfl : Config.cycZ80.cost .main 0x87 = 4)⟩
theorem zAdc_A_B : Statement .zAdc_A_B :=
  ⟨rfl, Nat.le_of_ble_eq_true rfl, Nat.le_of_ble_eq_true rfl, (rfl : Config.cycZ80.cost .main 0x88 = 4)⟩
theorem zAdc_A_C : Statement .zAdc_A_C :=
  ⟨rfl, Nat.le_of_ble_eq_true rfl, Nat.le_of_ble_eq_true rfl, (rfl : Config.cycZ80.cost .main 0x89 = 4)⟩
theorem zAdc_A_D : Statement .zAdc_A_D :=
  ⟨rfl, Nat.le_of_ble_eq_true rfl, Nat.le_of_ble_eq_true rfl, (rfl : Config.cycZ80.cost .main 0x8A = 4)⟩
theorem zAdc_A_E : Statement .zAdc_A_E :=
  ⟨rfl, Nat.le_of_ble_eq_true rfl, Nat.le_of_ble_eq_true rfl, (rfl : Config.cycZ80.cost .main 0x8B = 4)⟩
theorem zAdc_A_H : Statement .zAdc_A_H :=
  ⟨rfl, Nat.le_of_ble_eq_true rfl, Nat.le_of_ble_eq_true rfl, (rfl : Config.cycZ80.cost .main 0x8C = 4)⟩
theorem zAdc_A_L : Statement .zAdc_A_L :=
  ⟨rfl, Nat.le_of_ble_eq_true rfl, Nat.le_of_ble_eq_true rfl, (rfl : Config.cycZ80.cost .main 0x8D = 4)⟩
theorem zAdc_A_atHL : Statement .zAdc_A_atHL :=
  ⟨rfl, Nat.le_of_ble_eq_true rfl, Nat.le_of_ble_eq_true rfl, (rfl : Config.cycZ80.cost .main 0x8E = 7)⟩
theorem zAdc_A_A : Statement .zAdc_A_A :=
  ⟨rfl, Nat.le_of_ble_eq_true rfl, Nat.le_of_ble_eq_true rfl, (rfl : Config.cycZ80.cost .main 0x8F = 4)⟩
theorem zSub_B : Statement .zSub_B :=
  ⟨rfl, Nat.le_of_ble_eq_true rfl, Nat.le_of_ble_eq_true rfl, (rfl : Config.cycZ80.cost .main 0x90 = 4)⟩
theorem zSub_C : Statement .zSub_C :=
  ⟨rfl, Nat.le_of_ble_eq_true rfl, Nat.le_of_ble_eq_true rfl, (rfl : Config.cycZ80.cost .main 0x91 = 4)⟩
theorem zSub_D : Statement .zSub_D :=
  ⟨rfl, Nat.le_of_ble_eq_true rfl, Nat.le_of_ble_eq_true rfl, (rfl : Config.cycZ80.cost .main 0x92 = 4)⟩
theorem zSub_E : Statement .zSub_E :=
  ⟨rfl, Nat.le_of_ble_eq_true rfl, Nat.le_of_ble_eq_true rfl, (rfl : Config.cycZ80.cost .main 0x93 = 4)⟩
theorem zSub_H : Statement .zSub_H :=
  ⟨rfl, Nat.le_of_ble_eq_true rfl, Nat.le_of_ble_eq_true rfl, (rfl : Config.cycZ80.cost .main 0x94 = 4)⟩
theorem zSub_L : Statement .zSub_L :=
  ⟨rfl, Nat.le_of_ble_eq_true rfl, Nat.le_of_ble_eq_true rfl, (rfl : Config.cycZ80.cost .main 0x95 = 4)⟩
theorem zSub_atHL : Statement .zSub_atHL :=
  ⟨rfl, Nat.le_of_ble_eq_true rfl, Nat.le_of_ble_eq_true rfl, (rfl : Config.cycZ80.cost .main 0x96 = 7)⟩
theorem zSub_A : Statement .zSub_A :=
  ⟨rfl, Nat.le_of_ble_eq_true rfl, Nat.le_of_ble_eq_true rfl, (rfl : Config.cycZ80.cost .main 0x97 = 4)⟩
theorem zSbc_A_B : Statement .zSbc_A_B :=
  ⟨rfl, Nat.le_of_ble_eq_true rfl, Nat.le_of_ble_eq_true rfl, (rfl : Config.cycZ80.cost .main 0x98 = 4)⟩
theorem zSbc_A_C : Statement .zSbc_A_C :=
  ⟨rfl, Nat.le_of_ble_eq_true rfl, Nat.le_of_ble_eq_true rfl, (rfl : Config.cycZ80.cost .main 0x99 = 4)⟩
theorem zSbc_A_D : Statement .zSbc_A_D :=
  ⟨rfl, Nat.le_of_ble_eq_true rfl, Nat.le_of_ble_eq_true rfl, (rfl : Config.cycZ80.cost .main 0x9A = 4)⟩
theorem zSbc_A_E : Statement .zSbc_A_E :=
  ⟨rfl, Nat.le_of_ble_eq_true rfl, Nat.le_of_ble_eq_true rfl, (rfl : Config.cycZ80.cost .main 0x9B = 4)⟩
theorem zSbc_A_H : Statement .zSbc_A_H :=
  ⟨rfl, Nat.le_of_ble_eq_true rfl, Nat.le_of_ble_eq_true rfl, (rfl : Config.cycZ80.cost .main 0x9C = 4)⟩
theorem zSbc_A_L : Statement .zSbc_A_L :=
  ⟨rfl, Nat.le_of_ble_eq_true rfl, Nat.le_of_ble_eq_true rfl, (rfl : Config.cycZ80.cost .main 0x9D = 4)⟩
theorem zSbc_A_atHL : Statement .zSbc_A_atHL :=
  ⟨rfl, Nat.le_of_ble_eq_true rfl, Nat.le_of_ble_eq_true rfl, (rfl : Config.cycZ80.cost .main 0x9E = 7)⟩
theorem zSbc_A_A : Statement .zSbc_A_A :=
  ⟨rfl, Nat.le_of_ble_eq_true rfl, Nat.le_of_ble_eq_true rfl, (rfl : Config.cycZ80.cost .main 0x9F = 4)⟩
theorem zAnd_B : Statement .zAnd_B :=
  ⟨rfl, Nat.le_of_ble_eq_true rfl, Nat.le_of_ble_eq_true rfl, (rfl : Config.cycZ80.cost .main 0xA0 = 4)⟩
theorem zAnd_C : Statement .zAnd_C :=
  ⟨rfl, Nat.le_of_ble_eq_true rfl, Nat.le_of_ble_eq_true rfl, (rfl : Config.cycZ80.cost .main 0xA1 = 4)⟩
theorem zAnd_D : Statement .zAnd_D :=
  ⟨rfl, Nat.le_of_ble_eq_true rfl, Nat.le_of_ble_eq_true rfl, (rfl : Config.cycZ80.cost .main 0xA2 = 4)⟩
theorem zAnd_E : Statement .zAnd_E :=
  ⟨rfl, Nat.le_of_ble_eq_true rfl, Nat.le_of_ble_eq_true rfl, (rfl : Config.cycZ80.cost .main 0xA3 = 4)⟩
theorem zAnd_H : Statement .zAnd_H :=
  ⟨rfl, Nat.le_of_ble_eq_true rfl, Nat.le_of_ble_eq_true rfl, (rfl : Config.cycZ80.cost .main 0xA4 = 4)⟩
theorem zAnd_L : Statement .zAnd_L :=
  ⟨rfl, Nat.le_of_ble_eq_true rfl, Nat.le_of_ble_eq_true rfl, (rfl : Config.cycZ80.cost .main 0xA5 = 4)⟩
theorem zAnd_atHL : Statement .zAnd_atHL :=
  ⟨rfl, Nat.le_of_ble_eq_true rfl, Nat.le_of_ble_eq_true rfl, (rfl : Config.cycZ80.cost .main 0xA6 = 7)⟩
theorem zAnd_A : Statement .zAnd_A :=
  ⟨rfl, Nat.le_of_ble_eq_true rfl, Nat.le_of_ble_eq_true rfl, (rfl : Config.cycZ80.cost .main 0xA7 = 4)⟩
theorem zXor_B : Statement .zXor_B :=
  ⟨rfl, Nat.le_of_ble_eq_true rfl, Nat.le_of_ble_eq_true rfl, (rfl : Config.cycZ80.cost .main 0xA8 = 4)⟩
theorem zXor_C : Statement .zXor_C :=
  ⟨rfl, Nat.le_of_ble_eq_true rfl, Nat.le_of_ble_eq_true rfl, (rfl : Config.cycZ80.cost .main 0xA9 = 4)⟩
theorem zXor_D : Statement .zXor_D :=
  ⟨rfl, Nat.le_of_ble_eq_true rfl, Nat.le_of_ble_eq_true rfl, (rfl : Config.cycZ80.cost .main 0xAA = 4)⟩
theorem zXor_E : Statement .zXor_E :=
  ⟨rfl, Nat.le_of_ble_eq_true rfl, Nat.le_of_ble_eq_true rfl, (rfl : Config.cycZ80.cost .main 0xAB = 4)⟩
theorem zXor_H : Statement .zXor_H :=
  ⟨rfl, Nat.le_of_ble_eq_true rfl, Nat.le_of_ble_eq_true rfl, (rfl : Config.cycZ80.cost .main 0xAC = 4)⟩
theorem zXor_L : Statement .zXor_L :=
  ⟨rfl, Nat.le_of_ble_eq_true rfl, Nat.le_of_ble_eq_true rfl, (rfl : Config.cycZ80.cost .main 0xAD = 4)⟩
theorem zXor_atHL : Statement .zXor_atHL :=
  ⟨rfl, Nat.le_of_ble_eq_true rfl, Nat.le_of_ble_eq_true rfl, (rfl : Config.cycZ80.cost .main 0xAE = 7)⟩
theorem zXor_A : Statement .zXor_A :=
  ⟨rfl, Nat.le_of_ble_eq_true rfl, Nat.le_of_ble_eq_true rfl, (rfl : Config.cycZ80.cost .main 0xAF = 4)⟩
theorem zOr_B : Statement .zOr_B :=
  ⟨rfl, Nat.le_of_ble_eq_true rfl, Nat.le_of_ble_eq_true rfl, (rfl : Config.cycZ80.cost .main 0xB0 = 4)⟩
theorem zOr_C : Statement .zOr_C :=
  ⟨rfl, Nat.le_of_ble_eq_true rfl, Nat.le_of_ble_eq_true rfl, (rfl : Config.cycZ80.cost .main 0xB1 = 4)⟩
theorem zOr_D : Statement .zOr_D :=
  ⟨rfl, Nat.le_of_ble_eq_true rfl, Nat.le_of_ble_eq_true rfl, (rfl : Config.cycZ80.cost .main 0xB2 = 4)⟩
theorem zOr_E : Statement .zOr_E :=
  ⟨rfl, Nat.le_of_ble_eq_true rfl, Nat.le_of_ble_eq_true rfl, (rfl : Config.cycZ80.cost .main 0xB3 = 4)⟩
theorem zOr_H : Statement .zOr_H :=
  ⟨rfl, Nat.le_of_ble_eq_true rfl, Nat.le_of_ble_eq_true rfl, (rfl : Config.cycZ80.cost .main 0xB4 = 4)⟩
theorem zOr_L : Statement .zOr_L :=
  ⟨rfl, Nat.le_of_ble_eq_true rfl, Nat.le_of_ble_eq_true rfl, (rfl : Config.cycZ80.cost .main 0xB5 = 4)⟩
theorem zOr_atHL : Statement .zOr_atHL :=
  ⟨rfl, Nat.le_of_ble_eq_true rfl, Nat.le_of_ble_eq_true rfl, (rfl : Config.cycZ80.cost .main 0xB6 = 7)⟩
theorem zOr_A : Statement .zOr_A :=
  ⟨rfl, Nat.le_of_ble_eq_true rfl, Nat.le_of_ble_eq_true rfl, (rfl : Config.cycZ80.cost .main 0xB7 = 4)⟩
theorem zCp_B : Statement .zCp_B :=
  ⟨rfl, Nat.le_of_ble_eq_true rfl, Nat.le_of_ble_eq_true rfl, (rfl : Config.cycZ80.cost .main 0xB8 = 4)⟩
theorem zCp_C : Statement .zCp_C :=
  ⟨rfl, Nat.le_of_ble_eq_true rfl, Nat.le_of_ble_eq_true rfl, (rfl : Config.cycZ80.cost .main 0xB9 = 4)⟩
theorem zCp_D : Statement .zCp_D :=
  ⟨rfl, Nat.le_of_ble_eq_true rfl, Nat.le_of_ble_eq_true rfl, (rfl : Config.cycZ80.cost .main 0xBA = 4)⟩
theorem zCp_E : Statement .zCp_E :=
  ⟨rfl, Nat.le_of_ble_eq_true rfl, Nat.le_of_ble_eq_true rfl, (rfl : Config.cycZ80.cost .main 0xBB = 4)⟩
theorem zCp_H : Statement .zCp_H :=
  ⟨rfl, Nat.le_of_ble_eq_true rfl, Nat.le_of_ble_eq_true rfl, (rfl : Config.cycZ80.cost .main 0xBC = 4)⟩
theorem zCp_L : Statement .zCp_L :=
  ⟨rfl, Nat.le_of_ble_eq_true rfl, Nat.le_of_ble_eq_true rfl, (rfl : Config.cycZ80.cost .main 0xBD = 4)⟩
theorem zCp_atHL : Statement .zCp_atHL :=
  ⟨rfl, Nat.le_of_ble_eq_true rfl, Nat.le_of_ble_eq_true rfl, (rfl : Config.cycZ80.cost .main 0xBE = 7)⟩
theorem zCp_A : Statement .zCp_A :=
  ⟨rfl, Nat.le_of_ble_eq_true rfl, Nat.le_of_ble_eq_true rfl, (rfl : Config.cycZ80.cost .main 0xBF = 4)⟩
theorem zRet_NZ : Statement .zRet_NZ :=
  ⟨rfl, Nat.le_of_ble_eq_true rfl, Nat.le_of_ble_eq_true rfl, (rfl : Config.cycZ80.cost .main 0xC0 = 5)⟩
theorem zPop_BC : Statement .zPop_BC :=
  ⟨rfl, Nat.le_of_ble_eq_true rfl, Nat.le_of_ble_eq_true rfl, (rfl : Config.cycZ80.cost .main 0xC1 = 10)⟩
theorem zJp_NZ_nn (lo : Byte) (hi : Byte) : Statement (.zJp_NZ_nn lo hi) :=
  ⟨rfl, Nat.le_of_ble_eq_true rfl, Nat.le_of_ble_eq_true rfl, (rfl : Config.cycZ80.cost .main 0xC2 = 10)⟩
theorem zJp_nn (lo : Byte) (hi : Byte) : Statement (.zJp_nn lo hi) :=
  ⟨rfl, Nat.le_of_ble_eq_true rfl, Nat.le_of_ble_eq_true rfl, (rfl : Config.cycZ80.cost .main 0xC3 = 10)⟩
theorem zCall_NZ_nn (lo : Byte) (hi : Byte) : Statement (.zCall_NZ_nn lo hi) :=
  ⟨rfl, Nat.le_of_ble_eq_true rfl, Nat.le_of_ble_eq_true rfl, (rfl : Config.cycZ80.cost .main 0xC4 = 10)⟩
theorem zPush_BC : Statement .zPush_BC :=
  ⟨rfl, Nat.le_of_ble_eq_true rfl, Nat.le_of_ble_eq_true rfl, (rfl : Config.cycZ80.cost .main 0xC5 = 11)⟩
theorem zAdd_A_n (n : Byte) : Statement (.zAdd_A_n n) :=
  ⟨rfl, Nat.le_of_ble_eq_true rfl, Nat.le_of_ble_eq_true rfl, (rfl : Config.cycZ80.cost .main 0xC6 = 7)⟩
theorem zRst_00H : Statement .zRst_00H :=
  ⟨rfl, Nat.le_of_ble_eq_true rfl, Nat.le_of_ble_eq_true rfl, (rfl : Config.cycZ80.cost .main 0xC7 = 11)⟩
theorem zRet_Z : Statement .zRet_Z :=
  ⟨rfl, Nat.le_of_ble_eq_true rfl, Nat.le_of_ble_eq_true rfl, (rfl : Config.cycZ80.cost .main 0xC8 = 5)⟩
theorem zRet : Statement .zRet :=
  ⟨rfl, Nat.le_of_ble_eq_true rfl, Nat.le_of_ble_eq_true rfl, (rfl : Config.cycZ80.cost .main 0xC9 = 10)⟩
theorem zJp_Z_nn (lo : Byte) (hi : Byte) : Statement (.zJp_Z_nn lo hi) :=
  ⟨rfl, Nat.le_of_ble_eq_true rfl, Nat.le_of_ble_eq_true rfl, (rfl : Config.cycZ80.cost .main 0xCA = 10)⟩
theorem zCall_Z_nn (lo : Byte) (hi : Byte) : Statement (.zCall_Z_nn lo hi) :=
  ⟨rfl, Nat.le_of_ble_eq_true rfl, Nat.le_of_ble_eq_true rfl, (rfl : Config.cycZ80.cost .main 0xCC = 10)⟩
theorem zCall_nn (lo : Byte) (hi : Byte) : Statement (.zCall_nn lo hi) :=
  ⟨rfl, Nat.le_of_ble_eq_true rfl, Nat.le_of_ble_eq_true rfl, (rfl : Config.cycZ80.cost .main 0xCD = 17)⟩
theorem zAdc_A_n (n : Byte) : Statement (.zAdc_A_n n) :=
  ⟨rfl, Nat.le_of_ble_eq_true rfl, Nat.le_of_ble_eq_true rfl, (rfl : Config.cycZ80.cost .main 0xCE = 7)⟩
theorem zRst_08H : Statement .zRst_08H :=
  ⟨rfl, Nat.le_of_ble_eq_true rfl, Nat.le_of_ble_eq_true rfl, (rfl : Config.cycZ80.cost .main 0xCF = 11)⟩
theorem zRet_NC : Statement .zRet_NC :=
  ⟨rfl, Nat.le_of_ble_eq_true rfl, Nat.le_of_ble_eq_true rfl, (rfl : Config.cycZ80.cost .main 0xD0 = 5)⟩
theorem zPop_DE : Statement .zPop_DE :=
  ⟨rfl, Nat.le_of_ble_eq_true rfl, Nat.le_of_ble_eq_true rfl, (rfl : Config.cycZ80.cost .main 0xD1 = 10)⟩
theorem zJp_NC_nn (lo : Byte) (hi : Byte) : Statement (.zJp_NC_nn lo hi) :=
  ⟨rfl, Nat.le_of_ble_eq_true rfl, Nat.le_of_ble_eq_true rfl, (rfl : Config.cycZ80.cost .main 0xD2 = 10)⟩
theorem zOut_atn_A (n : Byte) : Statement (.zOut_atn_A n) :=
  ⟨rfl, Nat.le_of_ble_eq_true rfl, Nat.le_of_ble_eq_true rfl, (rfl : Config.cycZ80.cost .main 0xD3 = 11)⟩
theorem zCall_NC_nn (lo : Byte) (hi : Byte) : Statement (.zCall_NC_nn lo hi) :=
  ⟨rfl, Nat.le_of_ble_eq_true rfl, Nat.le_of_ble_eq_true rfl, (rfl : Config.cycZ80.cost .main 0xD4 = 10)⟩
theorem zPush_DE : Statement .zPush_DE :=
  ⟨rfl, Nat.le_of_ble_eq_true rfl, Nat.le_of_ble_eq_true rfl, (rfl : Config.cycZ80.cost .main 0xD5 = 11)⟩
theorem zSub_n (n : Byte) : Statement (.zSub_n n) :=
  ⟨rfl, Nat.le_of_ble_eq_true rfl, Nat.le_of_ble_eq_true rfl, (rfl : Config.cycZ80.cost .main 0xD6 = 7)⟩
theorem zRst_10H : Statement .zRst_10H :=
  ⟨rfl, Nat.le_of_ble_eq_true rfl, Nat.le_of_ble_eq_true rfl, (rfl : Config.cycZ80.cost .main 0xD7 = 11)⟩
theorem zRet_C : Statement .zRet_C :=
  ⟨rfl, Nat.le_of_ble_eq_true rfl, Nat.le_of_ble_eq_true rfl, (rfl : Config.cycZ80.cost .main 0xD8 = 5)⟩
theorem zExx : Statement .zExx :=
  ⟨rfl, Nat.le_of_ble_eq_true rfl, Nat.le_of_ble_eq_true rfl, (rfl : Config.cycZ80.cost .main 0xD9 = 4)⟩
theorem zJp_C_nn (lo : Byte) (hi : Byte) : Statement (.zJp_C_nn lo hi) :=
  ⟨rfl, Nat.le_of_ble_eq_true rfl, Nat.le_of_ble_eq_true rfl, (rfl : Config.cycZ80.cost .main 0xDA = 10)⟩
theorem zIn_A_atn (n : Byte) : Statement (.zIn_A_atn n) :=
  ⟨rfl, Nat.le_of_ble_eq_true rfl, Nat.le_of_ble_eq_true rfl, (rfl : Config.cycZ80.cost .main 0xDB = 11)⟩
theorem zCall_C_nn (lo : Byte) (hi : Byte) : Statement (.zCall_C_nn lo hi) :=
  ⟨rfl, Nat.le_of_ble_eq_true rfl, Nat.le_of_ble_eq_true rfl, (rfl : Config.cycZ80.cost .main 0xDC = 10)⟩
theorem zSbc_A_n (n : Byte) : Statement (.zSbc_A_n n) :=
  ⟨rfl, Nat.le_of_ble_eq_true rfl, Nat.le_of_ble_eq_true rfl, (rfl : Config.cycZ80.cost .main 0xDE = 7)⟩
theorem zRst_18H : Statement .zRst_18H :=
  ⟨rfl, Nat.le_of_ble_eq_true rfl, Nat.le_of_ble_eq_true rfl, (rfl : Config.cycZ80.cost .main 0xDF = 11)⟩
theorem zRet_PO : Statement .zRet_PO :=
  ⟨rfl, Nat.le_of_ble_eq_true rfl, Nat.le_of_ble_eq_true rfl, (rfl : Config.cycZ80.cost .main 0xE0 = 5)⟩
theorem zPop_HL : Statement .zPop_HL :=
  ⟨rfl, Nat.le_of_ble_eq_true rfl, Nat.le_of_ble_eq_true rfl, (rfl : Config.cycZ80.cost .main 0xE1 = 10)⟩
theorem zJp_PO_nn (lo : Byte) (hi : Byte) : Statement (.zJp_PO_nn lo hi) :=
  ⟨rfl, Nat.le_of_ble_eq_true rfl, Nat.le_of_ble_eq_true rfl, (rfl : Config.cycZ80.cost .main 0xE2 = 10)⟩
theorem zEx_atSP_HL : Statement .zEx_atSP_HL :=
  ⟨rfl, Nat.le_of_ble_eq_true rfl, Nat.le_of_ble_eq_true rfl, (rfl : Config.cycZ80.cost .main 0xE3 = 19)⟩
theorem zCall_PO_nn (lo : Byte) (hi : Byte) : Statement (.zCall_PO_nn lo hi) :=
  ⟨rfl, Nat.le_of_ble_eq_true rfl, Nat.le_of_ble_eq_true rfl, (rfl : Config.cycZ80.cost .main 0xE4 = 10)⟩
theorem zPush_HL : Statement .zPush_HL :=
  ⟨rfl, Nat.le_of_ble_eq_true rfl, Nat.le_of_ble_eq_true rfl, (rfl : Config.cycZ80.cost .main 0xE5 = 11)⟩
theorem zAnd_n (n : Byte) : Statement (.zAnd_n n) :=
  ⟨rfl, Nat.le_of_ble_eq_true rfl, Nat.le_of_ble_eq_true rfl, (rfl : Config.cycZ80.cost .main 0xE6 = 7)⟩
theorem zRst_20H : Statement .zRst_20H :=
  ⟨rfl, Nat.le_of_ble_eq_true rfl, Nat.le_of_ble_eq_true rfl, (rfl : Config.cycZ80.cost .main 0xE7 = 11)⟩
theorem zRet_PE : Statement .zRet_PE :=
  ⟨rfl, Nat.le_of_ble_eq_true rfl, Nat.le_of_ble_eq_true rfl, (rfl : Config.cycZ80.cost .main 0xE8 = 5)⟩
theorem zJp_atHL : Statement .zJp_atHL :=
  ⟨rfl, Nat.le_of_ble_eq_true rfl, Nat.le_of_ble_eq_true rfl, (rfl : Config.cycZ80.cost .main 0xE9 = 4)⟩
theorem zJp_PE_nn (lo : Byte) (hi : Byte) : Statement (.zJp_PE_nn lo hi) :=
  ⟨rfl, Nat.le_of_ble_eq_true rfl, Nat.le_of_ble_eq_true rfl, (rfl : Config.cycZ80.cost .main 0xEA = 10)⟩
theorem zEx_DE_HL : Statement .zEx_DE_HL :=
  ⟨rfl, Nat.le_of_ble_eq_true rfl, Nat.le_of_ble_eq_true rfl, (rfl : Config.cycZ80.cost .main 0xEB = 4)⟩
theorem zCall_PE_nn (lo : Byte) (hi : Byte) : Statement (.zCall_PE_nn lo hi) :=
  ⟨rfl, Nat.le_of_ble_eq_true rfl, Nat.le_of_ble_eq_true rfl, (rfl : Config.cycZ80.cost .main 0xEC = 10)⟩
theorem zXor_n (n : Byte) : Statement (.zXor_n n) :=
  ⟨rfl, Nat.le_of_ble_eq_true rfl, Nat.le_of_ble_eq_true rfl, (rfl : Config.cycZ80.cost .main 0xEE = 7)⟩
theorem zRst_28H : Statement .zRst_28H :=
  ⟨rfl, Nat.le_of_ble_eq_true rfl, Nat.le_of_ble_eq_true rfl, (rfl : Config.cycZ80.cost .main 0xEF = 11)⟩
theorem zRet_P : Statement .zRet_P :=
  ⟨rfl, Nat.le_of_ble_eq_true rfl, Nat.le_of_ble_eq_true rfl, (rfl : Config.cycZ80.cost .main 0xF0 = 5)⟩
theorem zPop_AF : Statement .zPop_AF :=
  ⟨rfl, Nat.le_of_ble_eq_true rfl, Nat.le_of_ble_eq_true rfl, (rfl : Config.cycZ80.cost .main 0xF1 = 10)⟩
theorem zJp_P_nn (lo : Byte) (hi : Byte) : Statement (.zJp_P_nn lo hi) :=
  ⟨rfl, Nat.le_of_ble_eq_true rfl, Nat.le_of_ble_eq_true rfl, (rfl : Config.cycZ80.cost .main 0xF2 = 10)⟩
theorem zDi : Statement .zDi :=
  ⟨rfl, Nat.le_of_ble_eq_true rfl, Nat.le_of_ble_eq_true rfl, (rfl : Config.cycZ80.cost .main 0xF3 = 4)⟩
theorem zCall_P_nn (lo : Byte) (hi : Byte) : Statement (.zCall_P_nn lo hi) :=
  ⟨rfl, Nat.le_of_ble_eq_true rfl, Nat.le_of_ble_eq_true rfl, (rfl : Config.cycZ80.cost .main 0xF4 = 10)⟩
theorem zPush_AF : Statement .zPush_AF :=
  ⟨rfl, Nat.le_of_ble_eq_true rfl, Nat.le_of_ble_eq_true rfl, (rfl : Config.cycZ80.cost .main 0xF5 = 11)⟩
theorem zOr_n (n : Byte) : Statement (.zOr_n n) :=
  ⟨rfl, Nat.le_of_ble_eq_true rfl, Nat.le_of_ble_eq_true rfl, (rfl : Config.cycZ80.cost .main 0xF6 = 7)⟩
theorem zRst_30H : Statement .zRst_30H :=
  ⟨rfl, Nat.le_of_ble_eq_true rfl, Nat.le_of_ble_eq_true rfl, (rfl : Config.cycZ80.cost .main 0xF7 = 11)⟩
theorem zRet_M : Statement .zRet_M :=
  ⟨rfl, Nat.le_of_ble_eq_true rfl, Nat.le_of_ble_eq_true rfl, (rfl : Config.cycZ80.cost .main 0xF8 = 5)⟩
theorem zLd_SP_HL : Statement .zLd_SP_HL :=
  ⟨rfl, Nat.le_of_ble_eq_true rfl, Nat.le_of_ble_eq_true rfl, (rfl : Config.cycZ80.cost .main 0xF9 = 6)⟩
theorem zJp_M_nn (lo : Byte) (hi : Byte) : Statement (.zJp_M_nn lo hi) :=
  ⟨rfl, Nat.le_of_ble_eq_true rfl, Nat.le_of_ble_eq_true rfl, (rfl : Config.cycZ80.cost .main 0xFA = 10)⟩
theorem zEi : Statement .zEi :=
  ⟨rfl, Nat.le_of_ble_eq_true rfl, Nat.le_of_ble_eq_true rfl, (rfl : Config.cycZ80.cost .main 0xFB = 4)⟩
theorem zCall_M_nn (lo : Byte) (hi : Byte) : Statement (.zCall_M_nn lo hi) :=
  ⟨rfl, Nat.le_of_ble_eq_true rfl, Nat.le_of_ble_eq_true rfl, (rfl : Config.cycZ80.cost .main 0xFC = 10)⟩
theorem zCp_n (n : Byte) : Statement (.zCp_n n) :=
  ⟨rfl, Nat.le_of_ble_eq_true rfl, Nat.le_of_ble_eq_true rfl, (rfl : Config.cycZ80.cost .main 0xFE = 7)⟩
theorem zRst_38H : Statement .zRst_38H :=
  ⟨rfl, Nat.le_of_ble_eq_true rfl, Nat.le_of_ble_eq_true rfl, (rfl : Config.cycZ80.cost .main 0xFF = 11)⟩
theorem zRlc_B : Statement .zRlc_B :=
  ⟨rfl, Nat.le_of_ble_eq_true rfl, Nat.le_of_ble_eq_true rfl, (rfl : Config.cycZ80.cost .cb 0x00 = 8)⟩
theorem zRlc_C : Statement .zRlc_C :=
  ⟨rfl, Nat.le_of_ble_eq_true rfl, Nat.le_of_ble_eq_true rfl, (rfl : Config.cycZ80.cost .cb 0x01 = 8)⟩
theorem zRlc_D : Statement .zRlc_D :=
  ⟨rfl, Nat.le_of_ble_eq_true rfl, Nat.le_of_ble_eq_true rfl, (rfl : Config.cycZ80.cost .cb 0x02 = 8)⟩
theorem zRlc_E : Statement .zRlc_E :=
  ⟨rfl, Nat.le_of_ble_eq_true rfl, Nat.le_of_ble_eq_true rfl, (rfl : Config.cycZ80.cost .cb 0x03 = 8)⟩
theorem zRlc_H : Statement .zRlc_H :=
  ⟨rfl, Nat.le_of_ble_eq_true rfl, Nat.le_of_ble_eq_true rfl, (rfl : Config.cycZ80.cost .cb 0x04 = 8)⟩
theorem zRlc_L : Statement .zRlc_L :=
  ⟨rfl, Nat.le_of_ble_eq_true rfl, Nat.le_of_ble_eq_true rfl, (rfl : Config.cycZ80.cost .cb 0x05 = 8)⟩
theorem zRlc_atHL : Statement .zRlc_atHL :=
  ⟨rfl, Nat.le_of_ble_eq_true rfl, Nat.le_of_ble_eq_true rfl, (rfl : Config.cycZ80.cost .cb 0x06 = 15)⟩
theorem zRlc_A : Statement .zRlc_A :=
  ⟨rfl, Nat.le_of_ble_eq_true rfl, Nat.le_of_ble_eq_true rfl, (rfl : Config.cycZ80.cost .cb 0x07 = 8)⟩
theorem zRrc_B : Statement .zRrc_B :=
  ⟨rfl, Nat.le_of_ble_eq_true rfl, Nat.le_of_ble_eq_true rfl, (rfl : Config.cycZ80.cost .cb 0x08 = 8)⟩
theorem zRrc_C : Statement .zRrc_C :=
  ⟨rfl, Nat.le_of_ble_eq_true rfl, Nat.le_of_ble_eq_true rfl, (rfl : Config.cycZ80.cost .cb 0x09 = 8)⟩
theorem zRrc_D : Statement .zRrc_D :=
  ⟨rfl, Nat.le_of_ble_eq_true rfl, Nat.le_of_ble_eq_true rfl, (rfl : Config.cycZ80.cost .cb 0x0A = 8)⟩
theorem zRrc_E : Statement .zRrc_E :=
  ⟨rfl, Nat.le_of_ble_eq_true rfl, Nat.le_of_ble_eq_true rfl, (rfl : Config.cycZ80.cost .cb 0x0B = 8)⟩
theorem zRrc_H : Statement .zRrc_H :=
  ⟨rfl, Nat.le_of_ble_eq_true rfl, Nat.le_of_ble_eq_true rfl, (rfl : Config.cycZ80.cost .cb 0x0C = 8)⟩
theorem zRrc_L : Statement .zRrc_L :=
  ⟨rfl, Nat.le_of_ble_eq_true rfl, Nat.le_of_ble_eq_true rfl, (rfl : Config.cycZ80.cost .cb 0x0D = 8)⟩
theorem zRrc_atHL : Statement .zRrc_atHL :=
  ⟨rfl, Nat.le_of_ble_eq_true rfl, Nat.le_of_ble_eq_true rfl, (rfl : Config.cycZ80.cost .cb 0x0E = 15)⟩
theorem zRrc_A : Statement .zRrc_A :=
  ⟨rfl, Nat.le_of_ble_eq_true rfl, Nat.le_of_ble_eq_true rfl, (rfl : Config.cycZ80.cost .cb 0x0F = 8)⟩
theorem zRl_B : Statement .zRl_B :=
  ⟨rfl, Nat.le_of_ble_eq_true rfl, Nat.le_of_ble_eq_true rfl, (rfl : Config.cycZ80.cost .cb 0x10 = 8)⟩
theorem zRl_C : Statement .zRl_C :=
  ⟨rfl, Nat.le_of_ble_eq_true rfl, Nat.le_of_ble_eq_true rfl, (rfl : Config.cycZ80.cost .cb 0x11 = 8)⟩
theorem zRl_D : Statement .zRl_D :=
  ⟨rfl, Nat.le_of_ble_eq_true rfl, Nat.le_of_ble_eq_true rfl, (rfl : Config.cycZ80.cost .cb 0x12 = 8)⟩
theorem zRl_E : Statement .zRl_E :=
  ⟨rfl, Nat.le_of_ble_eq_true rfl, Nat.le_of_ble_eq_true rfl, (rfl : Config.cycZ80.cost .cb 0x13 = 8)⟩
theorem zRl_H : Statement .zRl_H :=
  ⟨rfl, Nat.le_of_ble_eq_true rfl, Nat.le_of_ble_eq_true rfl, (rfl : Config.cycZ80.cost .cb 0x14 = 8)⟩
theorem zRl_L : Statement .zRl_L :=
  ⟨rfl, Nat.le_of_ble_eq_true rfl, Nat.le_of_ble_eq_true rfl, (rfl : Config.cycZ80.cost .cb 0x15 = 8)⟩
theorem zRl_atHL : Statement .zRl_atHL :=
  ⟨rfl, Nat.le_of_ble_eq_true rfl, Nat.le_of_ble_eq_true rfl, (rfl : Config.cycZ80.cost .cb 0x16 = 15)⟩
theorem zRl_A : Statement .zRl_A :=
  ⟨rfl, Nat.le_of_ble_eq_true rfl, Nat.le_of_ble_eq_true rfl, (rfl : Config.cycZ80.cost .cb 0x17 = 8)⟩
theorem zRr_B : Statement .zRr_B :=
  ⟨rfl, Nat.le_of_ble_eq_true rfl, Nat.le_of_ble_eq_true rfl, (rfl : Config.cycZ80.cost .cb 0x18 = 8)⟩
theorem zRr_C : Statement .zRr_C :=
  ⟨rfl, Nat.le_of_ble_eq_true rfl, Nat.le_of_ble_eq_true rfl, (rfl : Config.cycZ80.cost .cb 0x19 = 8)⟩
theorem zRr_D : Statement .zRr_D :=
  ⟨rfl, Nat.le_of_ble_eq_true rfl, Nat.le_of_ble_eq_true rfl, (rfl : Config.cycZ80.cost .cb 0x1A = 8)⟩
theorem zRr_E : Statement .zRr_E :=
  ⟨rfl, Nat.le_of_ble_eq_true rfl, Nat.le_of_ble_eq_true rfl, (rfl : Config.cycZ80.cost .cb 0x1B = 8)⟩
theorem zRr_H : Statement .zRr_H :=
  ⟨rfl, Nat.le_of_ble_eq_true rfl, Nat.le_of_ble_eq_true rfl, (rfl : Config.cycZ80.cost .cb 0x1C = 8)⟩
theorem zRr_L : Statement .zRr_L :=
  ⟨rfl, Nat.le_of_ble_eq_true rfl, Nat.le_of_ble_eq_true rfl, (rfl : Config.cycZ80.cost .cb 0x1D = 8)⟩
theorem zRr_atHL : Statement .zRr_atHL :=
  ⟨rfl, Nat.le_of_ble_eq_true rfl, Nat.le_of_ble_eq_true rfl, (rfl : Config.cycZ80.cost .cb 0x1E = 15)⟩
theorem zRr_A : Statement .zRr_A :=
  ⟨rfl, Nat.le_of_ble_eq_true rfl, Nat.le_of_ble_eq_true rfl, (rfl : Config.cycZ80.cost .cb 0x1F = 8)⟩
theorem zSla_B : Statement .zSla_B :=
  ⟨rfl, Nat.le_of_ble_eq_true rfl, Nat.le_of_ble_eq_true rfl, (rfl : Config.cycZ80.cost .cb 0x20 = 8)⟩
theorem zSla_C : Statement .zSla_C :=
  ⟨rfl, Nat.le_of_ble_eq_true rfl, Nat.le_of_ble_eq_true rfl, (rfl : Config.cycZ80.cost .cb 0x21 = 8)⟩
theorem zSla_D : Statement .zSla_D :=
  ⟨rfl, Nat.le_of_ble_eq_true rfl, Nat.le_of_ble_eq_true rfl, (rfl : Config.cycZ80.cost .cb 0x22 = 8)⟩
theorem zSla_E : Statement .zSla_E :=
  ⟨rfl, Nat.le_of_ble_eq_true rfl, Nat.le_of_ble_eq_true rfl, (rfl : Config.cycZ80.cost .cb 0x23 = 8)⟩
theorem zSla_H : Statement .zSla_H :=
  ⟨rfl, Nat.le_of_ble_eq_true rfl, Nat.le_of_ble_eq_true rfl, (rfl : Config.cycZ80.cost .cb 0x24 = 8)⟩
theorem zSla_L : Statement .zSla_L :=
  ⟨rfl, Nat.le_of_ble_eq_true rfl, Nat.le_of_ble_eq_true rfl, (rfl : Config.cycZ80.cost .cb 0x25 = 8)⟩
theorem zSla_atHL : Statement .zSla_atHL :=
  ⟨rfl, Nat.le_of_ble_eq_true rfl, Nat.le_of_ble_eq_true rfl, (rfl : Config.cycZ80.cost .cb 0x26 = 15)⟩
theorem zSla_A : Statement .zSla_A :=
  ⟨rfl, Nat.le_of_ble_eq_true rfl, Nat.le_of_ble_eq_true rfl, (rfl : Config.cycZ80.cost .cb 0x27 = 8)⟩
theorem zSra_B : Statement .zSra_B :=
  ⟨rfl, Nat.le_of_ble_eq_true rfl, Nat.le_of_ble_eq_true rfl, (rfl : Config.cycZ80.cost .cb 0x28 = 8)⟩
theorem zSra_C : Statement .zSra_C :=
  ⟨rfl, Nat.le_of_ble_eq_true rfl, Nat.le_of_ble_eq_true rfl, (rfl : Config.cycZ80.cost .cb 0x29 = 8)⟩
theorem zSra_D : Statement .zSra_D :=
  ⟨rfl, Nat.le_of_ble_eq_true rfl, Nat.le_of_ble_eq_true rfl, (rfl : Config.cycZ80.cost .cb 0x2A = 8)⟩
theorem zSra_E : Statement .zSra_E :=
  ⟨rfl, Nat.le_of_ble_eq_true rfl, Nat.le_of_ble_eq_true rfl, (rfl : Config.cycZ80.cost .cb 0x2B = 8)⟩
theorem zSra_H : Statement .zSra_H :=
  ⟨rfl, Nat.le_of_ble_eq_true rfl, Nat.le_of_ble_eq_true rfl, (rfl : Config.cycZ80.cost .cb 0x2C = 8)⟩
theorem zSra_L : Statement .zSra_L :=
  ⟨rfl, Nat.le_of_ble_eq_true rfl, Nat.le_of_ble_eq_true rfl, (rfl : Config.cycZ80.cost .cb 0x2D = 8)⟩
theorem zSra_atHL : Statement .zSra_atHL :=
  ⟨rfl, Nat.le_of_ble_eq_true rfl, Nat.le_of_ble_eq_true rfl, (rfl : Config.cycZ80.cost .cb 0x2E = 15)⟩
theorem zSra_A : Statement .zSra_A :=
  ⟨rfl, Nat.le_of_ble_eq_true rfl, Nat.le_of_ble_eq_true rfl, (rfl : Config.cycZ80.cost .cb 0x2F = 8)⟩
theorem zSrl_B : Statement .zSrl_B :=
  ⟨rfl, Nat.le_of_ble_eq_true rfl, Nat.le_of_ble_eq_true rfl, (rfl : Config.cycZ80.cost .cb 0x38 = 8)⟩
theorem zSrl_C : Statement .zSrl_C :=
  ⟨rfl, Nat.le_of_ble_eq_true rfl, Nat.le_of_ble_eq_true rfl, (rfl : Config.cycZ80.cost .cb 0x39 = 8)⟩
theorem zSrl_D : Statement .zSrl_D :=
  ⟨rfl, Nat.le_of_ble_eq_true rfl, Nat.le_of_ble_eq_true rfl, (rfl : Config.cycZ80.cost .cb 0x3A = 8)⟩
theorem zSrl_E : Statement .zSrl_E :=
  ⟨rfl, Nat.le_of_ble_eq_true rfl, Nat.le_of_ble_eq_true rfl, (rfl : Config.cycZ80.cost .cb 0x3B = 8)⟩
theorem zSrl_H : Statement .zSrl_H :=
  ⟨rfl, Nat.le_of_ble_eq_true rfl, Nat.le_of_ble_eq_true rfl, (rfl : Config.cycZ80.cost .cb 0x3C = 8)⟩
theorem zSrl_L : Statement .zSrl_L :=
  ⟨rfl, Nat.le_of_ble_eq_true rfl, Nat.le_of_ble_eq_true rfl, (rfl : Config.cycZ80.cost .cb 0x3D = 8)⟩
theorem zSrl_atHL : Statement .zSrl_atHL :=
  ⟨rfl, Nat.le_of_ble_eq_true rfl, Nat.le_of_ble_eq_true rfl, (rfl : Config.cycZ80.cost .cb 0x3E = 15)⟩
theorem zSrl_A : Statement .zSrl_A :=
  ⟨rfl, Nat.le_of_ble_eq_true rfl, Nat.le_of_ble_eq_true rfl, (rfl : Config.cycZ80.cost .cb 0x3F = 8)⟩
theorem zBit_0_B : Statement .zBit_0_B :=
  ⟨rfl, Nat.le_of_ble_eq_true rfl, Nat.le_of_ble_eq_true rfl, (rfl : Config.cycZ80.cost .cb 0x40 = 8)⟩
theorem zBit_0_C : Statement .zBit_0_C :=
  ⟨rfl, Nat.le_of_ble_eq_true rfl, Nat.le_of_ble_eq_true rfl, (rfl : Config.cycZ80.cost .cb 0x41 = 8)⟩
theorem zBit_0_D : Statement .zBit_0_D :=
  ⟨rfl, Nat.le_of_ble_eq_true rfl, Nat.le_of_ble_eq_true rfl, (rfl : Config.cycZ80.cost .cb 0x42 = 8)⟩
theorem zBit_0_E : Statement .zBit_0_E :=
  ⟨rfl, Nat.le_of_ble_eq_true rfl, Nat.le_of_ble_eq_true rfl, (rfl : Config.cycZ80.cost .cb 0x43 = 8)⟩
theorem zBit_0_H : Statement .zBit_0_H :=
  ⟨rfl, Nat.le_of_ble_eq_true rfl, Nat.le_of_ble_eq_true rfl, (rfl : Config.cycZ80.cost .cb 0x44 = 8)⟩
theorem zBit_0_L : Statement .zBit_0_L :=
  ⟨rfl, Nat.le_of_ble_eq_true rfl, Nat.le_of_ble_eq_true rfl, (rfl : Config.cycZ80.cost .cb 0x45 = 8)⟩
theorem zBit_0_atHL : Statement .zBit_0_atHL :=
  ⟨rfl, Nat.le_of_ble_eq_true rfl, Nat.le_of_ble_eq_true rfl, (rfl : Config.cycZ80.cost .cb 0x46 = 12)⟩
theorem zBit_0_A : Statement .zBit_0_A :=
  ⟨rfl, Nat.le_of_ble_eq_true rfl, Nat.le_of_ble_eq_true rfl, (rfl : Config.cycZ80.cost .cb 0x47 = 8)⟩
theorem zBit_1_B : Statement .zBit_1_B :=
  ⟨rfl, Nat.le_of_ble_eq_true rfl, Nat.le_of_ble_eq_true rfl, (rfl : Config.cycZ80.cost .cb 0x48 = 8)⟩
theorem zBit_1_C : Statement .zBit_1_C :=
  ⟨rfl, Nat.le_of_ble_eq_true rfl, Nat.le_of_ble_eq_true rfl, (rfl : Config.cycZ80.cost .cb 0x49 = 8)⟩
theorem zBit_1_D : Statement .zBit_1_D :=
  ⟨rfl, Nat.le_of_ble_eq_true rfl, Nat.le_of_ble_eq_true rfl, (rfl : Config.cycZ80.cost .cb 0x4A = 8)⟩
theorem zBit_1_E : Statement .zBit_1_E :=
  ⟨rfl, Nat.le_of_ble_eq_true rfl, Nat.le_of_ble_eq_true rfl, (rfl : Config.cycZ80.cost .cb 0x4B = 8)⟩
theorem zBit_1_H : Statement .zBit_1_H :=
  ⟨rfl, Nat.le_of_ble_eq_true rfl, Nat.le_of_ble_eq_true rfl, (rfl : Config.cycZ80.cost .cb 0x4C = 8)⟩
theorem zBit_1_L : Statement .zBit_1_L :=
  ⟨rfl, Nat.le_of_ble_eq_true rfl, Nat.le_of_ble_eq_true rfl, (rfl : Config.cycZ80.cost .cb 0x4D = 8)⟩
theorem zBit_1_atHL : Statement .zBit_1_atHL :=
  ⟨rfl, Nat.le_of_ble_eq_true rfl, Nat.le_of_ble_eq_true rfl, (rfl : Config.cycZ80.cost .cb 0x4E = 12)⟩
theorem zBit_1_A : Statement .zBit_1_A :=
  ⟨rfl, Nat.le_of_ble_eq_true rfl, Nat.le_of_ble_eq_true rfl, (rfl : Config.cycZ80.cost .cb 0x4F = 8)⟩
theorem zBit_2_B : Statement .zBit_2_B :=
  ⟨rfl, Nat.le_of_ble_eq_true rfl, Nat.le_of_ble_eq_true rfl, (rfl : Config.cycZ80.cost .cb 0x50 = 8)⟩
theorem zBit_2_C : Statement .zBit_2_C :=
  ⟨rfl, Nat.le_of_ble_eq_true rfl, Nat.le_of_ble_eq_true rfl, (rfl : Config.cycZ80.cost .cb 0x51 = 8)⟩
theorem zBit_2_D : Statement .zBit_2_D :=
  ⟨rfl, Nat.le_of_ble_eq_true rfl, Nat.le_of_ble_eq_true rfl, (rfl : Config.cycZ80.cost .cb 0x52 = 8)⟩
theorem zBit_2_E : Statement .zBit_2_E :=
  ⟨rfl, Nat.le_of_ble_eq_true rfl, Nat.le_of_ble_eq_true rfl, (rfl : Config.cycZ80.cost .cb 0x53 = 8)⟩
theorem zBit_2_H : Statement .zBit_2_H :=
  ⟨rfl, Nat.le_of_ble_eq_true rfl, Nat.le_of_ble_eq_true rfl, (rfl : Config.cycZ80.cost .cb 0x54 = 8)⟩
theorem zBit_2_L : Statement .zBit_2_L :=
  ⟨rfl, Nat.le_of_ble_eq_true rfl, Nat.le_of_ble_eq_true rfl, (rfl : Config.cycZ80.cost .cb 0x55 = 8)⟩
theorem zBit_2_atHL : Statement .zBit_2_atHL :=
  ⟨rfl, Nat.le_of_ble_eq_true rfl, Nat.le_of_ble_eq_true rfl, (rfl : Config.cycZ80.cost .cb 0x56 = 12)⟩
theorem zBit_2_A : Statement .zBit_2_A :=
  ⟨rfl, Nat.le_of_ble_eq_true rfl, Nat.le_of_ble_eq_true rfl, (rfl : Config.cycZ80.cost .cb 0x57 = 8)⟩
theorem zBit_3_B : Statement .zBit_3_B :=
  ⟨rfl, Nat.le_of_ble_eq_true rfl, Nat.le_of_ble_eq_true rfl, (rfl : Config.cycZ80.cost .cb 0x58 = 8)⟩
theorem zBit_3_C : Statement .zBit_3_C :=
  ⟨rfl, Nat.le_of_ble_eq_true rfl, Nat.le_of_ble_eq_true rfl, (rfl : Config.cycZ80.cost .cb 0x59 = 8)⟩
theorem zBit_3_D : Statement .zBit_3_D :=
  ⟨rfl, Nat.le_of_ble_eq_true rfl, Nat.le_of_ble_eq_true rfl, (rfl : Config.cycZ80.cost .cb 0x5A = 8)⟩
theorem zBit_3_E : Statement .zBit_3_E :=
  ⟨rfl, Nat.le_of_ble_eq_true rfl, Nat.le_of_ble_eq_true rfl, (rfl : Config.cycZ80.cost .cb 0x5B = 8)⟩
theorem zBit_3_H : Statement .zBit_3_H :=
  ⟨rfl, Nat.le_of_ble_eq_true rfl, Nat.le_of_ble_eq_true rfl, (rfl : Config.cycZ80.cost .cb 0x5C = 8)⟩
theorem zBit_3_L : Statement .zBit_3_L :=
  ⟨rfl, Nat.le_of_ble_eq_true rfl, Nat.le_of_ble_eq_true rfl, (rfl : Config.cycZ80.cost .cb 0x5D = 8)⟩
theorem zBit_3_atHL : Statement .zBit_3_atHL :=
  ⟨rfl, Nat.le_of_ble_eq_true rfl, Nat.le_of_ble_eq_true rfl, (rfl : Config.cycZ80.cost .cb 0x5E = 12)⟩
theorem zBit_3_A : Statement .zBit_3_A :=
  ⟨rfl, Nat.le_of_ble_eq_true rfl, Nat.le_of_ble_eq_true rfl, (rfl : Config.cycZ80.cost .cb 0x5F = 8)⟩
theorem zBit_4_B : Statement .zBit_4_B :=
  ⟨rfl, Nat.le_of_ble_eq_true rfl, Nat.le_of_ble_eq_true rfl, (rfl : Config.cycZ80.cost .cb 0x60 = 8)⟩
theorem zBit_4_C : Statement .zBit_4_C :=
  ⟨rfl, Nat.le_of_ble_eq_true rfl, Nat.le_of_ble_eq_true rfl, (rfl : Config.cycZ80.cost .cb 0x61 = 8)⟩
theorem zBit_4_D : Statement .zBit_4_D :=
  ⟨rfl, Nat.le_of_ble_eq_true rfl, Nat.le_of_ble_eq_true rfl, (rfl : Config.cycZ80.cost .cb 0x62 = 8)⟩
theorem zBit_4_E : Statement .zBit_4_E :=
  ⟨rfl, Nat.le_of_ble_eq_true rfl, Nat.le_of_ble_eq_true rfl, (rfl : Config.cycZ80.cost .cb 0x63 = 8)⟩
theorem zBit_4_H : Statement .zBit_4_H :=
  ⟨rfl, Nat.le_of_ble_eq_true rfl, Nat.le_of_ble_eq_true rfl, (rfl : Config.cycZ80.cost .cb 0x64 = 8)⟩
theorem zBit_4_L : Statement .zBit_4_L :=
  ⟨rfl, Nat.le_of_ble_eq_true rfl, Nat.le_of_ble_eq_true rfl, (rfl : Config.cycZ80.cost .cb 0x65 = 8)⟩
theorem zBit_4_atHL : Statement .zBit_4_atHL :=
  ⟨rfl, Nat.le_of_ble_eq_true rfl, Nat.le_of_ble_eq_true rfl, (rfl : Config.cycZ80.cost .cb 0x66 = 12)⟩
theorem zBit_4_A : Statement .zBit_4_A :=
  ⟨rfl, Nat.le_of_ble_eq_true rfl, Nat.le_of_ble_eq_true rfl, (rfl : Config.cycZ80.cost .cb 0x67 = 8)⟩
theorem zBit_5_B : Statement .zBit_5_B :=
  ⟨rfl, Nat.le_of_ble_eq_true rfl, Nat.le_of_ble_eq_true rfl, (rfl : Config.cycZ80.cost .cb 0x68 = 8)⟩
theorem zBit_5_C : Statement .zBit_5_C :=
  ⟨rfl, Nat.le_of_ble_eq_true rfl, Nat.le_of_ble_eq_true rfl, (rfl : Config.cycZ80.cost .cb 0x69 = 8)⟩
theorem zBit_5_D : Statement .zBit_5_D :=
  ⟨rfl, Nat.le_of_ble_eq_true rfl, Nat.le_of_ble_eq_true rfl, (rfl : Config.cycZ80.cost .cb 0x6A = 8)⟩
theorem zBit_5_E : Statement .zBit_5_E :=
  ⟨rfl, Nat.le_of_ble_eq_true rfl, Nat.le_of_ble_eq_true rfl, (rfl : Config.cycZ80.cost .cb 0x6B = 8)⟩
theorem zBit_5_H : Statement .zBit_5_H :=
  ⟨rfl, Nat.le_of_ble_eq_true rfl, Nat.le_of_ble_eq_true rfl, (rfl : Config.cycZ80.cost .cb 0x6C = 8)⟩
theorem zBit_5_L : Statement .zBit_5_L :=
  ⟨rfl, Nat.le_of_ble_eq_true rfl, Nat.le_of_ble_eq_true rfl, (rfl : Config.cycZ80.cost .cb 0x6D = 8)⟩
theorem zBit_5_atHL : Statement .zBit_5_atHL :=
  ⟨rfl, Nat.le_of_ble_eq_true rfl, Nat.le_of_ble_eq_true rfl, (rfl : Config.cycZ80.cost .cb 0x6E = 12)⟩
theorem zBit_5_A : Statement .zBit_5_A :=
  ⟨rfl, Nat.le_of_ble_eq_true rfl, Nat.le_of_ble_eq_true rfl, (rfl : Config.cycZ80.cost .cb 0x6F = 8)⟩
theorem zBit_6_B : Statement .zBit_6_B :=
  ⟨rfl, Nat.le_of_ble_eq_true rfl, Nat.le_of_ble_eq_true rfl, (rfl : Config.cycZ80.cost .cb 0x70 = 8)⟩
theorem zBit_6_C : Statement .zBit_6_C :=
  ⟨rfl, Nat.le_of_ble_eq_true rfl, Nat.le_of_ble_eq_true rfl, (rfl : Config.cycZ80.cost .cb 0x71 = 8)⟩
theorem zBit_6_D : Statement .zBit_6_D :=
  ⟨rfl, Nat.le_of_ble_eq_true rfl, Nat.le_of_ble_eq_true rfl, (rfl : Config.cycZ80.cost .cb 0x72 = 8)⟩
theorem zBit_6_E : Statement .zBit_6_E :=
  ⟨rfl, Nat.le_of_ble_eq_true rfl, Nat.le_of_ble_eq_true rfl, (rfl : Config.cycZ80.cost .cb 0x73 = 8)⟩
theorem zBit_6_H : Statement .zBit_6_H :=
  ⟨rfl, Nat.le_of_ble_eq_true rfl, Nat.le_of_ble_eq_true rfl, (rfl : Config.cycZ80.cost .cb 0x74 = 8)⟩
theorem zBit_6_L : Statement .zBit_6_L :=
  ⟨rfl, Nat.le_of_ble_eq_true rfl, Nat.le_of_ble_eq_true rfl, (rfl : Config.cycZ80.cost .cb 0x75 = 8)⟩
theorem zBit_6_atHL : Statement .zBit_6_atHL :=
  ⟨rfl, Nat.le_of_ble_eq_true rfl, Nat.le_of_ble_eq_true rfl, (rfl : Config.cycZ80.cost .cb 0x76 = 12)⟩
theorem zBit_6_A : Statement .zBit_6_A :=
  ⟨rfl, Nat.le_of_ble_eq_true rfl, Nat.le_of_ble_eq_true rfl, (rfl : Config.cycZ80.cost .cb 0x77 = 8)⟩
theorem zBit_7_B : Statement .zBit_7_B :=
  ⟨rfl, Nat.le_of_ble_eq_true rfl, Nat.le_of_ble_eq_true rfl, (rfl : Config.cycZ80.cost .cb 0x78 = 8)⟩
theorem zBit_7_C : Statement .zBit_7_C :=
  ⟨rfl, Nat.le_of_ble_eq_true rfl, Nat.le_of_ble_eq_true rfl, (rfl : Config.cycZ80.cost .cb 0x79 = 8)⟩
theorem zBit_7_D : Statement .zBit_7_D :=
  ⟨rfl, Nat.le_of_ble_eq_true rfl, Nat.le_of_ble_eq_true rfl, (rfl : Config.cycZ80.cost .cb 0x7A = 8)⟩
theorem zBit_7_E : Statement .zBit_7_E :=
  ⟨rfl, Nat.le_of_ble_eq_true rfl, Nat.le_of_ble_eq_true rfl, (rfl : Config.cycZ80.cost .cb 0x7B = 8)⟩
theorem zBit_7_H : Statement .zBit_7_H :=
  ⟨rfl, Nat.le_of_ble_eq_true rfl, Nat.le_of_ble_eq_true rfl, (rfl : Config.cycZ80.cost .cb 0x7C = 8)⟩
theorem zBit_7_L : Statement .zBit_7_L :=
  ⟨rfl, Nat.le_of_ble_eq_true rfl, Nat.le_of_ble_eq_true rfl, (rfl : Config.cycZ80.cost .cb 0x7D = 8)⟩
theorem zBit_7_atHL : Statement .zBit_7_atHL :=
  ⟨rfl, Nat.le_of_ble_eq_true rfl, Nat.le_of_ble_eq_true rfl, (rfl : Config.cycZ80.cost .cb 0x7E = 12)⟩
theorem zBit_7_A : Statement .zBit_7_A :=
  ⟨rfl, Nat.le_of_ble_eq_true rfl, Nat.le_of_ble_eq_true rfl, (rfl : Config.cycZ80.cost .cb 0x7F = 8)⟩
theorem zRes_0_B : Statement .zRes_0_B :=
  ⟨rfl, Nat.le_of_ble_eq_true rfl, Nat.le_of_ble_eq_true rfl, (rfl : Config.cycZ80.cost .cb 0x80 = 8)⟩
theorem zRes_0_C : Statement .zRes_0_C :=
  ⟨rfl, Nat.le_of_ble_eq_true rfl, Nat.le_of_ble_eq_true rfl, (rfl : Config.cycZ80.cost .cb 0x81 = 8)⟩
theorem zRes_0_D : Statement .zRes_0_D :=
  ⟨rfl, Nat.le_of_ble_eq_true rfl, Nat.le_of_ble_eq_true rfl, (rfl : Config.cycZ80.cost .cb 0x82 = 8)⟩
theorem zRes_0_E : Statement .zRes_0_E :=
  ⟨rfl, Nat.le_of_ble_eq_true rfl, Nat.le_of_ble_eq_true rfl, (rfl : Config.cycZ80.cost .cb 0x83 = 8)⟩
theorem zRes_0_H : Statement .zRes_0_H :=
  ⟨rfl, Nat.le_of_ble_eq_true rfl, Nat.le_of_ble_eq_true rfl, (rfl : Config.cycZ80.cost .cb 0x84 = 8)⟩
theorem zRes_0_L : Statement .zRes_0_L :=
  ⟨rfl, Nat.le_of_ble_eq_true rfl, Nat.le_of_ble_eq_true rfl, (rfl : Config.cycZ80.cost .cb 0x85 = 8)⟩
theorem zRes_0_atHL : Statement .zRes_0_atHL :=
  ⟨rfl, Nat.le_of_ble_eq_true rfl, Nat.le_of_ble_eq_true rfl, (rfl : Config.cycZ80.cost .cb 0x86 = 15)⟩
theorem zRes_0_A : Statement .zRes_0_A :=
  ⟨rfl, Nat.le_of_ble_eq_true rfl, Nat.le_of_ble_eq_true rfl, (rfl : Config.cycZ80.cost .cb 0x87 = 8)⟩
theorem zRes_1_B : Statement .zRes_1_B :=
  ⟨rfl, Nat.le_of_ble_eq_true rfl, Nat.le_of_ble_eq_true rfl, (rfl : Config.cycZ80.cost .cb 0x88 = 8)⟩
theorem zRes_1_C : Statement .zRes_1_C :=
  ⟨rfl, Nat.le_of_ble_eq_true rfl, Nat.le_of_ble_eq_true rfl, (rfl : Config.cycZ80.cost .cb 0x89 = 8)⟩
theorem zRes_1_D : Statement .zRes_1_D :=
  ⟨rfl, Nat.le_of_ble_eq_true rfl, Nat.le_of_ble_eq_true rfl, (rfl : Config.cycZ80.cost .cb 0x8A = 8)⟩
theorem zRes_1_E : Statement .zRes_1_E :=
  ⟨rfl, Nat.le_of_ble_eq_true rfl, Nat.le_of_ble_eq_true rfl, (rfl : Config.cycZ80.cost .cb 0x8B = 8)⟩
theorem zRes_1_H : Statement .zRes_1_H :=
  ⟨rfl, Nat.le_of_ble_eq_true rfl, Nat.le_of_ble_eq_true rfl, (rfl : Config.cycZ80.cost .cb 0x8C = 8)⟩
theorem zRes_1_L : Statement .zRes_1_L :=
  ⟨rfl, Nat.le_of_ble_eq_true rfl, Nat.le_of_ble_eq_true rfl, (rfl : Config.cycZ80.cost .cb 0x8D = 8)⟩
theorem zRes_1_atHL : Statement .zRes_1_atHL :=
  ⟨rfl, Nat.le_of_ble_eq_true rfl, Nat.le_of_ble_eq_true rfl, (rfl : Config.cycZ80.cost .cb 0x8E = 15)⟩
theorem zRes_1_A : Statement .zRes_1_A :=
  ⟨rfl, Nat.le_of_ble_eq_true rfl, Nat.le_of_ble_eq_true rfl, (rfl : Config.cycZ80.cost .cb 0x8F = 8)⟩
theorem zRes_2_B : Statement .zRes_2_B :=
  ⟨rfl, Nat.le_of_ble_eq_true rfl, Nat.le_of_ble_eq_true rfl, (rfl : Config.cycZ80.cost .cb 0x90 = 8)⟩
theorem zRes_2_C : Statement .zRes_2_C :=
  ⟨rfl, Nat.le_of_ble_eq_true rfl, Nat.le_of_ble_eq_true rfl, (rfl : Config.cycZ80.cost .cb 0x91 = 8)⟩
theorem zRes_2_D : Statement .zRes_2_D :=
  ⟨rfl, Nat.le_of_ble_eq_true rfl, Nat.le_of_ble_eq_true rfl, (rfl : Config.cycZ80.cost .cb 0x92 = 8)⟩
theorem zRes_2_E : Statement .zRes_2_E :=
  ⟨rfl, Nat.le_of_ble_eq_true rfl, Nat.le_of_ble_eq_true rfl, (rfl : Config.cycZ80.cost .cb 0x93 = 8)⟩
theorem zRes_2_H : Statement .zRes_2_H :=
  ⟨rfl, Nat.le_of_ble_eq_true rfl, Nat.le_of_ble_eq_true rfl, (rfl : Config.cycZ80.cost .cb 0x94 = 8)⟩
theorem zRes_2_L : Statement .zRes_2_L :=
  ⟨rfl, Nat.le_of_ble_eq_true rfl, Nat.le_of_ble_eq_true rfl, (rfl : Config.cycZ80.cost .cb 0x95 = 8)⟩
theorem zRes_2_atHL : Statement .zRes_2_atHL :=
  ⟨rfl, Nat.le_of_ble_eq_true rfl, Nat.le_of_ble_eq_true rfl, (rfl : Config.cycZ80.cost .cb 0x96 = 15)⟩
theorem zRes_2_A : Statement .zRes_2_A :=
  ⟨rfl, Nat.le_of_ble_eq_true rfl, Nat.le_of_ble_eq_true rfl, (rfl : Config.cycZ80.cost .cb 0x97 = 8)⟩
theorem zRes_3_B : Statement .zRes_3_B :=
  ⟨rfl, Nat.le_of_ble_eq_true rfl, Nat.le_of_ble_eq_true rfl, (rfl : Config.cycZ80.cost .cb 0x98 = 8)⟩
theorem zRes_3_C : Statement .zRes_3_C :=
  ⟨rfl, Nat.le_of_ble_eq_true rfl, Nat.le_of_ble_eq_true rfl, (rfl : Config.cycZ80.cost .cb 0x99 = 8)⟩
theorem zRes_3_D : Statement .zRes_3_D :=
  ⟨rfl, Nat.le_of_ble_eq_true rfl, Nat.le_of_ble_eq_true rfl, (rfl : Config.cycZ80.cost .cb 0x9A = 8)⟩
theorem zRes_3_E : Statement .zRes_3_E :=
  ⟨rfl, Nat.le_of_ble_eq_true rfl, Nat.le_of_ble_eq_true rfl, (rfl : Config.cycZ80.cost .cb 0x9B = 8)⟩
theorem zRes_3_H : Statement .zRes_3_H :=
  ⟨rfl, Nat.le_of_ble_eq_true rfl, Nat.le_of_ble_eq_true rfl, (rfl : Config.cycZ80.cost .cb 0x9C = 8)⟩
theorem zRes_3_L : Statement .zRes_3_L :=
  ⟨rfl, Nat.le_of_ble_eq_true rfl, Nat.le_of_ble_eq_true rfl, (rfl : Config.cycZ80.cost .cb 0x9D = 8)⟩
theorem zRes_3_atHL : Statement .zRes_3_atHL :=
  ⟨rfl, Nat.le_of_ble_eq_true rfl, Nat.le_of_ble_eq_true rfl, (rfl : Config.cycZ80.cost .cb 0x9E = 15)⟩
theorem zRes_3_A : Statement .zRes_3_A :=
  ⟨rfl, Nat.le_of_ble_eq_true rfl, Nat.le_of_ble_eq_true rfl, (rfl : Config.cycZ80.cost .cb 0x9F = 8)⟩
theorem zRes_4_B : Statement .zRes_4_B :=
  ⟨rfl, Nat.le_of_ble_eq_true rfl, Nat.le_of_ble_eq_true rfl, (rfl : Config.cycZ80.cost .cb 0xA0 = 8)⟩
theorem zRes_4_C : Statement .zRes_4_C :=
  ⟨rfl, Nat.le_of_ble_eq_true rfl, Nat.le_of_ble_eq_true rfl, (rfl : Config.cycZ80.cost .cb 0xA1 = 8)⟩
theorem zRes_4_D : Statement .zRes_4_D :=
  ⟨rfl, Nat.le_of_ble_eq_true rfl, Nat.le_of_ble_eq_true rfl, (rfl : Config.cycZ80.cost .cb 0xA2 = 8)⟩
theorem zRes_4_E : Statement .zRes_4_E :=
  ⟨rfl, Nat.le_of_ble_eq_true rfl, Nat.le_of_ble_eq_true rfl, (rfl : Config.cycZ80.cost .cb 0xA3 = 8)⟩
theorem zRes_4_H : Statement .zRes_4_H :=
  ⟨rfl, Nat.le_of_ble_eq_true rfl, Nat.le_of_ble_eq_true rfl, (rfl : Config.cycZ80.cost .cb 0xA4 = 8)⟩
theorem zRes_4_L : Statement .zRes_4_L :=
  ⟨rfl, Nat.le_of_ble_eq_true rfl, Nat.le_of_ble_eq_true rfl, (rfl : Config.cycZ80.cost .cb 0xA5 = 8)⟩
theorem zRes_4_atHL : Statement .zRes_4_atHL :=
  ⟨rfl, Nat.le_of_ble_eq_true rfl, Nat.le_of_ble_eq_true rfl, (rfl : Config.cycZ80.cost .cb 0xA6 = 15)⟩
theorem zRes_4_A : Statement .zRes_4_A :=
  ⟨rfl, Nat.le_of_ble_eq_true rfl, Nat.le_of_ble_eq_true rfl, (rfl : Config.cycZ80.cost .cb 0xA7 = 8)⟩
theorem zRes_5_B : Statement .zRes_5_B :=
  ⟨rfl, Nat.le_of_ble_eq_true rfl, Nat.le_of_ble_eq_true rfl, (rfl : Config.cycZ80.cost .cb 0xA8 = 8)⟩
theorem zRes_5_C : Statement .zRes_5_C :=
  ⟨rfl, Nat.le_of_ble_eq_true rfl, Nat.le_of_ble_eq_true rfl, (rfl : Config.cycZ80.cost .cb 0xA9 = 8)⟩
theorem zRes_5_D : Statement .zRes_5_D :=
  ⟨rfl, Nat.le_of_ble_eq_true rfl, Nat.le_of_ble_eq_true rfl, (rfl : Config.cycZ80.cost .cb 0xAA = 8)⟩
theorem zRes_5_E : Statement .zRes_5_E :=
  ⟨rfl, Nat.le_of_ble_eq_true rfl, Nat.le_of_ble_eq_true rfl, (rfl : Config.cycZ80.cost .cb 0xAB = 8)⟩
theorem zRes_5_H : Statement .zRes_5_H :=
  ⟨rfl, Nat.le_of_ble_eq_true rfl, Nat.le_of_ble_eq_true rfl, (rfl : Config.cycZ80.cost .cb 0xAC = 8)⟩
theorem zRes_5_L : Statement .zRes_5_L :=
  ⟨rfl, Nat.le_of_ble_eq_true rfl, Nat.le_of_ble_eq_true rfl, (rfl : Config.cycZ80.cost .cb 0xAD = 8)⟩
theorem zRes_5_atHL : Statement .zRes_5_atHL :=
  ⟨rfl, Nat.le_of_ble_eq_true rfl, Nat.le_of_ble_eq_true rfl, (rfl : Config.cycZ80.cost .cb 0xAE = 15)⟩
theorem zRes_5_A : Statement .zRes_5_A :=
  ⟨rfl, Nat.le_of_ble_eq_true rfl, Nat.le_of_ble_eq_true rfl, (rfl : Config.cycZ80.cost .cb 0xAF = 8)⟩
theorem zRes_6_B : Statement .zRes_6_B :=
  ⟨rfl, Nat.le_of_ble_eq_true rfl, Nat.le_of_ble_eq_true rfl, (rfl : Config.cycZ80.cost .cb 0xB0 = 8)⟩
theorem zRes_6_C : Statement .zRes_6_C :=
  ⟨rfl, Nat.le_of_ble_eq_true rfl, Nat.le_of_ble_eq_true rfl, (rfl : Config.cycZ80.cost .cb 0xB1 = 8)⟩
theorem zRes_6_D : Statement .zRes_6_D :=
  ⟨rfl, Nat.le_of_ble_eq_true rfl, Nat.le_of_ble_eq_true rfl, (rfl : Config.cycZ80.cost .cb 0xB2 = 8)⟩
theorem zRes_6_E : Statement .zRes_6_E :=
  ⟨rfl, Nat.le_of_ble_eq_true rfl, Nat.le_of_ble_eq_true rfl, (rfl : Config.cycZ80.cost .cb 0xB3 = 8)⟩
theorem zRes_6_H : Statement .zRes_6_H :=
  ⟨rfl, Nat.le_of_ble_eq_true rfl, Nat.le_of_ble_eq_true rfl, (rfl : Config.cycZ80.cost .cb 0xB4 = 8)⟩
theorem zRes_6_L : Statement .zRes_6_L :=
  ⟨rfl, Nat.le_of_ble_eq_true rfl, Nat.le_of_ble_eq_true rfl, (rfl : Config.cycZ80.cost .cb 0xB5 = 8)⟩
theorem zRes_6_atHL : Statement .zRes_6_atHL :=
  ⟨rfl, Nat.le_of_ble_eq_true rfl, Nat.le_of_ble_eq_true rfl, (rfl : Config.cycZ80.cost .cb 0xB6 = 15)⟩
theorem zRes_6_A : Statement .zRes_6_A :=
  ⟨rfl, Nat.le_of_ble_eq_true rfl, Nat.le_of_ble_eq_true rfl, (rfl : Config.cycZ80.cost .cb 0xB7 = 8)⟩
theorem zRes_7_B : Statement .zRes_7_B :=
  ⟨rfl, Nat.le_of_ble_eq_true rfl, Nat.le_of_ble_eq_true rfl, (rfl : Config.cycZ80.cost .cb 0xB8 = 8)⟩
theorem zRes_7_C : Statement .zRes_7_C :=
  ⟨rfl, Nat.le_of_ble_eq_true rfl, Nat.le_of_ble_eq_true rfl, (rfl : Config.cycZ80.cost .cb 0xB9 = 8)⟩
theorem zRes_7_D : Statement .zRes_7_D :=
  ⟨rfl, Nat.le_of_ble_eq_true rfl, Nat.le_of_ble_eq_true rfl, (rfl : Config.cycZ80.cost .cb 0xBA = 8)⟩
theorem zRes_7_E : Statement .zRes_7_E :=
  ⟨rfl, Nat.le_of_ble_eq_true rfl, Nat.le_of_ble_eq_true rfl, (rfl : Config.cycZ80.cost .cb 0xBB = 8)⟩
theorem zRes_7_H : Statement .zRes_7_H :=
  ⟨rfl, Nat.le_of_ble_eq_true rfl, Nat.le_of_ble_eq_true rfl, (rfl : Config.cycZ80.cost .cb 0xBC = 8)⟩
theorem zRes_7_L : Statement .zRes_7_L :=
  ⟨rfl, Nat.le_of_ble_eq_true rfl, Nat.le_of_ble_eq_true rfl, (rfl : Config.cycZ80.cost .cb 0xBD = 8)⟩
theorem zRes_7_atHL : Statement .zRes_7_atHL :=
  ⟨rfl, Nat.le_of_ble_eq_true rfl, Nat.le_of_ble_eq_true rfl, (rfl : Config.cycZ80.cost .cb 0xBE = 15)⟩
theorem zRes_7_A : Statement .zRes_7_A :=
  ⟨rfl, Nat.le_of_ble_eq_true rfl, Nat.le_of_ble_eq_true rfl, (rfl : Config.cycZ80.cost .cb 0xBF = 8)⟩
theorem zSet_0_B : Statement .zSet_0_B :=
  ⟨rfl, Nat.le_of_ble_eq_true rfl, Nat.le_of_ble_eq_true rfl, (rfl : Config.cycZ80.cost .cb 0xC0 = 8)⟩
theorem zSet_0_C : Statement .zSet_0_C :=
  ⟨rfl, Nat.le_of_ble_eq_true rfl, Nat.le_of_ble_eq_true rfl, (rfl : Config.cycZ80.cost .cb 0xC1 = 8)⟩
theorem zSet_0_D : Statement .zSet_0_D :=
  ⟨rfl, Nat.le_of_ble_eq_true rfl, Nat.le_of_ble_eq_true rfl, (rfl : Config.cycZ80.cost .cb 0xC2 = 8)⟩
theorem zSet_0_E : Statement .zSet_0_E :=
  ⟨rfl, Nat.le_of_ble_eq_true rfl, Nat.le_of_ble_eq_true rfl, (rfl : Config.cycZ80.cost .cb 0xC3 = 8)⟩
theorem zSet_0_H : Statement .zSet_0_H :=
  ⟨rfl, Nat.le_of_ble_eq_true rfl, Nat.le_of_ble_eq_true rfl, (rfl : Config.cycZ80.cost .cb 0xC4 = 8)⟩
theorem zSet_0_L : Statement .zSet_0_L :=
  ⟨rfl, Nat.le_of_ble_eq_true rfl, Nat.le_of_ble_eq_true rfl, (rfl : Config.cycZ80.cost .cb 0xC5 = 8)⟩
theorem zSet_0_atHL : Statement .zSet_0_atHL :=
  ⟨rfl, Nat.le_of_ble_eq_true rfl, Nat.le_of_ble_eq_true rfl, (rfl : Config.cycZ80.cost .cb 0xC6 = 15)⟩
theorem zSet_0_A : Statement .zSet_0_A :=
  ⟨rfl, Nat.le_of_ble_eq_true rfl, Nat.le_of_ble_eq_true rfl, (rfl : Config.cycZ80.cost .cb 0xC7 = 8)⟩
theorem zSet_1_B : Statement .zSet_1_B :=
  ⟨rfl, Nat.le_of_ble_eq_true rfl, Nat.le_of_ble_eq_true rfl, (rfl : Config.cycZ80.cost .cb 0xC8 = 8)⟩
theorem zSet_1_C : Statement .zSet_1_C :=
  ⟨rfl, Nat.le_of_ble_eq_true rfl, Nat.le_of_ble_eq_true rfl, (rfl : Config.cycZ80.cost .cb 0xC9 = 8)⟩
theorem zSet_1_D : Statement .zSet_1_D :=
  ⟨rfl, Nat.le_of_ble_eq_true rfl, Nat.le_of_ble_eq_true rfl, (rfl : Config.cycZ80.cost .cb 0xCA = 8)⟩
theorem zSet_1_E : Statement .zSet_1_E :=
  ⟨rfl, Nat.le_of_ble_eq_true rfl, Nat.le_of_ble_eq_true rfl, (rfl : Config.cycZ80.cost .cb 0xCB = 8)⟩
theorem zSet_1_H : Statement .zSet_1_H :=
  ⟨rfl, Nat.le_of_ble_eq_true rfl, Nat.le_of_ble_eq_true rfl, (rfl : Config.cycZ80.cost .cb 0xCC = 8)⟩
theorem zSet_1_L : Statement .zSet_1_L :=
  ⟨rfl, Nat.le_of_ble_eq_true rfl, Nat.le_of_ble_eq_true rfl, (rfl : Config.cycZ80.cost .cb 0xCD = 8)⟩
theorem zSet_1_atHL : Statement .zSet_1_atHL :=
  ⟨rfl, Nat.le_of_ble_eq_true rfl, Nat.le_of_ble_eq_true rfl, (rfl : Config.cycZ80.cost .cb 0xCE = 15)⟩
theorem zSet_1_A : Statement .zSet_1_A :=
  ⟨rfl, Nat.le_of_ble_eq_true rfl, Nat.le_of_ble_eq_true rfl, (rfl : Config.cycZ80.cost .cb 0xCF = 8)⟩
theorem zSet_2_B : Statement .zSet_2_B :=
  ⟨rfl, Nat.le_of_ble_eq_true rfl, Nat.le_of_ble_eq_true rfl, (rfl : Config.cycZ80.cost .cb 0xD0 = 8)⟩
theorem zSet_2_C : Statement .zSet_2_C :=
  ⟨rfl, Nat.le_of_ble_eq_true rfl, Nat.le_of_ble_eq_true rfl, (rfl : Config.cycZ80.cost .cb 0xD1 = 8)⟩
theorem zSet_2_D : Statement .zSet_2_D :=
  ⟨rfl, Nat.le_of_ble_eq_true rfl, Nat.le_of_ble_eq_true rfl, (rfl : Config.cycZ80.cost .cb 0xD2 = 8)⟩
theorem zSet_2_E : Statement .zSet_2_E :=
  ⟨rfl, Nat.le_of_ble_eq_true rfl, Nat.le_of_ble_eq_true rfl, (rfl : Config.cycZ80.cost .cb 0xD3 = 8)⟩
theorem zSet_2_H : Statement .zSet_2_H :=
  ⟨rfl, Nat.le_of_ble_eq_true rfl, Nat.le_of_ble_eq_true rfl, (rfl : Config.cycZ80.cost .cb 0xD4 = 8)⟩
theorem zSet_2_L : Statement .zSet_2_L :=
  ⟨rfl, Nat.le_of_ble_eq_true rfl, Nat.le_of_ble_eq_true rfl, (rfl : Config.cycZ80.cost .cb 0xD5 = 8)⟩
theorem zSet_2_atHL : Statement .zSet_2_atHL :=
  ⟨rfl, Nat.le_of_ble_eq_true rfl, Nat.le_of_ble_eq_true rfl, (rfl : Config.cycZ80.cost .cb 0xD6 = 15)⟩
theorem zSet_2_A : Statement .zSet_2_A :=
  ⟨rfl, Nat.le_of_ble_eq_true rfl, Nat.le_of_ble_eq_true rfl, (rfl : Config.cycZ80.cost .cb 0xD7 = 8)⟩
theorem zSet_3_B : Statement .zSet_3_B :=
  ⟨rfl, Nat.le_of_ble_eq_true rfl, Nat.le_of_ble_eq_true rfl, (rfl : Config.cycZ80.cost .cb 0xD8 = 8)⟩
theorem zSet_3_C : Statement .zSet_3_C :=
  ⟨rfl, Nat.le_of_ble_eq_true rfl, Nat.le_of_ble_eq_true rfl, (rfl : Config.cycZ80.cost .cb 0xD9 = 8)⟩
theorem zSet_3_D : Statement .zSet_3_D :=
  ⟨rfl, Nat.le_of_ble_eq_true rfl, Nat.le_of_ble_eq_true rfl, (rfl : Config.cycZ80.cost .cb 0xDA = 8)⟩
theorem zSet_3_E : Statement .zSet_3_E :=
  ⟨rfl, Nat.le_of_ble_eq_true rfl, Nat.le_of_ble_eq_true rfl, (rfl : Config.cycZ80.cost .cb 0xDB = 8)⟩
theorem zSet_3_H : Statement .zSet_3_H :=
  ⟨rfl, Nat.le_of_ble_eq_true rfl, Nat.le_of_ble_eq_true rfl, (rfl : Config.cycZ80.cost .cb 0xDC = 8)⟩
theorem zSet_3_L : Statement .zSet_3_L :=
  ⟨rfl, Nat.le_of_ble_eq_true rfl, Nat.le_of_ble_eq_true rfl, (rfl : Config.cycZ80.cost .cb 0xDD = 8)⟩
theorem zSet_3_atHL : Statement .zSet_3_atHL :=
  ⟨rfl, Nat.le_of_ble_eq_true rfl, Nat.le_of_ble_eq_true rfl, (rfl : Config.cycZ80.cost .cb 0xDE = 15)⟩
theorem zSet_3_A : Statement .zSet_3_A :=
  ⟨rfl, Nat.le_of_ble_eq_true rfl, Nat.le_of_ble_eq_true rfl, (rfl : Config.cycZ80.cost .cb 0xDF = 8)⟩
theorem zSet_4_B : Statement .zSet_4_B :=
  ⟨rfl, Nat.le_of_ble_eq_true rfl, Nat.le_of_ble_eq_true rfl, (rfl : Config.cycZ80.cost .cb 0xE0 = 8)⟩
theorem zSet_4_C : Statement .zSet_4_C :=
  ⟨rfl, Nat.le_of_ble_eq_true rfl, Nat.le_of_ble_eq_true rfl, (rfl : Config.cycZ80.cost .cb 0xE1 = 8)⟩
theorem zSet_4_D : Statement .zSet_4_D :=
  ⟨rfl, Nat.le_of_ble_eq_true rfl, Nat.le_of_ble_eq_true rfl, (rfl : Config.cycZ80.cost .cb 0xE2 = 8)⟩
theorem zSet_4_E : Statement .zSet_4_E :=
  ⟨rfl, Nat.le_of_ble_eq_true rfl, Nat.le_of_ble_eq_true rfl, (rfl : Config.cycZ80.cost .cb 0xE3 = 8)⟩
theorem zSet_4_H : Statement .zSet_4_H :=
  ⟨rfl, Nat.le_of_ble_eq_true rfl, Nat.le_of_ble_eq_true rfl, (rfl : Config.cycZ80.cost .cb 0xE4 = 8)⟩
theorem zSet_4_L : Statement .zSet_4_L :=
  ⟨rfl, Nat.le_of_ble_eq_true rfl, Nat.le_of_ble_eq_true rfl, (rfl : Config.cycZ80.cost .cb 0xE5 = 8)⟩
theorem zSet_4_atHL : Statement .zSet_4_atHL :=
  ⟨rfl, Nat.le_of_ble_eq_true rfl, Nat.le_of_ble_eq_true rfl, (rfl : Config.cycZ80.cost .cb 0xE6 = 15)⟩
theorem zSet_4_A : Statement .zSet_4_A :=
  ⟨rfl, Nat.le_of_ble_eq_true rfl, Nat.le_of_ble_eq_true rfl, (rfl : Config.cycZ80.cost .cb 0xE7 = 8)⟩
theorem zSet_5_B : Statement .zSet_5_B :=
  ⟨rfl, Nat.le_of_ble_eq_true rfl, Nat.le_of_ble_eq_true rfl, (rfl : Config.cycZ80.cost .cb 0xE8 = 8)⟩
theorem zSet_5_C : Statement .zSet_5_C :=
  ⟨rfl, Nat.le_of_ble_eq_true rfl, Nat.le_of_ble_eq_true rfl, (rfl : Config.cycZ80.cost .cb 0xE9 = 8)⟩
theorem zSet_5_D : Statement .zSet_5_D :=
  ⟨rfl, Nat.le_of_ble_eq_true rfl, Nat.le_of_ble_eq_true rfl, (rfl : Config.cycZ80.cost .cb 0xEA = 8)⟩
theorem zSet_5_E : Statement .zSet_5_E :=
  ⟨rfl, Nat.le_of_ble_eq_true rfl, Nat.le_of_ble_eq_true rfl, (rfl : Config.cycZ80.cost .cb 0xEB = 8)⟩
theorem zSet_5_H : Statement .zSet_5_H :=
  ⟨rfl, Nat.le_of_ble_eq_true rfl, Nat.le_of_ble_eq_true rfl, (rfl : Config.cycZ80.cost .cb 0xEC = 8)⟩
theorem zSet_5_L : Statement .zSet_5_L :=
  ⟨rfl, Nat.le_of_ble_eq_true rfl, Nat.le_of_ble_eq_true rfl, (rfl : Config.cycZ80.cost .cb 0xED = 8)⟩
theorem zSet_5_atHL : Statement .zSet_5_atHL :=
  ⟨rfl, Nat.le_of_ble_eq_true rfl, Nat.le_of_ble_eq_true rfl, (rfl : Config.cycZ80.cost .cb 0xEE = 15)⟩
theorem zSet_5_A : Statement .zSet_5_A :=
  ⟨rfl, Nat.le_of_ble_eq_true rfl, Nat.le_of_ble_eq_true rfl, (rfl : Config.cycZ80.cost .cb 0xEF = 8)⟩
theorem zSet_6_B : Statement .zSet_6_B :=
  ⟨rfl, Nat.le_of_ble_eq_true rfl, Nat.le_of_ble_eq_true rfl, (rfl : Config.cycZ80.cost .cb 0xF0 = 8)⟩
theorem zSet_6_C : Statement .zSet_6_C :=
  ⟨rfl, Nat.le_of_ble_eq_true rfl, Nat.le_of_ble_eq_true rfl, (rfl : Config.cycZ80.cost .cb 0xF1 = 8)⟩
theorem zSet_6_D : Statement .zSet_6_D :=
  ⟨rfl, Nat.le_of_ble_eq_true rfl, Nat.le_of_ble_eq_true rfl, (rfl : Config.cycZ80.cost .cb 0xF2 = 8)⟩
theorem zSet_6_E : Statement .zSet_6_E :=
  ⟨rfl, Nat.le_of_ble_eq_true rfl, Nat.le_of_ble_eq_true rfl, (rfl : Config.cycZ80.cost .cb 0xF3 = 8)⟩
theorem zSet_6_H : Statement .zSet_6_H :=
  ⟨rfl, Nat.le_of_ble_eq_true rfl, Nat.le_of_ble_eq_true rfl, (rfl : Config.cycZ80.cost .cb 0xF4 = 8)⟩
theorem zSet_6_L : Statement .zSet_6_L :=
  ⟨rfl, Nat.le_of_ble_eq_true rfl, Nat.le_of_ble_eq_true rfl, (rfl : Config.cycZ80.cost .cb 0xF5 = 8)⟩
theorem zSet_6_atHL : Statement .zSet_6_atHL :=
  ⟨rfl, Nat.le_of_ble_eq_true rfl, Nat.le_of_ble_eq_true rfl, (rfl : Config.cycZ80.cost .cb 0xF6 = 15)⟩
theorem zSet_6_A : Statement .zSet_6_A :=
  ⟨rfl, Nat.le_of_ble_eq_true rfl, Nat.le_of_ble_eq_true rfl, (rfl : Config.cycZ80.cost .cb 0xF7 = 8)⟩
theorem zSet_7_B : Statement .zSet_7_B :=
  ⟨rfl, Nat.le_of_ble_eq_true rfl, Nat.le_of_ble_eq_true rfl, (rfl : Config.cycZ80.cost .cb 0xF8 = 8)⟩
theorem zSet_7_C : Statement .zSet_7_C :=
  ⟨rfl, Nat.le_of_ble_eq_true rfl, Nat.le_of_ble_eq_true rfl, (rfl : Config.cycZ80.cost .cb 0xF9 = 8)⟩
theorem zSet_7_D : Statement .zSet_7_D :=
  ⟨rfl, Nat.le_of_ble_eq_true rfl, Nat.le_of_ble_eq_true rfl, (rfl : Config.cycZ80.cost .cb 0xFA = 8)⟩
theorem zSet_7_E : Statement .zSet_7_E :=
  ⟨rfl, Nat.le_of_ble_eq_true rfl, Nat.le_of_ble_eq_true rfl, (rfl : Config.cycZ80.cost .cb 0xFB = 8)⟩
theorem zSet_7_H : Statement .zSet_7_H :=
  ⟨rfl, Nat.le_of_ble_eq_true rfl, Nat.le_of_ble_eq_true rfl, (rfl : Config.cycZ80.cost .cb 0xFC = 8)⟩
theorem zSet_7_L : Statement .zSet_7_L :=
  ⟨rfl, Nat.le_of_ble_eq_true rfl, Nat.le_of_ble_eq_true rfl, (rfl : Config.cycZ80.cost .cb 0xFD = 8)⟩
theorem zSet_7_atHL : Statement .zSet_7_atHL :=
  ⟨rfl, Nat.le_of_ble_eq_true rfl, Nat.le_of_ble_eq_true rfl, (rfl : Config.cycZ80.cost .cb 0xFE = 15)⟩
theorem zSet_7_A : Statement .zSet_7_A :=
  ⟨rfl, Nat.le_of_ble_eq_true rfl, Nat.le_of_ble_eq_true rfl, (rfl : Config.cycZ80.cost .cb 0xFF = 8)⟩
theorem zIn_B_atC : Statement .zIn_B_atC :=
  ⟨rfl, Nat.le_of_ble_eq_true rfl, Nat.le_of_ble_eq_true rfl, (rfl : Config.cycZ80.cost .ed 0x40 = 12)⟩
theorem zOut_atC_B : Statement .zOut_atC_B :=
  ⟨rfl, Nat.le_of_ble_eq_true rfl, Nat.le_of_ble_eq_true rfl, (rfl : Config.cycZ80.cost .ed 0x41 = 12)⟩
theorem zIn_C_atC : Statement .zIn_C_atC :=
  ⟨rfl, Nat.le_of_ble_eq_true rfl, Nat.le_of_ble_eq_true rfl, (rfl : Config.cycZ80.cost .ed 0x48 = 12)⟩
theorem zOut_atC_C : Statement .zOut_atC_C :=
  ⟨rfl, Nat.le_of_ble_eq_true rfl, Nat.le_of_ble_eq_true rfl, (rfl : Config.cycZ80.cost .ed 0x49 = 12)⟩
theorem zIn_D_atC : Statement .zIn_D_atC :=
  ⟨rfl, Nat.le_of_ble_eq_true rfl, Nat.le_of_ble_eq_true rfl, (rfl : Config.cycZ80.cost .ed 0x50 = 12)⟩
theorem zOut_atC_D : Statement .zOut_atC_D :=
  ⟨rfl, Nat.le_of_ble_eq_true rfl, Nat.le_of_ble_eq_true rfl, (rfl : Config.cycZ80.cost .ed 0x51 = 12)⟩
theorem zIn_E_atC : Statement .zIn_E_atC :=
  ⟨rfl, Nat.le_of_ble_eq_true rfl, Nat.le_of_ble_eq_true rfl, (rfl : Config.cycZ80.cost .ed 0x58 = 12)⟩
theorem zOut_atC_E : Statement .zOut_atC_E :=
  ⟨rfl, Nat.le_of_ble_eq_true rfl, Nat.le_of_ble_eq_true rfl, (rfl : Config.cycZ80.cost .ed 0x59 = 12)⟩
theorem zIn_H_atC : Statement .zIn_H_atC :=
  ⟨rfl, Nat.le_of_ble_eq_true rfl, Nat.le_of_ble_eq_true rfl, (rfl : Config.cycZ80.cost .ed 0x60 = 12)⟩
theorem zOut_atC_H : Statement .zOut_atC_H :=
  ⟨rfl, Nat.le_of_ble_eq_true rfl, Nat.le_of_ble_eq_true rfl, (rfl : Config.cycZ80.cost .ed 0x61 = 12)⟩
theorem zIn_L_atC : Statement .zIn_L_atC :=
  ⟨rfl, Nat.le_of_ble_eq_true rfl, Nat.le_of_ble_eq_true rfl, (rfl : Config.cycZ80.cost .ed 0x68 = 12)⟩
theorem zOut_atC_L : Statement .zOut_atC_L :=
  ⟨rfl, Nat.le_of_ble_eq_true rfl, Nat.le_of_ble_eq_true rfl, (rfl : Config.cycZ80.cost .ed 0x69 = 12)⟩
theorem zIn_A_atC : Statement .zIn_A_atC :=
  ⟨rfl, Nat.le_of_ble_eq_true rfl, Nat.le_of_ble_eq_true rfl, (rfl : Config.cycZ80.cost .ed 0x78 = 12)⟩
theorem zOut_atC_A : Statement .zOut_atC_A :=
  ⟨rfl, Nat.le_of_ble_eq_true rfl, Nat.le_of_ble_eq_true rfl, (rfl : Config.cycZ80.cost .ed 0x79 = 12)⟩
theorem zSbc_HL_BC : Statement .zSbc_HL_BC :=
  ⟨rfl, Nat.le_of_ble_eq_true rfl, Nat.le_of_ble_eq_true rfl, (rfl : Config.cycZ80.cost .ed 0x42 = 15)⟩
theorem zAdc_HL_BC : Statement .zAdc_HL_BC :=
  ⟨rfl, Nat.le_of_ble_eq_true rfl, Nat.le_of_ble_eq_true rfl, (rfl : Config.cycZ80.cost .ed 0x4A = 15)⟩
theorem zLd_atnn_BC (lo : Byte) (hi : Byte) : Statement (.zLd_atnn_BC lo hi) :=
  ⟨rfl, Nat.le_of_ble_eq_true rfl, Nat.le_of_ble_eq_true rfl, (rfl : Config.cycZ80.cost .ed 0x43 = 20)⟩
theorem zLd_BC_atnn (lo : Byte) (hi : Byte) : Statement (.zLd_BC_atnn lo hi) :=
  ⟨rfl, Nat.le_of_ble_eq_true rfl, Nat.le_of_ble_eq_true rfl, (rfl : Config.cycZ80.cost .ed 0x4B = 20)⟩
theorem zSbc_HL_DE : Statement .zSbc_HL_DE :=
  ⟨rfl, Nat.le_of_ble_eq_true rfl, Nat.le_of_ble_eq_true rfl, (rfl : Config.cycZ80.cost .ed 0x52 = 15)⟩
theorem zAdc_HL_DE : Statement .zAdc_HL_DE :=
  ⟨rfl, Nat.le_of_ble_eq_true rfl, Nat.le_of_ble_eq_true rfl, (rfl : Config.cycZ80.cost .ed 0x5A = 15)⟩
theorem zLd_atnn_DE (lo : Byte) (hi : Byte) : Statement (.zLd_atnn_DE lo hi) :=
  ⟨rfl, Nat.le_of_ble_eq_true rfl, Nat.le_of_ble_eq_true rfl, (rfl : Config.cycZ80.cost .ed 0x53 = 20)⟩
theorem zLd_DE_atnn (lo : Byte) (hi : Byte) : Statement (.zLd_DE_atnn lo hi) :=
  ⟨rfl, Nat.le_of_ble_eq_true rfl, Nat.le_of_ble_eq_true rfl, (rfl : Config.cycZ80.cost .ed 0x5B = 20)⟩
theorem zSbc_HL_HL : Statement .zSbc_HL_HL :=
  ⟨rfl, Nat.le_of_ble_eq_true rfl, Nat.le_of_ble_eq_true rfl, (rfl : Config.cycZ80.cost .ed 0x62 = 15)⟩
theorem zAdc_HL_HL : Statement .zAdc_HL_HL :=
  ⟨rfl, Nat.le_of_ble_eq_true rfl, Nat.le_of_ble_eq_true rfl, (rfl : Config.cycZ80.cost .ed 0x6A = 15)⟩
theorem zLdEd_atnn_HL (lo : Byte) (hi : Byte) : Statement (.zLdEd_atnn_HL lo hi) :=
  ⟨rfl, Nat.le_of_ble_eq_true rfl, Nat.le_of_ble_eq_true rfl, (rfl : Config.cycZ80.cost .ed 0x63 = 20)⟩
theorem zLdEd_HL_atnn (lo : Byte) (hi : Byte) : Statement (.zLdEd_HL_atnn lo hi) :=
  ⟨rfl, Nat.le_of_ble_eq_true rfl, Nat.le_of_ble_eq_true rfl, (rfl : Config.cycZ80.cost .ed 0x6B = 20)⟩
theorem zSbc_HL_SP : Statement .zSbc_HL_SP :=
  ⟨rfl, Nat.le_of_ble_eq_true rfl, Nat.le_of_ble_eq_true rfl, (rfl : Config.cycZ80.cost .ed 0x72 = 15)⟩
theorem zAdc_HL_SP : Statement .zAdc_HL_SP :=
  ⟨rfl, Nat.le_of_ble_eq_true rfl, Nat.le_of_ble_eq_true rfl, (rfl : Config.cycZ80.cost .ed 0x7A = 15)⟩
theorem zLd_atnn_SP (lo : Byte) (hi : Byte) : Statement (.zLd_atnn_SP lo hi) :=
  ⟨rfl, Nat.le_of_ble_eq_true rfl, Nat.le_of_ble_eq_true rfl, (rfl : Config.cycZ80.cost .ed 0x73 = 20)⟩
theorem zLd_SP_atnn (lo : Byte) (hi : Byte) : Statement (.zLd_SP_atnn lo hi) :=
  ⟨rfl, Nat.le_of_ble_eq_true rfl, Nat.le_of_ble_eq_true rfl, (rfl : Config.cycZ80.cost .ed 0x7B = 20)⟩
theorem zNeg : Statement .zNeg :=
  ⟨rfl, Nat.le_of_ble_eq_true rfl, Nat.le_of_ble_eq_true rfl, (rfl : Config.cycZ80.cost .ed 0x44 = 8)⟩
theorem zRetn : Statement .zRetn :=
  ⟨rfl, Nat.le_of_ble_eq_true rfl, Nat.le_of_ble_eq_true rfl, (rfl : Config.cycZ80.cost .ed 0x45 = 14)⟩
theorem zReti : Statement .zReti :=
  ⟨rfl, Nat.le_of_ble_eq_true rfl, Nat.le_of_ble_eq_true rfl, (rfl : Config.cycZ80.cost .ed 0x4D = 14)⟩
theorem zIm_0 : Statement .zIm_0 :=
  ⟨rfl, Nat.le_of_ble_eq_true rfl, Nat.le_of_ble_eq_true rfl, (rfl : Config.cycZ80.cost .ed 0x46 = 8)⟩
theorem zIm_1 : Statement .zIm_1 :=
  ⟨rfl, Nat.le_of_ble_eq_true rfl, Nat.le_of_ble_eq_true rfl, (rfl : Config.cycZ80.cost .ed 0x56 = 8)⟩
theorem zIm_2 : Statement .zIm_2 :=
  ⟨rfl, Nat.le_of_ble_eq_true rfl, Nat.le_of_ble_eq_true rfl, (rfl : Config.cycZ80.cost .ed 0x5E = 8)⟩
theorem zLd_I_A : Statement .zLd_I_A :=
  ⟨rfl, Nat.le_of_ble_eq_true rfl, Nat.le_of_ble_eq_true rfl, (rfl : Config.cycZ80.cost .ed 0x47 = 9)⟩
theorem zLd_R_A : Statement .zLd_R_A :=
  ⟨rfl, Nat.le_of_ble_eq_true rfl, Nat.le_of_ble_eq_true rfl, (rfl : Config.cycZ80.cost .ed 0x4F = 9)⟩
theorem zLd_A_I : Statement .zLd_A_I :=
  ⟨rfl, Nat.le_of_ble_eq_true rfl, Nat.le_of_ble_eq_true rfl, (rfl : Config.cycZ80.cost .ed 0x57 = 9)⟩
theorem zLd_A_R : Statement .zLd_A_R :=
  ⟨rfl, Nat.le_of_ble_eq_true rfl, Nat.le_of_ble_eq_true rfl, (rfl : Config.cycZ80.cost .ed 0x5F = 9)⟩
theorem zRrd : Statement .zRrd :=
  ⟨rfl, Nat.le_of_ble_eq_true rfl, Nat.le_of_ble_eq_true rfl, (rfl : Config.cycZ80.cost .ed 0x67 = 18)⟩
theorem zRld : Statement .zRld :=
  ⟨rfl, Nat.le_of_ble_eq_true rfl, Nat.le_of_ble_eq_true rfl, (rfl : Config.cycZ80.cost .ed 0x6F = 18)⟩
theorem zLdi : Statement .zLdi :=
  ⟨rfl, Nat.le_of_ble_eq_true rfl, Nat.le_of_ble_eq_true rfl, (rfl : Config.cycZ80.cost .ed 0xA0 = 16)⟩
theorem zCpi : Statement .zCpi :=
  ⟨rfl, Nat.le_of_ble_eq_true rfl, Nat.le_of_ble_eq_true rfl, (rfl : Config.cycZ80.cost .ed 0xA1 = 16)⟩
theorem zIni : Statement .zIni :=
  ⟨rfl, Nat.le_of_ble_eq_true rfl, Nat.le_of_ble_eq_true rfl, (rfl : Config.cycZ80.cost .ed 0xA2 = 16)⟩
theorem zOuti : Statement .zOuti :=
  ⟨rfl, Nat.le_of_ble_eq_true rfl, Nat.le_of_ble_eq_true rfl, (rfl : Config.cycZ80.cost .ed 0xA3 = 16)⟩
theorem zLdd : Statement .zLdd :=
  ⟨rfl, Nat.le_of_ble_eq_true rfl, Nat.le_of_ble_eq_true rfl, (rfl : Config.cycZ80.cost .ed 0xA8 = 16)⟩
theorem zCpd : Statement .zCpd :=
  ⟨rfl, Nat.le_of_ble_eq_true rfl, Nat.le_of_ble_eq_true rfl, (rfl : Config.cycZ80.cost .ed 0xA9 = 16)⟩
theorem zInd : Statement .zInd :=
  ⟨rfl, Nat.le_of_ble_eq_true rfl, Nat.le_of_ble_eq_true rfl, (rfl : Config.cycZ80.cost .ed 0xAA = 16)⟩
theorem zOutd : Statement .zOutd :=
  ⟨rfl, Nat.le_of_ble_eq_true rfl, Nat.le_of_ble_eq_true rfl, (rfl : Config.cycZ80.cost .ed 0xAB = 16)⟩
theorem zLdir : Statement .zLdir :=
  ⟨rfl, Nat.le_of_ble_eq_true rfl, Nat.le_of_ble_eq_true rfl, (rfl : Config.cycZ80.cost .ed 0xB0 = 16)⟩
theorem zCpir : Statement .zCpir :=
  ⟨rfl, Nat.le_of_ble_eq_true rfl, Nat.le_of_ble_eq_true rfl, (rfl : Config.cycZ80.cost .ed 0xB1 = 16)⟩
theorem zInir : Statement .zInir :=
  ⟨rfl, Nat.le_of_ble_eq_true rfl, Nat.le_of_ble_eq_true rfl, (rfl : Config.cycZ80.cost .ed 0xB2 = 16)⟩
theorem zOtir : Statement .zOtir :=
  ⟨rfl, Nat.le_of_ble_eq_true rfl, Nat.le_of_ble_eq_true rfl, (rfl : Config.cycZ80.cost .ed 0xB3 = 16)⟩
theorem zLddr : Statement .zLddr :=
  ⟨rfl, Nat.le_of_ble_eq_true rfl, Nat.le_of_ble_eq_true rfl, (rfl : Config.cycZ80.cost .ed 0xB8 = 16)⟩
theorem zCpdr : Statement .zCpdr :=
  ⟨rfl, Nat.le_of_ble_eq_true rfl, Nat.le_of_ble_eq_true rfl, (rfl : Config.cycZ80.cost .ed 0xB9 = 16)⟩
theorem zIndr : Statement .zIndr :=
  ⟨rfl, Nat.le_of_ble_eq_true rfl, Nat.le_of_ble_eq_true rfl, (rfl : Config.cycZ80.cost .ed 0xBA = 16)⟩
theorem zOtdr : Statement .zOtdr :=
  ⟨rfl, Nat.le_of_ble_eq_true rfl, Nat.le_of_ble_eq_true rfl, (rfl : Config.cycZ80.cost .ed 0xBB = 16)⟩
theorem zAdd_IX_BC : Statement .zAdd_IX_BC :=
  ⟨rfl, Nat.le_of_ble_eq_true rfl, Nat.le_of_ble_eq_true rfl, (rfl : Config.cycZ80.cost .dd 0x09 = 15)⟩
theorem zAdd_IX_DE : Statement .zAdd_IX_DE :=
  ⟨rfl, Nat.le_of_ble_eq_true rfl, Nat.le_of_ble_eq_true rfl, (rfl : Config.cycZ80.cost .dd 0x19 = 15)⟩
theorem zAdd_IX_IX : Statement .zAdd_IX_IX :=
  ⟨rfl, Nat.le_of_ble_eq_true rfl, Nat.le_of_ble_eq_true rfl, (rfl : Config.cycZ80.cost .dd 0x29 = 15)⟩
theorem zAdd_IX_SP : Statement .zAdd_IX_SP :=
  ⟨rfl, Nat.le_of_ble_eq_true rfl, Nat.le_of_ble_eq_true rfl, (rfl : Config.cycZ80.cost .dd 0x39 = 15)⟩
theorem zLd_IX_nn (lo : Byte) (hi : Byte) : Statement (.zLd_IX_nn lo hi) :=
  ⟨rfl, Nat.le_of_ble_eq_true rfl, Nat.le_of_ble_eq_true rfl, (rfl : Config.cycZ80.cost .dd 0x21 = 14)⟩
theorem zLd_atnn_IX (lo : Byte) (hi : Byte) : Statement (.zLd_atnn_IX lo hi) :=
  ⟨rfl, Nat.le_of_ble_eq_true rfl, Nat.le_of_ble_eq_true rfl, (rfl : Config.cycZ80.cost .dd 0x22 = 20)⟩
theorem zInc_IX : Statement .zInc_IX :=
  ⟨rfl, Nat.le_of_ble_eq_true rfl, Nat.le_of_ble_eq_true rfl, (rfl : Config.cycZ80.cost .dd 0x23 = 10)⟩
theorem zLd_IX_atnn (lo : Byte) (hi : Byte) : Statement (.zLd_IX_atnn lo hi) :=
  ⟨rfl, Nat.le_of_ble_eq_true rfl, Nat.le_of_ble_eq_true rfl, (rfl : Config.cycZ80.cost .dd 0x2A = 20)⟩
theorem zDec_IX : Statement .zDec_IX :=
  ⟨rfl, Nat.le_of_ble_eq_true rfl, Nat.le_of_ble_eq_true rfl, (rfl : Config.cycZ80.cost .dd 0x2B = 10)⟩
theorem zInc_atIXd (d : Byte) : Statement (.zInc_atIXd d) :=
  ⟨rfl, Nat.le_of_ble_eq_true rfl, Nat.le_of_ble_eq_true rfl, (rfl : Config.cycZ80.cost .dd 0x34 = 23)⟩
theorem zDec_atIXd (d : Byte) : Statement (.zDec_atIXd d) :=
  ⟨rfl, Nat.le_of_ble_eq_true rfl, Nat.le_of_ble_eq_true rfl, (rfl : Config.cycZ80.cost .dd 0x35 = 23)⟩
theorem zLd_atIXd_n (d : Byte) (n : Byte) : Statement (.zLd_atIXd_n d n) :=
  ⟨rfl, Nat.le_of_ble_eq_true rfl, Nat.le_of_ble_eq_true rfl, (rfl : Config.cycZ80.cost .dd 0x36 = 19)⟩
theorem zLd_B_atIXd (d : Byte) : Statement (.zLd_B_atIXd d) :=
  ⟨rfl, Nat.le_of_ble_eq_true rfl, Nat.le_of_ble_eq_true rfl, (rfl : Config.cycZ80.cost .dd 0x46 = 19)⟩
theorem zLd_C_atIXd (d : Byte) : Statement (.zLd_C_atIXd d) :=
  ⟨rfl, Nat.le_of_ble_eq_true rfl, Nat.le_of_ble_eq_true rfl, (rfl : Config.cycZ80.cost .dd 0x4E = 19)⟩
theorem zLd_D_atIXd (d : Byte) : Statement (.zLd_D_atIXd d) :=
  ⟨rfl, Nat.le_of_ble_eq_true rfl, Nat.le_of_ble_eq_true rfl, (rfl : Config.cycZ80.cost .dd 0x56 = 19)⟩
theorem zLd_E_atIXd (d : Byte) : Statement (.zLd_E_atIXd d) :=
  ⟨rfl, Nat.le_of_ble_eq_true rfl, Nat.le_of_ble_eq_true rfl, (rfl : Config.cycZ80.cost .dd 0x5E = 19)⟩
theorem zLd_H_atIXd (d : Byte) : Statement (.zLd_H_atIXd d) :=
  ⟨rfl, Nat.le_of_ble_eq_true rfl, Nat.le_of_ble_eq_true rfl, (rfl : Config.cycZ80.cost .dd 0x66 = 19)⟩
theorem zLd_L_atIXd (d : Byte) : Statement (.zLd_L_atIXd d) :=
  ⟨rfl, Nat.le_of_ble_eq_true rfl, Nat.le_of_ble_eq_true rfl, (rfl : Config.cycZ80.cost .dd 0x6E = 19)⟩
theorem zLd_A_atIXd (d : Byte) : Statement (.zLd_A_atIXd d) :=
  ⟨rfl, Nat.le_of_ble_eq_true rfl, Nat.le_of_ble_eq_true rfl, (rfl : Config.cycZ80.cost .dd 0x7E = 19)⟩
theorem zLd_atIXd_B (d : Byte) : Statement (.zLd_atIXd_B d) :=
  ⟨rfl, Nat.le_of_ble_eq_true rfl, Nat.le_of_ble_eq_true rfl, (rfl : Config.cycZ80.cost .dd 0x70 = 19)⟩
theorem zLd_atIXd_C (d : Byte) : Statement (.zLd_atIXd_C d) :=
  ⟨rfl, Nat.le_of_ble_eq_true rfl, Nat.le_of_ble_eq_true rfl, (rfl : Config.cycZ80.cost .dd 0x71 = 19)⟩
theorem zLd_atIXd_D (d : Byte) : Statement (.zLd_atIXd_D d) :=
  ⟨rfl, Nat.le_of_ble_eq_true rfl, Nat.le_of_ble_eq_true rfl, (rfl : Config.cycZ80.cost .dd 0x72 = 19)⟩
theorem zLd_atIXd_E (d : Byte) : Statement (.zLd_atIXd_E d) :=
  ⟨rfl, Nat.le_of_ble_eq_true rfl, Nat.le_of_ble_eq_true rfl, (rfl : Config.cycZ80.cost .dd 0x73 = 19)⟩
theorem zLd_atIXd_H (d : Byte) : Statement (.zLd_atIXd_H d) :=
  ⟨rfl, Nat.le_of_ble_eq_true rfl, Nat.le_of_ble_eq_true rfl, (rfl : Config.cycZ80.cost .dd 0x74 = 19)⟩
theorem zLd_atIXd_L (d : Byte) : Statement (.zLd_atIXd_L d) :=
  ⟨rfl, Nat.le_of_ble_eq_true rfl, Nat.le_of_ble_eq_true rfl, (rfl : Config.cycZ80.cost .dd 0x75 = 19)⟩
theorem zLd_atIXd_A (d : Byte) : Statement (.zLd_atIXd_A d) :=
  ⟨rfl, Nat.le_of_ble_eq_true rfl, Nat.le_of_ble_eq_true rfl, (rfl : Config.cycZ80.cost .dd 0x77 = 19)⟩
theorem zAdd_A_atIXd (d : Byte) : Statement (.zAdd_A_atIXd d) :=
  ⟨rfl, Nat.le_of_ble_eq_true rfl, Nat.le_of_ble_eq_true rfl, (rfl : Config.cycZ80.cost .dd 0x86 = 19)⟩
theorem zAdc_A_atIXd (d : Byte) : Statement (.zAdc_A_atIXd d) :=
  ⟨rfl, Nat.le_of_ble_eq_true rfl, Nat.le_of_ble_eq_true rfl, (rfl : Config.cycZ80.cost .dd 0x8E = 19)⟩
theorem zSub_atIXd (d : Byte) : Statement (.zSub_atIXd d) :=
  ⟨rfl, Nat.le_of_ble_eq_true rfl, Nat.le_of_ble_eq_true rfl, (rfl : Config.cycZ80.cost .dd 0x96 = 19)⟩
theorem zSbc_A_atIXd (d : Byte) : Statement (.zSbc_A_atIXd d) :=
  ⟨rfl, Nat.le_of_ble_eq_true rfl, Nat.le_of_ble_eq_true rfl, (rfl : Config.cycZ80.cost .dd 0x9E = 19)⟩
theorem zAnd_atIXd (d : Byte) : Statement (.zAnd_atIXd d) :=
  ⟨rfl, Nat.le_of_ble_eq_true rfl, Nat.le_of_ble_eq_true rfl, (rfl : Config.cycZ80.cost .dd 0xA6 = 19)⟩
theorem zXor_atIXd (d : Byte) : Statement (.zXor_atIXd d) :=
  ⟨rfl, Nat.le_of_ble_eq_true rfl, Nat.le_of_ble_eq_true rfl, (rfl : Config.cycZ80.cost .dd 0xAE = 19)⟩
theorem zOr_atIXd (d : Byte) : Statement (.zOr_atIXd d) :=
  ⟨rfl, Nat.le_of_ble_eq_true rfl, Nat.le_of_ble_eq_true rfl, (rfl : Config.cycZ80.cost .dd 0xB6 = 19)⟩
theorem zCp_atIXd (d : Byte) : Statement (.zCp_atIXd d) :=
  ⟨rfl, Nat.le_of_ble_eq_true rfl, Nat.le_of_ble_eq_true rfl, (rfl : Config.cycZ80.cost .dd 0xBE = 19)⟩
theorem zPop_IX : Statement .zPop_IX :=
  ⟨rfl, Nat.le_of_ble_eq_true rfl, Nat.le_of_ble_eq_true rfl, (rfl : Config.cycZ80.cost .dd 0xE1 = 14)⟩
theorem zEx_atSP_IX : Statement .zEx_atSP_IX :=
  ⟨rfl, Nat.le_of_ble_eq_true rfl, Nat.le_of_ble_eq_true rfl, (rfl : Config.cycZ80.cost .dd 0xE3 = 23)⟩
theorem zPush_IX : Statement .zPush_IX :=
  ⟨rfl, Nat.le_of_ble_eq_true rfl, Nat.le_of_ble_eq_true rfl, (rfl : Config.cycZ80.cost .dd 0xE5 = 15)⟩
theorem zJp_atIX : Statement .zJp_atIX :=
  ⟨rfl, Nat.le_of_ble_eq_true rfl, Nat.le_of_ble_eq_true rfl, (rfl : Config.cycZ80.cost .dd 0xE9 = 8)⟩
theorem zLd_SP_IX : Statement .zLd_SP_IX :=
  ⟨rfl, Nat.le_of_ble_eq_true rfl, Nat.le_of_ble_eq_true rfl, (rfl : Config.cycZ80.cost .dd 0xF9 = 10)⟩
theorem zRlc_atIXd (d : Byte) : Statement (.zRlc_atIXd d) :=
  ⟨rfl, Nat.le_of_ble_eq_true rfl, Nat.le_of_ble_eq_true rfl, (rfl : Config.cycZ80.cost .ddcb 0x06 = 23)⟩
theorem zRrc_atIXd (d : Byte) : Statement (.zRrc_atIXd d) :=
  ⟨rfl, Nat.le_of_ble_eq_true rfl, Nat.le_of_ble_eq_true rfl, (rfl : Config.cycZ80.cost .ddcb 0x0E = 23)⟩
theorem zRl_atIXd (d : Byte) : Statement (.zRl_atIXd d) :=
  ⟨rfl, Nat.le_of_ble_eq_true rfl, Nat.le_of_ble_eq_true rfl, (rfl : Config.cycZ80.cost .ddcb 0x16 = 23)⟩
theorem zRr_atIXd (d : Byte) : Statement (.zRr_atIXd d) :=
  ⟨rfl, Nat.le_of_ble_eq_true rfl, Nat.le_of_ble_eq_true rfl, (rfl : Config.cycZ80.cost .ddcb 0x1E = 23)⟩
theorem zSla_atIXd (d : Byte) : Statement (.zSla_atIXd d) :=
  ⟨rfl, Nat.le_of_ble_eq_true rfl, Nat.le_of_ble_eq_true rfl, (rfl : Config.cycZ80.cost .ddcb 0x26 = 23)⟩
theorem zSra_atIXd (d : Byte) : Statement (.zSra_atIXd d) :=
  ⟨rfl, Nat.le_of_ble_eq_true rfl, Nat.le_of_ble_eq_true rfl, (rfl : Config.cycZ80.cost .ddcb 0x2E = 23)⟩
theorem zSrl_atIXd (d : Byte) : Statement (.zSrl_atIXd d) :=
  ⟨rfl, Nat.le_of_ble_eq_true rfl, Nat.le_of_ble_eq_true rfl, (rfl : Config.cycZ80.cost .ddcb 0x3E = 23)⟩
theorem zBit_0_atIXd (d : Byte) : Statement (.zBit_0_atIXd d) :=
  ⟨rfl, Nat.le_of_ble_eq_true rfl, Nat.le_of_ble_eq_true rfl, (rfl : Config.cycZ80.cost .ddcb 0x46 = 20)⟩
theorem zBit_1_atIXd (d : Byte) : Statement (.zBit_1_atIXd d) :=
  ⟨rfl, Nat.le_of_ble_eq_true rfl, Nat.le_of_ble_eq_true rfl, (rfl : Config.cycZ80.cost .ddcb 0x4E = 20)⟩
theorem zBit_2_atIXd (d : Byte) : Statement (.zBit_2_atIXd d) :=
  ⟨rfl, Nat.le_of_ble_eq_true rfl, Nat.le_of_ble_eq_true rfl, (rfl : Config.cycZ80.cost .ddcb 0x56 = 20)⟩
theorem zBit_3_atIXd (d : Byte) : Statement (.zBit_3_atIXd d) :=
  ⟨rfl, Nat.le_of_ble_eq_true rfl, Nat.le_of_ble_eq_true rfl, (rfl : Config.cycZ80.cost .ddcb 0x5E = 20)⟩
theorem zBit_4_atIXd (d : Byte) : Statement (.zBit_4_atIXd d) :=
  ⟨rfl, Nat.le_of_ble_eq_true rfl, Nat.le_of_ble_eq_true rfl, (rfl : Config.cycZ80.cost .ddcb 0x66 = 20)⟩
theorem zBit_5_atIXd (d : Byte) : Statement (.zBit_5_atIXd d) :=
  ⟨rfl, Nat.le_of_ble_eq_true rfl, Nat.le_of_ble_eq_true rfl, (rfl : Config.cycZ80.cost .ddcb 0x6E = 20)⟩
theorem zBit_6_atIXd (d : Byte) : Statement (.zBit_6_atIXd d) :=
  ⟨rfl, Nat.le_of_ble_eq_true rfl, Nat.le_of_ble_eq_true rfl, (rfl : Config.cycZ80.cost .ddcb 0x76 = 20)⟩
theorem zBit_7_atIXd (d : Byte) : Statement (.zBit_7_atIXd d) :=
  ⟨rfl, Nat.le_of_ble_eq_true rfl, Nat.le_of_ble_eq_true rfl, (rfl : Config.cycZ80.cost .ddcb 0x7E = 20)⟩
theorem zRes_0_atIXd (d : Byte) : Statement (.zRes_0_atIXd d) :=
  ⟨rfl, Nat.le_of_ble_eq_true rfl, Nat.le_of_ble_eq_true rfl, (rfl : Config.cycZ80.cost .ddcb 0x86 = 23)⟩
theorem zRes_1_atIXd (d : Byte) : Statement (.zRes_1_atIXd d) :=
  ⟨rfl, Nat.le_of_ble_eq_true rfl, Nat.le_of_ble_eq_true rfl, (rfl : Config.cycZ80.cost .ddcb 0x8E = 23)⟩
theorem zRes_2_atIXd (d : Byte) : Statement (.zRes_2_atIXd d) :=
  ⟨rfl, Nat.le_of_ble_eq_true rfl, Nat.le_of_ble_eq_true rfl, (rfl : Config.cycZ80.cost .ddcb 0x96 = 23)⟩
theorem zRes_3_atIXd (d : Byte) : Statement (.zRes_3_atIXd d) :=
  ⟨rfl, Nat.le_of_ble_eq_true rfl, Nat.le_of_ble_eq_true rfl, (rfl : Config.cycZ80.cost .ddcb 0x9E = 23)⟩
theorem zRes_4_atIXd (d : Byte) : Statement (.zRes_4_atIXd d) :=
  ⟨rfl, Nat.le_of_ble_eq_true rfl, Nat.le_of_ble_eq_true rfl, (rfl : Config.cycZ80.cost .ddcb 0xA6 = 23)⟩
theorem zRes_5_atIXd (d : Byte) : Statement (.zRes_5_atIXd d) :=
  ⟨rfl, Nat.le_of_ble_eq_true rfl, Nat.le_of_ble_eq_true rfl, (rfl : Config.cycZ80.cost .ddcb 0xAE = 23)⟩
theorem zRes_6_atIXd (d : Byte) : Statement (.zRes_6_atIXd d) :=
  ⟨rfl, Nat.le_of_ble_eq_true rfl, Nat.le_of_ble_eq_true rfl, (rfl : Config.cycZ80.cost .ddcb 0xB6 = 23)⟩
theorem zRes_7_atIXd (d : Byte) : Statement (.zRes_7_atIXd d) :=
  ⟨rfl, Nat.le_of_ble_eq_true rfl, Nat.le_of_ble_eq_true rfl, (rfl : Config.cycZ80.cost .ddcb 0xBE = 23)⟩
theorem zSet_0_atIXd (d : Byte) : Statement (.zSet_0_atIXd d) :=
  ⟨rfl, Nat.le_of_ble_eq_true rfl, Nat.le_of_ble_eq_true rfl, (rfl : Config.cycZ80.cost .ddcb 0xC6 = 23)⟩
theorem zSet_1_atIXd (d : Byte) : Statement (.zSet_1_atIXd d) :=
  ⟨rfl, Nat.le_of_ble_eq_true rfl, Nat.le_of_ble_eq_true rfl, (rfl : Config.cycZ80.cost .ddcb 0xCE = 23)⟩
theorem zSet_2_atIXd (d : Byte) : Statement (.zSet_2_atIXd d) :=
  ⟨rfl, Nat.le_of_ble_eq_true rfl, Nat.le_of_ble_eq_true rfl, (rfl : Config.cycZ80.cost .ddcb 0xD6 = 23)⟩
theorem zSet_3_atIXd (d : Byte) : Statement (.zSet_3_atIXd d) :=
  ⟨rfl, Nat.le_of_ble_eq_true rfl, Nat.le_of_ble_eq_true rfl, (rfl : Config.cycZ80.cost .ddcb 0xDE = 23)⟩
theorem zSet_4_atIXd (d : Byte) : Statement (.zSet_4_atIXd d) :=
  ⟨rfl, Nat.le_of_ble_eq_true rfl, Nat.le_of_ble_eq_true rfl, (rfl : Config.cycZ80.cost .ddcb 0xE6 = 23)⟩
theorem zSet_5_atIXd (d : Byte) : Statement (.zSet_5_atIXd d) :=
  ⟨rfl, Nat.le_of_ble_eq_true rfl, Nat.le_of_ble_eq_true rfl, (rfl : Config.cycZ80.cost .ddcb 0xEE = 23)⟩
theorem zSet_6_atIXd (d : Byte) : Statement (.zSet_6_atIXd d) :=
  ⟨rfl, Nat.le_of_ble_eq_true rfl, Nat.le_of_ble_eq_true rfl, (rfl : Config.cycZ80.cost .ddcb 0xF6 = 23)⟩
theorem zSet_7_atIXd (d : Byte) : Statement (.zSet_7_atIXd d) :=
  ⟨rfl, Nat.le_of_ble_eq_true rfl, Nat.le_of_ble_eq_true rfl, (rfl : Config.cycZ80.cost .ddcb 0xFE = 23)⟩
theorem zAdd_IY_BC : Statement .zAdd_IY_BC :=
  ⟨rfl, Nat.le_of_ble_eq_true rfl, Nat.le_of_ble_eq_true rfl, (rfl : Config.cycZ80.cost .fd 0x09 = 15)⟩
theorem zAdd_IY_DE : Statement .zAdd_IY_DE :=
  ⟨rfl, Nat.le_of_ble_eq_true rfl, Nat.le_of_ble_eq_true rfl, (rfl : Config.cycZ80.cost .fd 0x19 = 15)⟩
theorem zAdd_IY_IY : Statement .zAdd_IY_IY :=
  ⟨rfl, Nat.le_of_ble_eq_true rfl, Nat.le_of_ble_eq_true rfl, (rfl : Config.cycZ80.cost .fd 0x29 = 15)⟩
theorem zAdd_IY_SP : Statement .zAdd_IY_SP :=
  ⟨rfl, Nat.le_of_ble_eq_true rfl, Nat.le_of_ble_eq_true rfl, (rfl : Config.cycZ80.cost .fd 0x39 = 15)⟩
theorem zLd_IY_nn (lo : Byte) (hi : Byte) : Statement (.zLd_IY_nn lo hi) :=
  ⟨rfl, Nat.le_of_ble_eq_true rfl, Nat.le_of_ble_eq_true rfl, (rfl : Config.cycZ80.cost .fd 0x21 = 14)⟩
theorem zLd_atnn_IY (lo : Byte) (hi : Byte) : Statement (.zLd_atnn_IY lo hi) :=
  ⟨rfl, Nat.le_of_ble_eq_true rfl, Nat.le_of_ble_eq_true rfl, (rfl : Config.cycZ80.cost .fd 0x22 = 20)⟩
theorem zInc_IY : Statement .zInc_IY :=
  ⟨rfl, Nat.le_of_ble_eq_true rfl, Nat.le_of_ble_eq_true rfl, (rfl : Config.cycZ80.cost .fd 0x23 = 10)⟩
theorem zLd_IY_atnn (lo : Byte) (hi : Byte) : Statement (.zLd_IY_atnn lo hi) :=
  ⟨rfl, Nat.le_of_ble_eq_true rfl, Nat.le_of_ble_eq_true rfl, (rfl : Config.cycZ80.cost .fd 0x2A = 20)⟩
theorem zDec_IY : Statement .zDec_IY :=
  ⟨rfl, Nat.le_of_ble_eq_true rfl, Nat.le_of_ble_eq_true rfl, (rfl : Config.cycZ80.cost .fd 0x2B = 10)⟩
theorem zInc_atIYd (d : Byte) : Statement (.zInc_atIYd d) :=
  ⟨rfl, Nat.le_of_ble_eq_true rfl, Nat.le_of_ble_eq_true rfl, (rfl : Config.cycZ80.cost .fd 0x34 = 23)⟩
theorem zDec_atIYd (d : Byte) : Statement (.zDec_atIYd d) :=
  ⟨rfl, Nat.le_of_ble_eq_true rfl, Nat.le_of_ble_eq_true rfl, (rfl : Config.cycZ80.cost .fd 0x35 = 23)⟩
theorem zLd_atIYd_n (d : Byte) (n : Byte) : Statement (.zLd_atIYd_n d n) :=
  ⟨rfl, Nat.le_of_ble_eq_true rfl, Nat.le_of_ble_eq_true rfl, (rfl : Config.cycZ80.cost .fd 0x36 = 19)⟩
theorem zLd_B_atIYd (d : Byte) : Statement (.zLd_B_atIYd d) :=
  ⟨rfl, Nat.le_of_ble_eq_true rfl, Nat.le_of_ble_eq_true rfl, (rfl : Config.cycZ80.cost .fd 0x46 = 19)⟩
theorem zLd_C_atIYd (d : Byte) : Statement (.zLd_C_atIYd d) :=
  ⟨rfl, Nat.le_of_ble_eq_true rfl, Nat.le_of_ble_eq_true rfl, (rfl : Config.cycZ80.cost .fd 0x4E = 19)⟩
theorem zLd_D_atIYd (d : Byte) : Statement (.zLd_D_atIYd d) :=
  ⟨rfl, Nat.le_of_ble_eq_true rfl, Nat.le_of_ble_eq_true rfl, (rfl : Config.cycZ80.cost .fd 0x56 = 19)⟩
theorem zLd_E_atIYd (d : Byte) : Statement (.zLd_E_atIYd d) :=
  ⟨rfl, Nat.le_of_ble_eq_true rfl, Nat.le_of_ble_eq_true rfl, (rfl : Config.cycZ80.cost .fd 0x5E = 19)⟩
theorem zLd_H_atIYd (d : Byte) : Statement (.zLd_H_atIYd d) :=
  ⟨rfl, Nat.le_of_ble_eq_true rfl, Nat.le_of_ble_eq_true rfl, (rfl : Config.cycZ80.cost .fd 0x66 = 19)⟩
theorem zLd_L_atIYd (d : Byte) : Statement (.zLd_L_atIYd d) :=
  ⟨rfl, Nat.le_of_ble_eq_true rfl, Nat.le_of_ble_eq_true rfl, (rfl : Config.cycZ80.cost .fd 0x6E = 19)⟩
theorem zLd_A_atIYd (d : Byte) : Statement (.zLd_A_atIYd d) :=
  ⟨rfl, Nat.le_of_ble_eq_true rfl, Nat.le_of_ble_eq_true rfl, (rfl : Config.cycZ80.cost .fd 0x7E = 19)⟩
theorem zLd_atIYd_B (d : Byte) : Statement (.zLd_atIYd_B d) :=
  ⟨rfl, Nat.le_of_ble_eq_true rfl, Nat.le_of_ble_eq_true rfl, (rfl : Config.cycZ80.cost .fd 0x70 = 19)⟩
theorem zLd_atIYd_C (d : Byte) : Statement (.zLd_atIYd_C d) :=
  ⟨rfl, Nat.le_of_ble_eq_true rfl, Nat.le_of_ble_eq_true rfl, (rfl : Config.cycZ80.cost .fd 0x71 = 19)⟩
theorem zLd_atIYd_D (d : Byte) : Statement (.zLd_atIYd_D d) :=
  ⟨rfl, Nat.le_of_ble_eq_true rfl, Nat.le_of_ble_eq_true rfl, (rfl : Config.cycZ80.cost .fd 0x72 = 19)⟩
theorem zLd_atIYd_E (d : Byte) : Statement (.zLd_atIYd_E d) :=
  ⟨rfl, Nat.le_of_ble_eq_true rfl, Nat.le_of_ble_eq_true rfl, (rfl : Config.cycZ80.cost .fd 0x73 = 19)⟩
theorem zLd_atIYd_H (d : Byte) : Statement (.zLd_atIYd_H d) :=
  ⟨rfl, Nat.le_of_ble_eq_true rfl, Nat.le_of_ble_eq_true rfl, (rfl : Config.cycZ80.cost .fd 0x74 = 19)⟩
theorem zLd_atIYd_L (d : Byte) : Statement (.zLd_atIYd_L d) :=
  ⟨rfl, Nat.le_of_ble_eq_true rfl, Nat.le_of_ble_eq_true rfl, (rfl : Config.cycZ80.cost .fd 0x75 = 19)⟩
theorem zLd_atIYd_A (d : Byte) : Statement (.zLd_atIYd_A d) :=
  ⟨rfl, Nat.le_of_ble_eq_true rfl, Nat.le_of_ble_eq_true rfl, (rfl : Config.cycZ80.cost .fd 0x77 = 19)⟩
theorem zAdd_A_atIYd (d : Byte) : Statement (.zAdd_A_atIYd d) :=
  ⟨rfl, Nat.le_of_ble_eq_true rfl, Nat.le_of_ble_eq_true rfl, (rfl : Config.cycZ80.cost .fd 0x86 = 19)⟩
theorem zAdc_A_atIYd (d : Byte) : Statement (.zAdc_A_atIYd d) :=
  ⟨rfl, Nat.le_of_ble_eq_true rfl, Nat.le_of_ble_eq_true rfl, (rfl : Config.cycZ80.cost .fd 0x8E = 19)⟩
theorem zSub_atIYd (d : Byte) : Statement (.zSub_atIYd d) :=
  ⟨rfl, Nat.le_of_ble_eq_true rfl, Nat.le_of_ble_eq_true rfl, (rfl : Config.cycZ80.cost .fd 0x96 = 19)⟩
theorem zSbc_A_atIYd (d : Byte) : Statement (.zSbc_A_atIYd d) :=
  ⟨rfl, Nat.le_of_ble_eq_true rfl, Nat.le_of_ble_eq_true rfl, (rfl : Config.cycZ80.cost .fd 0x9E = 19)⟩
theorem zAnd_atIYd (d : Byte) : Statement (.zAnd_atIYd d) :=
  ⟨rfl, Nat.le_of_ble_eq_true rfl, Nat.le_of_ble_eq_true rfl, (rfl : Config.cycZ80.cost .fd 0xA6 = 19)⟩
theorem zXor_atIYd (d : Byte) : Statement (.zXor_atIYd d) :=
  ⟨rfl, Nat.le_of_ble_eq_true rfl, Nat.le_of_ble_eq_true rfl, (rfl : Config.cycZ80.cost .fd 0xAE = 19)⟩
theorem zOr_atIYd (d : Byte) : Statement (.zOr_atIYd d) :=
  ⟨rfl, Nat.le_of_ble_eq_true rfl, Nat.le_of_ble_eq_true rfl, (rfl : Config.cycZ80.cost .fd 0xB6 = 19)⟩
theorem zCp_atIYd (d : Byte) : Statement (.zCp_atIYd d) :=
  ⟨rfl, Nat.le_of_ble_eq_true rfl, Nat.le_of_ble_eq_true rfl, (rfl : Config.cycZ80.cost .fd 0xBE = 19)⟩
theorem zPop_IY : Statement .zPop_IY :=
  ⟨rfl, Nat.le_of_ble_eq_true rfl, Nat.le_of_ble_eq_true rfl, (rfl : Config.cycZ80.cost .fd 0xE1 = 14)⟩
theorem zEx_atSP_IY : Statement .zEx_atSP_IY :=
  ⟨rfl, Nat.le_of_ble_eq_true rfl, Nat.le_of_ble_eq_true rfl, (rfl : Config.cycZ80.cost .fd 0xE3 = 23)⟩
theorem zPush_IY : Statement .zPush_IY :=
  ⟨rfl, Nat.le_of_ble_eq_true rfl, Nat.le_of_ble_eq_true rfl, (rfl : Config.cycZ80.cost .fd 0xE5 = 15)⟩
theorem zJp_atIY : Statement .zJp_atIY :=
  ⟨rfl, Nat.le_of_ble_eq_true rfl, Nat.le_of_ble_eq_true rfl, (rfl : Config.cycZ80.cost .fd 0xE9 = 8)⟩
theorem zLd_SP_IY : Statement .zLd_SP_IY :=
  ⟨rfl, Nat.le_of_ble_eq_true rfl, Nat.le_of_ble_eq_true rfl, (rfl : Config.cycZ80.cost .fd 0xF9 = 10)⟩
theorem zRlc_atIYd (d : Byte) : Statement (.zRlc_atIYd d) :=
  ⟨rfl, Nat.le_of_ble_eq_true rfl, Nat.le_of_ble_eq_true rfl, (rfl : Config.cycZ80.cost .fdcb 0x06 = 23)⟩
theorem zRrc_atIYd (d : Byte) : Statement (.zRrc_atIYd d) :=
  ⟨rfl, Nat.le_of_ble_eq_true rfl, Nat.le_of_ble_eq_true rfl, (rfl : Config.cycZ80.cost .fdcb 0x0E = 23)⟩
theorem zRl_atIYd (d : Byte) : Statement (.zRl_atIYd d) :=
  ⟨rfl, Nat.le_of_ble_eq_true rfl, Nat.le_of_ble_eq_true rfl, (rfl : Config.cycZ80.cost .fdcb 0x16 = 23)⟩
theorem zRr_atIYd (d : Byte) : Statement (.zRr_atIYd d) :=
  ⟨rfl, Nat.le_of_ble_eq_true rfl, Nat.le_of_ble_eq_true rfl, (rfl : Config.cycZ80.cost .fdcb 0x1E = 23)⟩
theorem zSla_atIYd (d : Byte) : Statement (.zSla_atIYd d) :=
  ⟨rfl, Nat.le_of_ble_eq_true rfl, Nat.le_of_ble_eq_true rfl, (rfl : Config.cycZ80.cost .fdcb 0x26 = 23)⟩
theorem zSra_atIYd (d : Byte) : Statement (.zSra_atIYd d) :=
  ⟨rfl, Nat.le_of_ble_eq_true rfl, Nat.le_of_ble_eq_true rfl, (rfl : Config.cycZ80.cost .fdcb 0x2E = 23)⟩
theorem zSrl_atIYd (d : Byte) : Statement (.zSrl_atIYd d) :=
  ⟨rfl, Nat.le_of_ble_eq_true rfl, Nat.le_of_ble_eq_true rfl, (rfl : Config.cycZ80.cost .fdcb 0x3E = 23)⟩
theorem zBit_0_atIYd (d : Byte) : Statement (.zBit_0_atIYd d) :=
  ⟨rfl, Nat.le_of_ble_eq_true rfl, Nat.le_of_ble_eq_true rfl, (rfl : Config.cycZ80.cost .fdcb 0x46 = 20)⟩
theorem zBit_1_atIYd (d : Byte) : Statement (.zBit_1_atIYd d) :=
  ⟨rfl, Nat.le_of_ble_eq_true rfl, Nat.le_of_ble_eq_true rfl, (rfl : Config.cycZ80.cost .fdcb 0x4E = 20)⟩
theorem zBit_2_atIYd (d : Byte) : Statement (.zBit_2_atIYd d) :=
  ⟨rfl, Nat.le_of_ble_eq_true rfl, Nat.le_of_ble_eq_true rfl, (rfl : Config.cycZ80.cost .fdcb 0x56 = 20)⟩
theorem zBit_3_atIYd (d : Byte) : Statement (.zBit_3_atIYd d) :=
  ⟨rfl, Nat.le_of_ble_eq_true rfl, Nat.le_of_ble_eq_true rfl, (rfl : Config.cycZ80.cost .fdcb 0x5E = 20)⟩
theorem zBit_4_atIYd (d : Byte) : Statement (.zBit_4_atIYd d) :=
  ⟨rfl, Nat.le_of_ble_eq_true rfl, Nat.le_of_ble_eq_true rfl, (rfl : Config.cycZ80.cost .fdcb 0x66 = 20)⟩
theorem zBit_5_atIYd (d : Byte) : Statement (.zBit_5_atIYd d) :=
  ⟨rfl, Nat.le_of_ble_eq_true rfl, Nat.le_of_ble_eq_true rfl, (rfl : Config.cycZ80.cost .fdcb 0x6E = 20)⟩
theorem zBit_6_atIYd (d : Byte) : Statement (.zBit_6_atIYd d) :=
  ⟨rfl, Nat.le_of_ble_eq_true rfl, Nat.le_of_ble_eq_true rfl, (rfl : Config.cycZ80.cost .fdcb 0x76 = 20)⟩
theorem zBit_7_atIYd (d : Byte) : Statement (.zBit_7_atIYd d) :=
  ⟨rfl, Nat.le_of_ble_eq_true rfl, Nat.le_of_ble_eq_true rfl, (rfl : Config.cycZ80.cost .fdcb 0x7E = 20)⟩
theorem zRes_0_atIYd (d : Byte) : Statement (.zRes_0_atIYd d) :=
  ⟨rfl, Nat.le_of_ble_eq_true rfl, Nat.le_of_ble_eq_true rfl, (rfl : Config.cycZ80.cost .fdcb 0x86 = 23)⟩
theorem zRes_1_atIYd (d : Byte) : Statement (.zRes_1_atIYd d) :=
  ⟨rfl, Nat.le_of_ble_eq_true rfl, Nat.le_of_ble_eq_true rfl, (rfl : Config.cycZ80.cost .fdcb 0x8E = 23)⟩
theorem zRes_2_atIYd (d : Byte) : Statement (.zRes_2_atIYd d) :=
  ⟨rfl, Nat.le_of_ble_eq_true rfl, Nat.le_of_ble_eq_true rfl, (rfl : Config.cycZ80.cost .fdcb 0x96 = 23)⟩
theorem zRes_3_atIYd (d : Byte) : Statement (.zRes_3_atIYd d) :=
  ⟨rfl, Nat.le_of_ble_eq_true rfl, Nat.le_of_ble_eq_true rfl, (rfl : Config.cycZ80.cost .fdcb 0x9E = 23)⟩
theorem zRes_4_atIYd (d : Byte) : Statement (.zRes_4_atIYd d) :=
  ⟨rfl, Nat.le_of_ble_eq_true rfl, Nat.le_of_ble_eq_true rfl, (rfl : Config.cycZ80.cost .fdcb 0xA6 = 23)⟩
theorem zRes_5_atIYd (d : Byte) : Statement (.zRes_5_atIYd d) :=
  ⟨rfl, Nat.le_of_ble_eq_true rfl, Nat.le_of_ble_eq_true rfl, (rfl : Config.cycZ80.cost .fdcb 0xAE = 23)⟩
theorem zRes_6_atIYd (d : Byte) : Statement (.zRes_6_atIYd d) :=
  ⟨rfl, Nat.le_of_ble_eq_true rfl, Nat.le_of_ble_eq_true rfl, (rfl : Config.cycZ80.cost .fdcb 0xB6 = 23)⟩
theorem zRes_7_atIYd (d : Byte) : Statement (.zRes_7_atIYd d) :=
  ⟨rfl, Nat.le_of_ble_eq_true rfl, Nat.le_of_ble_eq_true rfl, (rfl : Config.cycZ80.cost .fdcb 0xBE = 23)⟩
theorem zSet_0_atIYd (d : Byte) : Statement (.zSet_0_atIYd d) :=
  ⟨rfl, Nat.le_of_ble_eq_true rfl, Nat.le_of_ble_eq_true rfl, (rfl : Config.cycZ80.cost .fdcb 0xC6 = 23)⟩
theorem zSet_1_atIYd (d : Byte) : Statement (.zSet_1_atIYd d) :=
  ⟨rfl, Nat.le_of_ble_eq_true rfl, Nat.le_of_ble_eq_true rfl, (rfl : Config.cycZ80.cost .fdcb 0xCE = 23)⟩
theorem zSet_2_atIYd (d : Byte) : Statement (.zSet_2_atIYd d) :=
  ⟨rfl, Nat.le_of_ble_eq_true rfl, Nat.le_of_ble_eq_true rfl, (rfl : Config.cycZ80.cost .fdcb 0xD6 = 23)⟩
theorem zSet_3_atIYd (d : Byte) : Statement (.zSet_3_atIYd d) :=
  ⟨rfl, Nat.le_of_ble_eq_true rfl, Nat.le_of_ble_eq_true rfl, (rfl : Config.cycZ80.cost .fdcb 0xDE = 23)⟩
theorem zSet_4_atIYd (d : Byte) : Statement (.zSet_4_atIYd d) :=
  ⟨rfl, Nat.le_of_ble_eq_true rfl, Nat.le_of_ble_eq_true rfl, (rfl : Config.cycZ80.cost .fdcb 0xE6 = 23)⟩
theorem zSet_5_atIYd (d : Byte) : Statement (.zSet_5_atIYd d) :=
  ⟨rfl, Nat.le_of_ble_eq_true rfl, Nat.le_of_ble_eq_true rfl, (rfl : Config.cycZ80.cost .fdcb 0xEE = 23)⟩
theorem zSet_6_atIYd (d : Byte) : Statement (.zSet_6_atIYd d) :=
  ⟨rfl, Nat.le_of_ble_eq_true rfl, Nat.le_of_ble_eq_true rfl, (rfl : Config.cycZ80.cost .fdcb 0xF6 = 23)⟩
theorem zSet_7_atIYd (d : Byte) : Statement (.zSet_7_atIYd d) :=
  ⟨rfl, Nat.le_of_ble_eq_true rfl, Nat.le_of_ble_eq_true rfl, (rfl : Config.cycZ80.cost .fdcb 0xFE = 23)⟩

end Sys2Proof.Laws.EncodingLength

namespace Sys2Proof

open Laws.EncodingLength in
/-- `CYC` of the spec's tables is, row by row, what the opcode table says (R124, R139). -/
theorem cyc_eq (i : Instr) : i.cyc (Config.machineOf i.family) = i.row.cyc :=
  match i with
  | .mBrk => (mBrk).2.2.2
  | .mOraIzx b1 => (mOraIzx b1).2.2.2
  | .mOraZp b1 => (mOraZp b1).2.2.2
  | .mAslZp b1 => (mAslZp b1).2.2.2
  | .mPhp => (mPhp).2.2.2
  | .mOraImm b1 => (mOraImm b1).2.2.2
  | .mAslAcc => (mAslAcc).2.2.2
  | .mOraAbs b1 b2 => (mOraAbs b1 b2).2.2.2
  | .mAslAbs b1 b2 => (mAslAbs b1 b2).2.2.2
  | .mBpl b1 => (mBpl b1).2.2.2
  | .mOraIzy b1 => (mOraIzy b1).2.2.2
  | .mOraZpx b1 => (mOraZpx b1).2.2.2
  | .mAslZpx b1 => (mAslZpx b1).2.2.2
  | .mClc => (mClc).2.2.2
  | .mOraAby b1 b2 => (mOraAby b1 b2).2.2.2
  | .mOraAbx b1 b2 => (mOraAbx b1 b2).2.2.2
  | .mAslAbx b1 b2 => (mAslAbx b1 b2).2.2.2
  | .mJsr b1 b2 => (mJsr b1 b2).2.2.2
  | .mAndIzx b1 => (mAndIzx b1).2.2.2
  | .mHaltSentinel => (mHaltSentinel).2.2.2
  | .mBitZp b1 => (mBitZp b1).2.2.2
  | .mAndZp b1 => (mAndZp b1).2.2.2
  | .mRolZp b1 => (mRolZp b1).2.2.2
  | .mPlp => (mPlp).2.2.2
  | .mAndImm b1 => (mAndImm b1).2.2.2
  | .mRolAcc => (mRolAcc).2.2.2
  | .mBitAbs b1 b2 => (mBitAbs b1 b2).2.2.2
  | .mAndAbs b1 b2 => (mAndAbs b1 b2).2.2.2
  | .mRolAbs b1 b2 => (mRolAbs b1 b2).2.2.2
  | .mBmi b1 => (mBmi b1).2.2.2
  | .mAndIzy b1 => (mAndIzy b1).2.2.2
  | .mAndZpx b1 => (mAndZpx b1).2.2.2
  | .mRolZpx b1 => (mRolZpx b1).2.2.2
  | .mSec => (mSec).2.2.2
  | .mAndAby b1 b2 => (mAndAby b1 b2).2.2.2
  | .mAndAbx b1 b2 => (mAndAbx b1 b2).2.2.2
  | .mRolAbx b1 b2 => (mRolAbx b1 b2).2.2.2
  | .mRti => (mRti).2.2.2
  | .mEorIzx b1 => (mEorIzx b1).2.2.2
  | .mEorZp b1 => (mEorZp b1).2.2.2
  | .mLsrZp b1 => (mLsrZp b1).2.2.2
  | .mPha => (mPha).2.2.2
  | .mEorImm b1 => (mEorImm b1).2.2.2
  | .mLsrAcc => (mLsrAcc).2.2.2
  | .mJmpAbs b1 b2 => (mJmpAbs b1 b2).2.2.2
  | .mEorAbs b1 b2 => (mEorAbs b1 b2).2.2.2
  | .mLsrAbs b1 b2 => (mLsrAbs b1 b2).2.2.2
  | .mBvc b1 => (mBvc b1).2.2.2
  | .mEorIzy b1 => (mEorIzy b1).2.2.2
  | .mEorZpx b1 => (mEorZpx b1).2.2.2
  | .mLsrZpx b1 => (mLsrZpx b1).2.2.2
  | .mCli => (mCli).2.2.2
  | .mEorAby b1 b2 => (mEorAby b1 b2).2.2.2
  | .mEorAbx b1 b2 => (mEorAbx b1 b2).2.2.2
  | .mLsrAbx b1 b2 => (mLsrAbx b1 b2).2.2.2
  | .mRts => (mRts).2.2.2
  | .mAdcIzx b1 => (mAdcIzx b1).2.2.2
  | .mAdcZp b1 => (mAdcZp b1).2.2.2
  | .mRorZp b1 => (mRorZp b1).2.2.2
  | .mPla => (mPla).2.2.2
  | .mAdcImm b1 => (mAdcImm b1).2.2.2
  | .mRorAcc => (mRorAcc).2.2.2
  | .mJmpInd b1 b2 => (mJmpInd b1 b2).2.2.2
  | .mAdcAbs b1 b2 => (mAdcAbs b1 b2).2.2.2
  | .mRorAbs b1 b2 => (mRorAbs b1 b2).2.2.2
  | .mBvs b1 => (mBvs b1).2.2.2
  | .mAdcIzy b1 => (mAdcIzy b1).2.2.2
  | .mAdcZpx b1 => (mAdcZpx b1).2.2.2
  | .mRorZpx b1 => (mRorZpx b1).2.2.2
  | .mSei => (mSei).2.2.2
  | .mAdcAby b1 b2 => (mAdcAby b1 b2).2.2.2
  | .mAdcAbx b1 b2 => (mAdcAbx b1 b2).2.2.2
  | .mRorAbx b1 b2 => (mRorAbx b1 b2).2.2.2
  | .mStaIzx b1 => (mStaIzx b1).2.2.2
  | .mStyZp b1 => (mStyZp b1).2.2.2
  | .mStaZp b1 => (mStaZp b1).2.2.2
  | .mStxZp b1 => (mStxZp b1).2.2.2
  | .mDey => (mDey).2.2.2
  | .mTxa => (mTxa).2.2.2
  | .mStyAbs b1 b2 => (mStyAbs b1 b2).2.2.2
  | .mStaAbs b1 b2 => (mStaAbs b1 b2).2.2.2
  | .mStxAbs b1 b2 => (mStxAbs b1 b2).2.2.2
  | .mBcc b1 => (mBcc b1).2.2.2
  | .mStaIzy b1 => (mStaIzy b1).2.2.2
  | .mStyZpx b1 => (mStyZpx b1).2.2.2
  | .mStaZpx b1 => (mStaZpx b1).2.2.2
  | .mStxZpy b1 => (mStxZpy b1).2.2.2
  | .mTya => (mTya).2.2.2
  | .mStaAby b1 b2 => (mStaAby b1 b2).2.2.2
  | .mTxs => (mTxs).2.2.2
  | .mStaAbx b1 b2 => (mStaAbx b1 b2).2.2.2
  | .mLdyImm b1 => (mLdyImm b1).2.2.2
  | .mLdaIzx b1 => (mLdaIzx b1).2.2.2
  | .mLdxImm b1 => (mLdxImm b1).2.2.2
  | .mLdyZp b1 => (mLdyZp b1).2.2.2
  | .mLdaZp b1 => (mLdaZp b1).2.2.2
  | .mLdxZp b1 => (mLdxZp b1).2.2.2
  | .mTay => (mTay).2.2.2
  | .mLdaImm b1 => (mLdaImm b1).2.2.2
  | .mTax => (mTax).2.2.2
  | .mLdyAbs b1 b2 => (mLdyAbs b1 b2).2.2.2
  | .mLdaAbs b1 b2 => (mLdaAbs b1 b2).2.2.2
  | .mLdxAbs b1 b2 => (mLdxAbs b1 b2).2.2.2
  | .mBcs b1 => (mBcs b1).2.2.2
  | .mLdaIzy b1 => (mLdaIzy b1).2.2.2
  | .mLdyZpx b1 => (mLdyZpx b1).2.2.2
  | .mLdaZpx b1 => (mLdaZpx b1).2.2.2
  | .mLdxZpy b1 => (mLdxZpy b1).2.2.2
  | .mClv => (mClv).2.2.2
  | .mLdaAby b1 b2 => (mLdaAby b1 b2).2.2.2
  | .mTsx => (mTsx).2.2.2
  | .mLdyAbx b1 b2 => (mLdyAbx b1 b2).2.2.2
  | .mLdaAbx b1 b2 => (mLdaAbx b1 b2).2.2.2
  | .mLdxAby b1 b2 => (mLdxAby b1 b2).2.2.2
  | .mCpyImm b1 => (mCpyImm b1).2.2.2
  | .mCmpIzx b1 => (mCmpIzx b1).2.2.2
  | .mCpyZp b1 => (mCpyZp b1).2.2.2
  | .mCmpZp b1 => (mCmpZp b1).2.2.2
  | .mDecZp b1 => (mDecZp b1).2.2.2
  | .mIny => (mIny).2.2.2
  | .mCmpImm b1 => (mCmpImm b1).2.2.2
  | .mDex => (mDex).2.2.2
  | .mCpyAbs b1 b2 => (mCpyAbs b1 b2).2.2.2
  | .mCmpAbs b1 b2 => (mCmpAbs b1 b2).2.2.2
  | .mDecAbs b1 b2 => (mDecAbs b1 b2).2.2.2
  | .mBne b1 => (mBne b1).2.2.2
  | .mCmpIzy b1 => (mCmpIzy b1).2.2.2
  | .mCmpZpx b1 => (mCmpZpx b1).2.2.2
  | .mDecZpx b1 => (mDecZpx b1).2.2.2
  | .mCld => (mCld).2.2.2
  | .mCmpAby b1 b2 => (mCmpAby b1 b2).2.2.2
  | .mCmpAbx b1 b2 => (mCmpAbx b1 b2).2.2.2
  | .mDecAbx b1 b2 => (mDecAbx b1 b2).2.2.2
  | .mCpxImm b1 => (mCpxImm b1).2.2.2
  | .mSbcIzx b1 => (mSbcIzx b1).2.2.2
  | .mCpxZp b1 => (mCpxZp b1).2.2.2
  | .mSbcZp b1 => (mSbcZp b1).2.2.2
  | .mIncZp b1 => (mIncZp b1).2.2.2
  | .mInx => (mInx).2.2.2
  | .mSbcImm b1 => (mSbcImm b1).2.2.2
  | .mNop => (mNop).2.2.2
  | .mCpxAbs b1 b2 => (mCpxAbs b1 b2).2.2.2
  | .mSbcAbs b1 b2 => (mSbcAbs b1 b2).2.2.2
  | .mIncAbs b1 b2 => (mIncAbs b1 b2).2.2.2
  | .mBeq b1 => (mBeq b1).2.2.2
  | .mSbcIzy b1 => (mSbcIzy b1).2.2.2
  | .mSbcZpx b1 => (mSbcZpx b1).2.2.2
  | .mIncZpx b1 => (mIncZpx b1).2.2.2
  | .mSed => (mSed).2.2.2
  | .mSbcAby b1 b2 => (mSbcAby b1 b2).2.2.2
  | .mSbcAbx b1 b2 => (mSbcAbx b1 b2).2.2.2
  | .mIncAbx b1 b2 => (mIncAbx b1 b2).2.2.2
  | .zNop => (zNop).2.2.2
  | .zLd_BC_nn lo hi => (zLd_BC_nn lo hi).2.2.2
  | .zLd_atBC_A => (zLd_atBC_A).2.2.2
  | .zInc_BC => (zInc_BC).2.2.2
  | .zInc_B => (zInc_B).2.2.2
  | .zDec_B => (zDec_B).2.2.2
  | .zLd_B_n n => (zLd_B_n n).2.2.2
  | .zRlca => (zRlca).2.2.2
  | .zEx_AF_AFalt => (zEx_AF_AFalt).2.2.2
  | .zAdd_HL_BC => (zAdd_HL_BC).2.2.2
  | .zLd_A_atBC => (zLd_A_atBC).2.2.2
  | .zDec_BC => (zDec_BC).2.2.2
  | .zInc_C => (zInc_C).2.2.2
  | .zDec_C => (zDec_C).2.2.2
  | .zLd_C_n n => (zLd_C_n n).2.2.2
  | .zRrca => (zRrca).2.2.2
  | .zDjnz_e e => (zDjnz_e e).2.2.2
  | .zLd_DE_nn lo hi => (zLd_DE_nn lo hi).2.2.2
  | .zLd_atDE_A => (zLd_atDE_A).2.2.2
  | .zInc_DE => (zInc_DE).2.2.2
  | .zInc_D => (zInc_D).2.2.2
  | .zDec_D => (zDec_D).2.2.2
  | .zLd_D_n n => (zLd_D_n n).2.2.2
  | .zRla => (zRla).2.2.2
  | .zJr_e e => (zJr_e e).2.2.2
  | .zAdd_HL_DE => (zAdd_HL_DE).2.2.2
  | .zLd_A_atDE => (zLd_A_atDE).2.2.2
  | .zDec_DE => (zDec_DE).2.2.2
  | .zInc_E => (zInc_E).2.2.2
  | .zDec_E => (zDec_E).2.2.2
  | .zLd_E_n n => (zLd_E_n n).2.2.2
  | .zRra => (zRra).2.2.2
  | .zJr_NZ_e e => (zJr_NZ_e e).2.2.2
  | .zLd_HL_nn lo hi => (zLd_HL_nn lo hi).2.2.2
  | .zLd_atnn_HL lo hi => (zLd_atnn_HL lo hi).2.2.2
  | .zInc_HL => (zInc_HL).2.2.2
  | .zInc_H => (zInc_H).2.2.2
  | .zDec_H => (zDec_H).2.2.2
  | .zLd_H_n n => (zLd_H_n n).2.2.2
  | .zDaa => (zDaa).2.2.2
  | .zJr_Z_e e => (zJr_Z_e e).2.2.2
  | .zAdd_HL_HL => (zAdd_HL_HL).2.2.2
  | .zLd_HL_atnn lo hi => (zLd_HL_atnn lo hi).2.2.2
  | .zDec_HL => (zDec_HL).2.2.2
  | .zInc_L => (zInc_L).2.2.2
  | .zDec_L => (zDec_L).2.2.2
  | .zLd_L_n n => (zLd_L_n n).2.2.2
  | .zCpl => (zCpl).2.2.2
  | .zJr_NC_e e => (zJr_NC_e e).2.2.2
  | .zLd_SP_nn lo hi => (zLd_SP_nn lo hi).2.2.2
  | .zLd_atnn_A lo hi => (zLd_atnn_A lo hi).2.2.2
  | .zInc_SP => (zInc_SP).2.2.2
  | .zInc_atHL => (zInc_atHL).2.2.2
  | .zDec_atHL => (zDec_atHL).2.2.2
  | .zLd_atHL_n n => (zLd_atHL_n n).2.2.2
  | .zScf => (zScf).2.2.2
  | .zJr_C_e e => (zJr_C_e e).2.2.2
  | .zAdd_HL_SP => (zAdd_HL_SP).2.2.2
  | .zLd_A_atnn lo hi => (zLd_A_atnn lo hi).2.2.2
  | .zDec_SP => (zDec_SP).2.2.2
  | .zInc_A => (zInc_A).2.2.2
  | .zDec_A => (zDec_A).2.2.2
  | .zLd_A_n n => (zLd_A_n n).2.2.2
  | .zCcf => (zCcf).2.2.2
  | .zLd_B_B => (zLd_B_B).2.2.2
  | .zLd_B_C => (zLd_B_C).2.2.2
  | .zLd_B_D => (zLd_B_D).2.2.2
  | .zLd_B_E => (zLd_B_E).2.2.2
  | .zLd_B_H => (zLd_B_H).2.2.2
  | .zLd_B_L => (zLd_B_L).2.2.2
  | .zLd_B_atHL => (zLd_B_atHL).2.2.2
  | .zLd_B_A => (zLd_B_A).2.2.2
  | .zLd_C_B => (zLd_C_B).2.2.2
  | .zLd_C_C => (zLd_C_C).2.2.2
  | .zLd_C_D => (zLd_C_D).2.2.2
  | .zLd_C_E => (zLd_C_E).2.2.2
  | .zLd_C_H => (zLd_C_H).2.2.2
  | .zLd_C_L => (zLd_C_L).2.2.2
  | .zLd_C_atHL => (zLd_C_atHL).2.2.2
  | .zLd_C_A => (zLd_C_A).2.2.2
  | .zLd_D_B => (zLd_D_B).2.2.2
  | .zLd_D_C => (zLd_D_C).2.2.2
  | .zLd_D_D => (zLd_D_D).2.2.2
  | .zLd_D_E => (zLd_D_E).2.2.2
  | .zLd_D_H => (zLd_D_H).2.2.2
  | .zLd_D_L => (zLd_D_L).2.2.2
  | .zLd_D_atHL => (zLd_D_atHL).2.2.2
  | .zLd_D_A => (zLd_D_A).2.2.2
  | .zLd_E_B => (zLd_E_B).2.2.2
  | .zLd_E_C => (zLd_E_C).2.2.2
  | .zLd_E_D => (zLd_E_D).2.2.2
  | .zLd_E_E => (zLd_E_E).2.2.2
  | .zLd_E_H => (zLd_E_H).2.2.2
  | .zLd_E_L => (zLd_E_L).2.2.2
  | .zLd_E_atHL => (zLd_E_atHL).2.2.2
  | .zLd_E_A => (zLd_E_A).2.2.2
  | .zLd_H_B => (zLd_H_B).2.2.2
  | .zLd_H_C => (zLd_H_C).2.2.2
  | .zLd_H_D => (zLd_H_D).2.2.2
  | .zLd_H_E => (zLd_H_E).2.2.2
  | .zLd_H_H => (zLd_H_H).2.2.2
  | .zLd_H_L => (zLd_H_L).2.2.2
  | .zLd_H_atHL => (zLd_H_atHL).2.2.2
  | .zLd_H_A => (zLd_H_A).2.2.2
  | .zLd_L_B => (zLd_L_B).2.2.2
  | .zLd_L_C => (zLd_L_C).2.2.2
  | .zLd_L_D => (zLd_L_D).2.2.2
  | .zLd_L_E => (zLd_L_E).2.2.2
  | .zLd_L_H => (zLd_L_H).2.2.2
  | .zLd_L_L => (zLd_L_L).2.2.2
  | .zLd_L_atHL => (zLd_L_atHL).2.2.2
  | .zLd_L_A => (zLd_L_A).2.2.2
  | .zLd_atHL_B => (zLd_atHL_B).2.2.2
  | .zLd_atHL_C => (zLd_atHL_C).2.2.2
  | .zLd_atHL_D => (zLd_atHL_D).2.2.2
  | .zLd_atHL_E => (zLd_atHL_E).2.2.2
  | .zLd_atHL_H => (zLd_atHL_H).2.2.2
  | .zLd_atHL_L => (zLd_atHL_L).2.2.2
  | .zHalt => (zHalt).2.2.2
  | .zLd_atHL_A => (zLd_atHL_A).2.2.2
  | .zLd_A_B => (zLd_A_B).2.2.2
  | .zLd_A_C => (zLd_A_C).2.2.2
  | .zLd_A_D => (zLd_A_D).2.2.2
  | .zLd_A_E => (zLd_A_E).2.2.2
  | .zLd_A_H => (zLd_A_H).2.2.2
  | .zLd_A_L => (zLd_A_L).2.2.2
  | .zLd_A_atHL => (zLd_A_atHL).2.2.2
  | .zLd_A_A => (zLd_A_A).2.2.2
  | .zAdd_A_B => (zAdd_A_B).2.2.2
  | .zAdd_A_C => (zAdd_A_C).2.2.2
  | .zAdd_A_D => (zAdd_A_D).2.2.2
  | .zAdd_A_E => (zAdd_A_E).2.2.2
  | .zAdd_A_H => (zAdd_A_H).2.2.2
  | .zAdd_A_L => (zAdd_A_L).2.2.2
  | .zAdd_A_atHL => (zAdd_A_atHL).2.2.2
  | .zAdd_A_A => (zAdd_A_A).2.2.2
  | .zAdc_A_B => (zAdc_A_B).2.2.2
  | .zAdc_A_C => (zAdc_A_C).2.2.2
  | .zAdc_A_D => (zAdc_A_D).2.2.2
  | .zAdc_A_E => (zAdc_A_E).2.2.2
  | .zAdc_A_H => (zAdc_A_H).2.2.2
  | .zAdc_A_L => (zAdc_A_L).2.2.2
  | .zAdc_A_atHL => (zAdc_A_atHL).2.2.2
  | .zAdc_A_A => (zAdc_A_A).2.2.2
  | .zSub_B => (zSub_B).2.2.2
  | .zSub_C => (zSub_C).2.2.2
  | .zSub_D => (zSub_D).2.2.2
  | .zSub_E => (zSub_E).2.2.2
  | .zSub_H => (zSub_H).2.2.2
  | .zSub_L => (zSub_L).2.2.2
  | .zSub_atHL => (zSub_atHL).2.2.2
  | .zSub_A => (zSub_A).2.2.2
  | .zSbc_A_B => (zSbc_A_B).2.2.2
  | .zSbc_A_C => (zSbc_A_C).2.2.2
  | .zSbc_A_D => (zSbc_A_D).2.2.2
  | .zSbc_A_E => (zSbc_A_E).2.2.2
  | .zSbc_A_H => (zSbc_A_H).2.2.2
  | .zSbc_A_L => (zSbc_A_L).2.2.2
  | .zSbc_A_atHL => (zSbc_A_atHL).2.2.2
  | .zSbc_A_A => (zSbc_A_A).2.2.2
  | .zAnd_B => (zAnd_B).2.2.2
  | .zAnd_C => (zAnd_C).2.2.2
  | .zAnd_D => (zAnd_D).2.2.2
  | .zAnd_E => (zAnd_E).2.2.2
  | .zAnd_H => (zAnd_H).2.2.2
  | .zAnd_L => (zAnd_L).2.2.2
  | .zAnd_atHL => (zAnd_atHL).2.2.2
  | .zAnd_A => (zAnd_A).2.2.2
  | .zXor_B => (zXor_B).2.2.2
  | .zXor_C => (zXor_C).2.2.2
  | .zXor_D => (zXor_D).2.2.2
  | .zXor_E => (zXor_E).2.2.2
  | .zXor_H => (zXor_H).2.2.2
  | .zXor_L => (zXor_L).2.2.2
  | .zXor_atHL => (zXor_atHL).2.2.2
  | .zXor_A => (zXor_A).2.2.2
  | .zOr_B => (zOr_B).2.2.2
  | .zOr_C => (zOr_C).2.2.2
  | .zOr_D => (zOr_D).2.2.2
  | .zOr_E => (zOr_E).2.2.2
  | .zOr_H => (zOr_H).2.2.2
  | .zOr_L => (zOr_L).2.2.2
  | .zOr_atHL => (zOr_atHL).2.2.2
  | .zOr_A => (zOr_A).2.2.2
  | .zCp_B => (zCp_B).2.2.2
  | .zCp_C => (zCp_C).2.2.2
  | .zCp_D => (zCp_D).2.2.2
  | .zCp_E => (zCp_E).2.2.2
  | .zCp_H => (zCp_H).2.2.2
  | .zCp_L => (zCp_L).2.2.2
  | .zCp_atHL => (zCp_atHL).2.2.2
  | .zCp_A => (zCp_A).2.2.2
  | .zRet_NZ => (zRet_NZ).2.2.2
  | .zPop_BC => (zPop_BC).2.2.2
  | .zJp_NZ_nn lo hi => (zJp_NZ_nn lo hi).2.2.2
  | .zJp_nn lo hi => (zJp_nn lo hi).2.2.2
  | .zCall_NZ_nn lo hi => (zCall_NZ_nn lo hi).2.2.2
  | .zPush_BC => (zPush_BC).2.2.2
  | .zAdd_A_n n => (zAdd_A_n n).2.2.2
  | .zRst_00H => (zRst_00H).2.2.2
  | .zRet_Z => (zRet_Z).2.2.2
  | .zRet => (zRet).2.2.2
  | .zJp_Z_nn lo hi => (zJp_Z_nn lo hi).2.2.2
  | .zCall_Z_nn lo hi => (zCall_Z_nn lo hi).2.2.2
  | .zCall_nn lo hi => (zCall_nn lo hi).2.2.2
  | .zAdc_A_n n => (zAdc_A_n n).2.2.2
  | .zRst_08H => (zRst_08H).2.2.2
  | .zRet_NC => (zRet_NC).2.2.2
  | .zPop_DE => (zPop_DE).2.2.2
  | .zJp_NC_nn lo hi => (zJp_NC_nn lo hi).2.2.2
  | .zOut_atn_A n => (zOut_atn_A n).2.2.2
  | .zCall_NC_nn lo hi => (zCall_NC_nn lo hi).2.2.2
  | .zPush_DE => (zPush_DE).2.2.2
  | .zSub_n n => (zSub_n n).2.2.2
  | .zRst_10H => (zRst_10H).2.2.2
  | .zRet_C => (zRet_C).2.2.2
  | .zExx => (zExx).2.2.2
  | .zJp_C_nn lo hi => (zJp_C_nn lo hi).2.2.2
  | .zIn_A_atn n => (zIn_A_atn n).2.2.2
  | .zCall_C_nn lo hi => (zCall_C_nn lo hi).2.2.2
  | .zSbc_A_n n => (zSbc_A_n n).2.2.2
  | .zRst_18H => (zRst_18H).2.2.2
  | .zRet_PO => (zRet_PO).2.2.2
  | .zPop_HL => (zPop_HL).2.2.2
  | .zJp_PO_nn lo hi => (zJp_PO_nn lo hi).2.2.2
  | .zEx_atSP_HL => (zEx_atSP_HL).2.2.2
  | .zCall_PO_nn lo hi => (zCall_PO_nn lo hi).2.2.2
  | .zPush_HL => (zPush_HL).2.2.2
  | .zAnd_n n => (zAnd_n n).2.2.2
  | .zRst_20H => (zRst_20H).2.2.2
  | .zRet_PE => (zRet_PE).2.2.2
  | .zJp_atHL => (zJp_atHL).2.2.2
  | .zJp_PE_nn lo hi => (zJp_PE_nn lo hi).2.2.2
  | .zEx_DE_HL => (zEx_DE_HL).2.2.2
  | .zCall_PE_nn lo hi => (zCall_PE_nn lo hi).2.2.2
  | .zXor_n n => (zXor_n n).2.2.2
  | .zRst_28H => (zRst_28H).2.2.2
  | .zRet_P => (zRet_P).2.2.2
  | .zPop_AF => (zPop_AF).2.2.2
  | .zJp_P_nn lo hi => (zJp_P_nn lo hi).2.2.2
  | .zDi => (zDi).2.2.2
  | .zCall_P_nn lo hi => (zCall_P_nn lo hi).2.2.2
  | .zPush_AF => (zPush_AF).2.2.2
  | .zOr_n n => (zOr_n n).2.2.2
  | .zRst_30H => (zRst_30H).2.2.2
  | .zRet_M => (zRet_M).2.2.2
  | .zLd_SP_HL => (zLd_SP_HL).2.2.2
  | .zJp_M_nn lo hi => (zJp_M_nn lo hi).2.2.2
  | .zEi => (zEi).2.2.2
  | .zCall_M_nn lo hi => (zCall_M_nn lo hi).2.2.2
  | .zCp_n n => (zCp_n n).2.2.2
  | .zRst_38H => (zRst_38H).2.2.2
  | .zRlc_B => (zRlc_B).2.2.2
  | .zRlc_C => (zRlc_C).2.2.2
  | .zRlc_D => (zRlc_D).2.2.2
  | .zRlc_E => (zRlc_E).2.2.2
  | .zRlc_H => (zRlc_H).2.2.2
  | .zRlc_L => (zRlc_L).2.2.2
  | .zRlc_atHL => (zRlc_atHL).2.2.2
  | .zRlc_A => (zRlc_A).2.2.2
  | .zRrc_B => (zRrc_B).2.2.2
  | .zRrc_C => (zRrc_C).2.2.2
  | .zRrc_D => (zRrc_D).2.2.2
  | .zRrc_E => (zRrc_E).2.2.2
  | .zRrc_H => (zRrc_H).2.2.2
  | .zRrc_L => (zRrc_L).2.2.2
  | .zRrc_atHL => (zRrc_atHL).2.2.2
  | .zRrc_A => (zRrc_A).2.2.2
  | .zRl_B => (zRl_B).2.2.2
  | .zRl_C => (zRl_C).2.2.2
  | .zRl_D => (zRl_D).2.2.2
  | .zRl_E => (zRl_E).2.2.2
  | .zRl_H => (zRl_H).2.2.2
  | .zRl_L => (zRl_L).2.2.2
  | .zRl_atHL => (zRl_atHL).2.2.2
  | .zRl_A => (zRl_A).2.2.2
  | .zRr_B => (zRr_B).2.2.2
  | .zRr_C => (zRr_C).2.2.2
  | .zRr_D => (zRr_D).2.2.2
  | .zRr_E => (zRr_E).2.2.2
  | .zRr_H => (zRr_H).2.2.2
  | .zRr_L => (zRr_L).2.2.2
  | .zRr_atHL => (zRr_atHL).2.2.2
  | .zRr_A => (zRr_A).2.2.2
  | .zSla_B => (zSla_B).2.2.2
  | .zSla_C => (zSla_C).2.2.2
  | .zSla_D => (zSla_D).2.2.2
  | .zSla_E => (zSla_E).2.2.2
  | .zSla_H => (zSla_H).2.2.2
  | .zSla_L => (zSla_L).2.2.2
  | .zSla_atHL => (zSla_atHL).2.2.2
  | .zSla_A => (zSla_A).2.2.2
  | .zSra_B => (zSra_B).2.2.2
  | .zSra_C => (zSra_C).2.2.2
  | .zSra_D => (zSra_D).2.2.2
  | .zSra_E => (zSra_E).2.2.2
  | .zSra_H => (zSra_H).2.2.2
  | .zSra_L => (zSra_L).2.2.2
  | .zSra_atHL => (zSra_atHL).2.2.2
  | .zSra_A => (zSra_A).2.2.2
  | .zSrl_B => (zSrl_B).2.2.2
  | .zSrl_C => (zSrl_C).2.2.2
  | .zSrl_D => (zSrl_D).2.2.2
  | .zSrl_E => (zSrl_E).2.2.2
  | .zSrl_H => (zSrl_H).2.2.2
  | .zSrl_L => (zSrl_L).2.2.2
  | .zSrl_atHL => (zSrl_atHL).2.2.2
  | .zSrl_A => (zSrl_A).2.2.2
  | .zBit_0_B => (zBit_0_B).2.2.2
  | .zBit_0_C => (zBit_0_C).2.2.2
  | .zBit_0_D => (zBit_0_D).2.2.2
  | .zBit_0_E => (zBit_0_E).2.2.2
  | .zBit_0_H => (zBit_0_H).2.2.2
  | .zBit_0_L => (zBit_0_L).2.2.2
  | .zBit_0_atHL => (zBit_0_atHL).2.2.2
  | .zBit_0_A => (zBit_0_A).2.2.2
  | .zBit_1_B => (zBit_1_B).2.2.2
  | .zBit_1_C => (zBit_1_C).2.2.2
  | .zBit_1_D => (zBit_1_D).2.2.2
  | .zBit_1_E => (zBit_1_E).2.2.2
  | .zBit_1_H => (zBit_1_H).2.2.2
  | .zBit_1_L => (zBit_1_L).2.2.2
  | .zBit_1_atHL => (zBit_1_atHL).2.2.2
  | .zBit_1_A => (zBit_1_A).2.2.2
  | .zBit_2_B => (zBit_2_B).2.2.2
  | .zBit_2_C => (zBit_2_C).2.2.2
  | .zBit_2_D => (zBit_2_D).2.2.2
  | .zBit_2_E => (zBit_2_E).2.2.2
  | .zBit_2_H => (zBit_2_H).2.2.2
  | .zBit_2_L => (zBit_2_L).2.2.2
  | .zBit_2_atHL => (zBit_2_atHL).2.2.2
  | .zBit_2_A => (zBit_2_A).2.2.2
  | .zBit_3_B => (zBit_3_B).2.2.2
  | .zBit_3_C => (zBit_3_C).2.2.2
  | .zBit_3_D => (zBit_3_D).2.2.2
  | .zBit_3_E => (zBit_3_E).2.2.2
  | .zBit_3_H => (zBit_3_H).2.2.2
  | .zBit_3_L => (zBit_3_L).2.2.2
  | .zBit_3_atHL => (zBit_3_atHL).2.2.2
  | .zBit_3_A => (zBit_3_A).2.2.2
  | .zBit_4_B => (zBit_4_B).2.2.2
  | .zBit_4_C => (zBit_4_C).2.2.2
  | .zBit_4_D => (zBit_4_D).2.2.2
  | .zBit_4_E => (zBit_4_E).2.2.2
  | .zBit_4_H => (zBit_4_H).2.2.2
  | .zBit_4_L => (zBit_4_L).2.2.2
  | .zBit_4_atHL => (zBit_4_atHL).2.2.2
  | .zBit_4_A => (zBit_4_A).2.2.2
  | .zBit_5_B => (zBit_5_B).2.2.2
  | .zBit_5_C => (zBit_5_C).2.2.2
  | .zBit_5_D => (zBit_5_D).2.2.2
  | .zBit_5_E => (zBit_5_E).2.2.2
  | .zBit_5_H => (zBit_5_H).2.2.2
  | .zBit_5_L => (zBit_5_L).2.2.2
  | .zBit_5_atHL => (zBit_5_atHL).2.2.2
  | .zBit_5_A => (zBit_5_A).2.2.2
  | .zBit_6_B => (zBit_6_B).2.2.2
  | .zBit_6_C => (zBit_6_C).2.2.2
  | .zBit_6_D => (zBit_6_D).2.2.2
  | .zBit_6_E => (zBit_6_E).2.2.2
  | .zBit_6_H => (zBit_6_H).2.2.2
  | .zBit_6_L => (zBit_6_L).2.2.2
  | .zBit_6_atHL => (zBit_6_atHL).2.2.2
  | .zBit_6_A => (zBit_6_A).2.2.2
  | .zBit_7_B => (zBit_7_B).2.2.2
  | .zBit_7_C => (zBit_7_C).2.2.2
  | .zBit_7_D => (zBit_7_D).2.2.2
  | .zBit_7_E => (zBit_7_E).2.2.2
  | .zBit_7_H => (zBit_7_H).2.2.2
  | .zBit_7_L => (zBit_7_L).2.2.2
  | .zBit_7_atHL => (zBit_7_atHL).2.2.2
  | .zBit_7_A => (zBit_7_A).2.2.2
  | .zRes_0_B => (zRes_0_B).2.2.2
  | .zRes_0_C => (zRes_0_C).2.2.2
  | .zRes_0_D => (zRes_0_D).2.2.2
  | .zRes_0_E => (zRes_0_E).2.2.2
  | .zRes_0_H => (zRes_0_H).2.2.2
  | .zRes_0_L => (zRes_0_L).2.2.2
  | .zRes_0_atHL => (zRes_0_atHL).2.2.2
  | .zRes_0_A => (zRes_0_A).2.2.2
  | .zRes_1_B => (zRes_1_B).2.2.2
  | .zRes_1_C => (zRes_1_C).2.2.2
  | .zRes_1_D => (zRes_1_D).2.2.2
  | .zRes_1_E => (zRes_1_E).2.2.2
  | .zRes_1_H => (zRes_1_H).2.2.2
  | .zRes_1_L => (zRes_1_L).2.2.2
  | .zRes_1_atHL => (zRes_1_atHL).2.2.2
  | .zRes_1_A => (zRes_1_A).2.2.2
  | .zRes_2_B => (zRes_2_B).2.2.2
  | .zRes_2_C => (zRes_2_C).2.2.2
  | .zRes_2_D => (zRes_2_D).2.2.2
  | .zRes_2_E => (zRes_2_E).2.2.2
  | .zRes_2_H => (zRes_2_H).2.2.2
  | .zRes_2_L => (zRes_2_L).2.2.2
  | .zRes_2_atHL => (zRes_2_atHL).2.2.2
  | .zRes_2_A => (zRes_2_A).2.2.2
  | .zRes_3_B => (zRes_3_B).2.2.2
  | .zRes_3_C => (zRes_3_C).2.2.2
  | .zRes_3_D => (zRes_3_D).2.2.2
  | .zRes_3_E => (zRes_3_E).2.2.2
  | .zRes_3_H => (zRes_3_H).2.2.2
  | .zRes_3_L => (zRes_3_L).2.2.2
  | .zRes_3_atHL => (zRes_3_atHL).2.2.2
  | .zRes_3_A => (zRes_3_A).2.2.2
  | .zRes_4_B => (zRes_4_B).2.2.2
  | .zRes_4_C => (zRes_4_C).2.2.2
  | .zRes_4_D => (zRes_4_D).2.2.2
  | .zRes_4_E => (zRes_4_E).2.2.2
  | .zRes_4_H => (zRes_4_H).2.2.2
  | .zRes_4_L => (zRes_4_L).2.2.2
  | .zRes_4_atHL => (zRes_4_atHL).2.2.2
  | .zRes_4_A => (zRes_4_A).2.2.2
  | .zRes_5_B => (zRes_5_B).2.2.2
  | .zRes_5_C => (zRes_5_C).2.2.2
  | .zRes_5_D => (zRes_5_D).2.2.2
  | .zRes_5_E => (zRes_5_E).2.2.2
  | .zRes_5_H => (zRes_5_H).2.2.2
  | .zRes_5_L => (zRes_5_L).2.2.2
  | .zRes_5_atHL => (zRes_5_atHL).2.2.2
  | .zRes_5_A => (zRes_5_A).2.2.2
  | .zRes_6_B => (zRes_6_B).2.2.2
  | .zRes_6_C => (zRes_6_C).2.2.2
  | .zRes_6_D => (zRes_6_D).2.2.2
  | .zRes_6_E => (zRes_6_E).2.2.2
  | .zRes_6_H => (zRes_6_H).2.2.2
  | .zRes_6_L => (zRes_6_L).2.2.2
  | .zRes_6_atHL => (zRes_6_atHL).2.2.2
  | .zRes_6_A => (zRes_6_A).2.2.2
  | .zRes_7_B => (zRes_7_B).2.2.2
  | .zRes_7_C => (zRes_7_C).2.2.2
  | .zRes_7_D => (zRes_7_D).2.2.2
  | .zRes_7_E => (zRes_7_E).2.2.2
  | .zRes_7_H => (zRes_7_H).2.2.2
  | .zRes_7_L => (zRes_7_L).2.2.2
  | .zRes_7_atHL => (zRes_7_atHL).2.2.2
  | .zRes_7_A => (zRes_7_A).2.2.2
  | .zSet_0_B => (zSet_0_B).2.2.2
  | .zSet_0_C => (zSet_0_C).2.2.2
  | .zSet_0_D => (zSet_0_D).2.2.2
  | .zSet_0_E => (zSet_0_E).2.2.2
  | .zSet_0_H => (zSet_0_H).2.2.2
  | .zSet_0_L => (zSet_0_L).2.2.2
  | .zSet_0_atHL => (zSet_0_atHL).2.2.2
  | .zSet_0_A => (zSet_0_A).2.2.2
  | .zSet_1_B => (zSet_1_B).2.2.2
  | .zSet_1_C => (zSet_1_C).2.2.2
  | .zSet_1_D => (zSet_1_D).2.2.2
  | .zSet_1_E => (zSet_1_E).2.2.2
  | .zSet_1_H => (zSet_1_H).2.2.2
  | .zSet_1_L => (zSet_1_L).2.2.2
  | .zSet_1_atHL => (zSet_1_atHL).2.2.2
  | .zSet_1_A => (zSet_1_A).2.2.2
  | .zSet_2_B => (zSet_2_B).2.2.2
  | .zSet_2_C => (zSet_2_C).2.2.2
  | .zSet_2_D => (zSet_2_D).2.2.2
  | .zSet_2_E => (zSet_2_E).2.2.2
  | .zSet_2_H => (zSet_2_H).2.2.2
  | .zSet_2_L => (zSet_2_L).2.2.2
  | .zSet_2_atHL => (zSet_2_atHL).2.2.2
  | .zSet_2_A => (zSet_2_A).2.2.2
  | .zSet_3_B => (zSet_3_B).2.2.2
  | .zSet_3_C => (zSet_3_C).2.2.2
  | .zSet_3_D => (zSet_3_D).2.2.2
  | .zSet_3_E => (zSet_3_E).2.2.2
  | .zSet_3_H => (zSet_3_H).2.2.2
  | .zSet_3_L => (zSet_3_L).2.2.2
  | .zSet_3_atHL => (zSet_3_atHL).2.2.2
  | .zSet_3_A => (zSet_3_A).2.2.2
  | .zSet_4_B => (zSet_4_B).2.2.2
  | .zSet_4_C => (zSet_4_C).2.2.2
  | .zSet_4_D => (zSet_4_D).2.2.2
  | .zSet_4_E => (zSet_4_E).2.2.2
  | .zSet_4_H => (zSet_4_H).2.2.2
  | .zSet_4_L => (zSet_4_L).2.2.2
  | .zSet_4_atHL => (zSet_4_atHL).2.2.2
  | .zSet_4_A => (zSet_4_A).2.2.2
  | .zSet_5_B => (zSet_5_B).2.2.2
  | .zSet_5_C => (zSet_5_C).2.2.2
  | .zSet_5_D => (zSet_5_D).2.2.2
  | .zSet_5_E => (zSet_5_E).2.2.2
  | .zSet_5_H => (zSet_5_H).2.2.2
  | .zSet_5_L => (zSet_5_L).2.2.2
  | .zSet_5_atHL => (zSet_5_atHL).2.2.2
  | .zSet_5_A => (zSet_5_A).2.2.2
  | .zSet_6_B => (zSet_6_B).2.2.2
  | .zSet_6_C => (zSet_6_C).2.2.2
  | .zSet_6_D => (zSet_6_D).2.2.2
  | .zSet_6_E => (zSet_6_E).2.2.2
  | .zSet_6_H => (zSet_6_H).2.2.2
  | .zSet_6_L => (zSet_6_L).2.2.2
  | .zSet_6_atHL => (zSet_6_atHL).2.2.2
  | .zSet_6_A => (zSet_6_A).2.2.2
  | .zSet_7_B => (zSet_7_B).2.2.2
  | .zSet_7_C => (zSet_7_C).2.2.2
  | .zSet_7_D => (zSet_7_D).2.2.2
  | .zSet_7_E => (zSet_7_E).2.2.2
  | .zSet_7_H => (zSet_7_H).2.2.2
  | .zSet_7_L => (zSet_7_L).2.2.2
  | .zSet_7_atHL => (zSet_7_atHL).2.2.2
  | .zSet_7_A => (zSet_7_A).2.2.2
  | .zIn_B_atC => (zIn_B_atC).2.2.2
  | .zOut_atC_B => (zOut_atC_B).2.2.2
  | .zIn_C_atC => (zIn_C_atC).2.2.2
  | .zOut_atC_C => (zOut_atC_C).2.2.2
  | .zIn_D_atC => (zIn_D_atC).2.2.2
  | .zOut_atC_D => (zOut_atC_D).2.2.2
  | .zIn_E_atC => (zIn_E_atC).2.2.2
  | .zOut_atC_E => (zOut_atC_E).2.2.2
  | .zIn_H_atC => (zIn_H_atC).2.2.2
  | .zOut_atC_H => (zOut_atC_H).2.2.2
  | .zIn_L_atC => (zIn_L_atC).2.2.2
  | .zOut_atC_L => (zOut_atC_L).2.2.2
  | .zIn_A_atC => (zIn_A_atC).2.2.2
  | .zOut_atC_A => (zOut_atC_A).2.2.2
  | .zSbc_HL_BC => (zSbc_HL_BC).2.2.2
  | .zAdc_HL_BC => (zAdc_HL_BC).2.2.2
  | .zLd_atnn_BC lo hi => (zLd_atnn_BC lo hi).2.2.2
  | .zLd_BC_atnn lo hi => (zLd_BC_atnn lo hi).2.2.2
  | .zSbc_HL_DE => (zSbc_HL_DE).2.2.2
  | .zAdc_HL_DE => (zAdc_HL_DE).2.2.2
  | .zLd_atnn_DE lo hi => (zLd_atnn_DE lo hi).2.2.2
  | .zLd_DE_atnn lo hi => (zLd_DE_atnn lo hi).2.2.2
  | .zSbc_HL_HL => (zSbc_HL_HL).2.2.2
  | .zAdc_HL_HL => (zAdc_HL_HL).2.2.2
  | .zLdEd_atnn_HL lo hi => (zLdEd_atnn_HL lo hi).2.2.2
  | .zLdEd_HL_atnn lo hi => (zLdEd_HL_atnn lo hi).2.2.2
  | .zSbc_HL_SP => (zSbc_HL_SP).2.2.2
  | .zAdc_HL_SP => (zAdc_HL_SP).2.2.2
  | .zLd_atnn_SP lo hi => (zLd_atnn_SP lo hi).2.2.2
  | .zLd_SP_atnn lo hi => (zLd_SP_atnn lo hi).2.2.2
  | .zNeg => (zNeg).2.2.2
  | .zRetn => (zRetn).2.2.2
  | .zReti => (zReti).2.2.2
  | .zIm_0 => (zIm_0).2.2.2
  | .zIm_1 => (zIm_1).2.2.2
  | .zIm_2 => (zIm_2).2.2.2
  | .zLd_I_A => (zLd_I_A).2.2.2
  | .zLd_R_A => (zLd_R_A).2.2.2
  | .zLd_A_I => (zLd_A_I).2.2.2
  | .zLd_A_R => (zLd_A_R).2.2.2
  | .zRrd => (zRrd).2.2.2
  | .zRld => (zRld).2.2.2
  | .zLdi => (zLdi).2.2.2
  | .zCpi => (zCpi).2.2.2
  | .zIni => (zIni).2.2.2
  | .zOuti => (zOuti).2.2.2
  | .zLdd => (zLdd).2.2.2
  | .zCpd => (zCpd).2.2.2
  | .zInd => (zInd).2.2.2
  | .zOutd => (zOutd).2.2.2
  | .zLdir => (zLdir).2.2.2
  | .zCpir => (zCpir).2.2.2
  | .zInir => (zInir).2.2.2
  | .zOtir => (zOtir).2.2.2
  | .zLddr => (zLddr).2.2.2
  | .zCpdr => (zCpdr).2.2.2
  | .zIndr => (zIndr).2.2.2
  | .zOtdr => (zOtdr).2.2.2
  | .zAdd_IX_BC => (zAdd_IX_BC).2.2.2
  | .zAdd_IX_DE => (zAdd_IX_DE).2.2.2
  | .zAdd_IX_IX => (zAdd_IX_IX).2.2.2
  | .zAdd_IX_SP => (zAdd_IX_SP).2.2.2
  | .zLd_IX_nn lo hi => (zLd_IX_nn lo hi).2.2.2
  | .zLd_atnn_IX lo hi => (zLd_atnn_IX lo hi).2.2.2
  | .zInc_IX => (zInc_IX).2.2.2
  | .zLd_IX_atnn lo hi => (zLd_IX_atnn lo hi).2.2.2
  | .zDec_IX => (zDec_IX).2.2.2
  | .zInc_atIXd d => (zInc_atIXd d).2.2.2
  | .zDec_atIXd d => (zDec_atIXd d).2.2.2
  | .zLd_atIXd_n d n => (zLd_atIXd_n d n).2.2.2
  | .zLd_B_atIXd d => (zLd_B_atIXd d).2.2.2
  | .zLd_C_atIXd d => (zLd_C_atIXd d).2.2.2
  | .zLd_D_atIXd d => (zLd_D_atIXd d).2.2.2
  | .zLd_E_atIXd d => (zLd_E_atIXd d).2.2.2
  | .zLd_H_atIXd d => (zLd_H_atIXd d).2.2.2
  | .zLd_L_atIXd d => (zLd_L_atIXd d).2.2.2
  | .zLd_A_atIXd d => (zLd_A_atIXd d).2.2.2
  | .zLd_atIXd_B d => (zLd_atIXd_B d).2.2.2
  | .zLd_atIXd_C d => (zLd_atIXd_C d).2.2.2
  | .zLd_atIXd_D d => (zLd_atIXd_D d).2.2.2
  | .zLd_atIXd_E d => (zLd_atIXd_E d).2.2.2
  | .zLd_atIXd_H d => (zLd_atIXd_H d).2.2.2
  | .zLd_atIXd_L d => (zLd_atIXd_L d).2.2.2
  | .zLd_atIXd_A d => (zLd_atIXd_A d).2.2.2
  | .zAdd_A_atIXd d => (zAdd_A_atIXd d).2.2.2
  | .zAdc_A_atIXd d => (zAdc_A_atIXd d).2.2.2
  | .zSub_atIXd d => (zSub_atIXd d).2.2.2
  | .zSbc_A_atIXd d => (zSbc_A_atIXd d).2.2.2
  | .zAnd_atIXd d => (zAnd_atIXd d).2.2.2
  | .zXor_atIXd d => (zXor_atIXd d).2.2.2
  | .zOr_atIXd d => (zOr_atIXd d).2.2.2
  | .zCp_atIXd d => (zCp_atIXd d).2.2.2
  | .zPop_IX => (zPop_IX).2.2.2
  | .zEx_atSP_IX => (zEx_atSP_IX).2.2.2
  | .zPush_IX => (zPush_IX).2.2.2
  | .zJp_atIX => (zJp_atIX).2.2.2
  | .zLd_SP_IX => (zLd_SP_IX).2.2.2
  | .zRlc_atIXd d => (zRlc_atIXd d).2.2.2
  | .zRrc_atIXd d => (zRrc_atIXd d).2.2.2
  | .zRl_atIXd d => (zRl_atIXd d).2.2.2
  | .zRr_atIXd d => (zRr_atIXd d).2.2.2
  | .zSla_atIXd d => (zSla_atIXd d).2.2.2
  | .zSra_atIXd d => (zSra_atIXd d).2.2.2
  | .zSrl_atIXd d => (zSrl_atIXd d).2.2.2
  | .zBit_0_atIXd d => (zBit_0_atIXd d).2.2.2
  | .zBit_1_atIXd d => (zBit_1_atIXd d).2.2.2
  | .zBit_2_atIXd d => (zBit_2_atIXd d).2.2.2
  | .zBit_3_atIXd d => (zBit_3_atIXd d).2.2.2
  | .zBit_4_atIXd d => (zBit_4_atIXd d).2.2.2
  | .zBit_5_atIXd d => (zBit_5_atIXd d).2.2.2
  | .zBit_6_atIXd d => (zBit_6_atIXd d).2.2.2
  | .zBit_7_atIXd d => (zBit_7_atIXd d).2.2.2
  | .zRes_0_atIXd d => (zRes_0_atIXd d).2.2.2
  | .zRes_1_atIXd d => (zRes_1_atIXd d).2.2.2
  | .zRes_2_atIXd d => (zRes_2_atIXd d).2.2.2
  | .zRes_3_atIXd d => (zRes_3_atIXd d).2.2.2
  | .zRes_4_atIXd d => (zRes_4_atIXd d).2.2.2
  | .zRes_5_atIXd d => (zRes_5_atIXd d).2.2.2
  | .zRes_6_atIXd d => (zRes_6_atIXd d).2.2.2
  | .zRes_7_atIXd d => (zRes_7_atIXd d).2.2.2
  | .zSet_0_atIXd d => (zSet_0_atIXd d).2.2.2
  | .zSet_1_atIXd d => (zSet_1_atIXd d).2.2.2
  | .zSet_2_atIXd d => (zSet_2_atIXd d).2.2.2
  | .zSet_3_atIXd d => (zSet_3_atIXd d).2.2.2
  | .zSet_4_atIXd d => (zSet_4_atIXd d).2.2.2
  | .zSet_5_atIXd d => (zSet_5_atIXd d).2.2.2
  | .zSet_6_atIXd d => (zSet_6_atIXd d).2.2.2
  | .zSet_7_atIXd d => (zSet_7_atIXd d).2.2.2
  | .zAdd_IY_BC => (zAdd_IY_BC).2.2.2
  | .zAdd_IY_DE => (zAdd_IY_DE).2.2.2
  | .zAdd_IY_IY => (zAdd_IY_IY).2.2.2
  | .zAdd_IY_SP => (zAdd_IY_SP).2.2.2
  | .zLd_IY_nn lo hi => (zLd_IY_nn lo hi).2.2.2
  | .zLd_atnn_IY lo hi => (zLd_atnn_IY lo hi).2.2.2
  | .zInc_IY => (zInc_IY).2.2.2
  | .zLd_IY_atnn lo hi => (zLd_IY_atnn lo hi).2.2.2
  | .zDec_IY => (zDec_IY).2.2.2
  | .zInc_atIYd d => (zInc_atIYd d).2.2.2
  | .zDec_atIYd d => (zDec_atIYd d).2.2.2
  | .zLd_atIYd_n d n => (zLd_atIYd_n d n).2.2.2
  | .zLd_B_atIYd d => (zLd_B_atIYd d).2.2.2
  | .zLd_C_atIYd d => (zLd_C_atIYd d).2.2.2
  | .zLd_D_atIYd d => (zLd_D_atIYd d).2.2.2
  | .zLd_E_atIYd d => (zLd_E_atIYd d).2.2.2
  | .zLd_H_atIYd d => (zLd_H_atIYd d).2.2.2
  | .zLd_L_atIYd d => (zLd_L_atIYd d).2.2.2
  | .zLd_A_atIYd d => (zLd_A_atIYd d).2.2.2
  | .zLd_atIYd_B d => (zLd_atIYd_B d).2.2.2
  | .zLd_atIYd_C d => (zLd_atIYd_C d).2.2.2
  | .zLd_atIYd_D d => (zLd_atIYd_D d).2.2.2
  | .zLd_atIYd_E d => (zLd_atIYd_E d).2.2.2
  | .zLd_atIYd_H d => (zLd_atIYd_H d).2.2.2
  | .zLd_atIYd_L d => (zLd_atIYd_L d).2.2.2
  | .zLd_atIYd_A d => (zLd_atIYd_A d).2.2.2
  | .zAdd_A_atIYd d => (zAdd_A_atIYd d).2.2.2
  | .zAdc_A_atIYd d => (zAdc_A_atIYd d).2.2.2
  | .zSub_atIYd d => (zSub_atIYd d).2.2.2
  | .zSbc_A_atIYd d => (zSbc_A_atIYd d).2.2.2
  | .zAnd_atIYd d => (zAnd_atIYd d).2.2.2
  | .zXor_atIYd d => (zXor_atIYd d).2.2.2
  | .zOr_atIYd d => (zOr_atIYd d).2.2.2
  | .zCp_atIYd d => (zCp_atIYd d).2.2.2
  | .zPop_IY => (zPop_IY).2.2.2
  | .zEx_atSP_IY => (zEx_atSP_IY).2.2.2
  | .zPush_IY => (zPush_IY).2.2.2
  | .zJp_atIY => (zJp_atIY).2.2.2
  | .zLd_SP_IY => (zLd_SP_IY).2.2.2
  | .zRlc_atIYd d => (zRlc_atIYd d).2.2.2
  | .zRrc_atIYd d => (zRrc_atIYd d).2.2.2
  | .zRl_atIYd d => (zRl_atIYd d).2.2.2
  | .zRr_atIYd d => (zRr_atIYd d).2.2.2
  | .zSla_atIYd d => (zSla_atIYd d).2.2.2
  | .zSra_atIYd d => (zSra_atIYd d).2.2.2
  | .zSrl_atIYd d => (zSrl_atIYd d).2.2.2
  | .zBit_0_atIYd d => (zBit_0_atIYd d).2.2.2
  | .zBit_1_atIYd d => (zBit_1_atIYd d).2.2.2
  | .zBit_2_atIYd d => (zBit_2_atIYd d).2.2.2
  | .zBit_3_atIYd d => (zBit_3_atIYd d).2.2.2
  | .zBit_4_atIYd d => (zBit_4_atIYd d).2.2.2
  | .zBit_5_atIYd d => (zBit_5_atIYd d).2.2.2
  | .zBit_6_atIYd d => (zBit_6_atIYd d).2.2.2
  | .zBit_7_atIYd d => (zBit_7_atIYd d).2.2.2
  | .zRes_0_atIYd d => (zRes_0_atIYd d).2.2.2
  | .zRes_1_atIYd d => (zRes_1_atIYd d).2.2.2
  | .zRes_2_atIYd d => (zRes_2_atIYd d).2.2.2
  | .zRes_3_atIYd d => (zRes_3_atIYd d).2.2.2
  | .zRes_4_atIYd d => (zRes_4_atIYd d).2.2.2
  | .zRes_5_atIYd d => (zRes_5_atIYd d).2.2.2
  | .zRes_6_atIYd d => (zRes_6_atIYd d).2.2.2
  | .zRes_7_atIYd d => (zRes_7_atIYd d).2.2.2
  | .zSet_0_atIYd d => (zSet_0_atIYd d).2.2.2
  | .zSet_1_atIYd d => (zSet_1_atIYd d).2.2.2
  | .zSet_2_atIYd d => (zSet_2_atIYd d).2.2.2
  | .zSet_3_atIYd d => (zSet_3_atIYd d).2.2.2
  | .zSet_4_atIYd d => (zSet_4_atIYd d).2.2.2
  | .zSet_5_atIYd d => (zSet_5_atIYd d).2.2.2
  | .zSet_6_atIYd d => (zSet_6_atIYd d).2.2.2
  | .zSet_7_atIYd d => (zSet_7_atIYd d).2.2.2

end Sys2Proof
end

