-- ==== Sys2Proof/Tests/Slice0.lean ====
section
/-! SUPPORT. The model's own tests. Words written out from the spec's encodings (R123, R132 to R136) and decoded; ill-formed
terms refused; vectors of spec/95_test_vectors.md, each named by its row; and, for every statement with hypotheses, a
state and operands that meet them. -/

namespace Sys2Proof.Tests

open Sys2Proof Sys2Proof.Machine

/-! ### Decoding: words written out from the spec's tables -/

theorem test_decode_m6502_lda_imm : decode .m6502 false 0xA9 0x05 0 0 = .instr (.mLdaImm 0x05) := by
  with_unfolding_all rfl

theorem test_decode_m6502_lda_izx : decode .m6502 false 0xA1 0xFE 0 0 = .instr (.mLdaIzx 0xFE) := by
  with_unfolding_all rfl

theorem test_decode_m6502_ldx_zpy : decode .m6502 false 0xB6 0xF0 0 0 = .instr (.mLdxZpy 0xF0) := by
  with_unfolding_all rfl

theorem test_decode_m6502_sta_abs : decode .m6502 false 0x8D 0x15 0x40 0 = .instr (.mStaAbs 0x15 0x40) := by
  with_unfolding_all rfl

theorem test_decode_m6502_adc_imm : decode .m6502 false 0x69 0x01 0 0 = .instr (.mAdcImm 0x01) := by
  with_unfolding_all rfl

theorem test_decode_m6502_ror_abs : decode .m6502 false 0x6E 0x34 0x12 0 = .instr (.mRorAbs 0x34 0x12) := by
  with_unfolding_all rfl

theorem test_decode_m6502_inc_abx : decode .m6502 false 0xFE 0xFF 0x12 0 = .instr (.mIncAbx 0xFF 0x12) := by
  with_unfolding_all rfl

theorem test_decode_m6502_tax : decode .m6502 false 0xAA 0 0 0 = .instr .mTax := by
  with_unfolding_all rfl

theorem test_decode_m6502_jmp_ind : decode .m6502 false 0x6C 0xFF 0x02 0 = .instr (.mJmpInd 0xFF 0x02) := by
  with_unfolding_all rfl

theorem test_decode_m6502_bne : decode .m6502 false 0xD0 0x05 0 0 = .instr (.mBne 0x05) := by
  with_unfolding_all rfl

theorem test_decode_m6502_brk : decode .m6502 false 0x00 0 0 0 = .instr .mBrk := by
  with_unfolding_all rfl

theorem test_decode_m6502_php : decode .m6502 false 0x08 0 0 0 = .instr .mPhp := by
  with_unfolding_all rfl

theorem test_decode_m6502_sentinel : decode .m6502 true 0x22 0 0 0 = .instr .mHaltSentinel := by
  with_unfolding_all rfl

theorem test_decode_z80_ld_b_c : decode .z80 false 0x41 0 0 0 = .instr .zLd_B_C := by
  with_unfolding_all rfl

theorem test_decode_z80_ld_nn_hl : decode .z80 false 0x22 0x34 0x12 0 = .instr (.zLd_atnn_HL 0x34 0x12) := by
  with_unfolding_all rfl

theorem test_decode_z80_ld_sp_nn_ed : decode .z80 false 0xED 0x7B 0x00 0xC0 = .instr (.zLd_SP_atnn 0x00 0xC0) := by
  with_unfolding_all rfl

theorem test_decode_z80_ex_sp_ix : decode .z80 false 0xDD 0xE3 0 0 = .instr .zEx_atSP_IX := by
  with_unfolding_all rfl

theorem test_decode_z80_ldir : decode .z80 false 0xED 0xB0 0 0 = .instr .zLdir := by
  with_unfolding_all rfl

theorem test_decode_z80_cpd : decode .z80 false 0xED 0xA9 0 0 = .instr .zCpd := by
  with_unfolding_all rfl

theorem test_decode_z80_sbc_a_iyd : decode .z80 false 0xFD 0x9E 0x80 0 = .instr (.zSbc_A_atIYd 0x80) := by
  with_unfolding_all rfl

theorem test_decode_z80_add_ix_ix : decode .z80 false 0xDD 0x29 0 0 = .instr .zAdd_IX_IX := by
  with_unfolding_all rfl

theorem test_decode_z80_neg : decode .z80 false 0xED 0x44 0 0 = .instr .zNeg := by
  with_unfolding_all rfl

theorem test_decode_z80_rlc_ixd : decode .z80 false 0xDD 0xCB 0x02 0x06 = .instr (.zRlc_atIXd 0x02) := by
  with_unfolding_all rfl

theorem test_decode_z80_bit_6_hl : decode .z80 false 0xCB 0x76 0 0 = .instr .zBit_6_atHL := by
  with_unfolding_all rfl

theorem test_decode_z80_set_7_iyd : decode .z80 false 0xFD 0xCB 0xFF 0xFE = .instr (.zSet_7_atIYd 0xFF) := by
  with_unfolding_all rfl

theorem test_decode_z80_jr_nz : decode .z80 false 0x20 0x05 0 0 = .instr (.zJr_NZ_e 0x05) := by
  with_unfolding_all rfl

theorem test_decode_z80_call_m : decode .z80 false 0xFC 0x00 0x90 0 = .instr (.zCall_M_nn 0x00 0x90) := by
  with_unfolding_all rfl

theorem test_decode_z80_rst_38 : decode .z80 false 0xFF 0 0 0 = .instr .zRst_38H := by
  with_unfolding_all rfl

theorem test_decode_z80_retn : decode .z80 false 0xED 0x45 0 0 = .instr .zRetn := by
  with_unfolding_all rfl

theorem test_decode_z80_out_c_a : decode .z80 false 0xED 0x79 0 0 = .instr .zOut_atC_A := by
  with_unfolding_all rfl

theorem test_decode_z80_in_a_n : decode .z80 false 0xDB 0xFE 0 0 = .instr (.zIn_A_atn 0xFE) := by
  with_unfolding_all rfl

theorem test_decode_z80_otdr : decode .z80 false 0xED 0xBB 0 0 = .instr .zOtdr := by
  with_unfolding_all rfl

theorem test_illegal_m6502_ff : decode .m6502 false 0xFF 0 0 0 = .illegal .m6502 := by
  with_unfolding_all rfl

theorem test_illegal_m6502_22_away : decode .m6502 false 0x22 0 0 0 = .illegal .m6502 := by
  with_unfolding_all rfl

theorem test_illegal_z80_sll : decode .z80 false 0xCB 0x30 0 0 = .illegal .z80Cb := by
  with_unfolding_all rfl

theorem test_illegal_z80_ed_70 : decode .z80 false 0xED 0x70 0 0 = .illegal .z80Ed := by
  with_unfolding_all rfl

theorem test_illegal_z80_dd_dd : decode .z80 false 0xDD 0xDD 0 0 = .illegal .z80Prefix := by
  with_unfolding_all rfl

theorem test_illegal_z80_ddcb_30 : decode .z80 false 0xDD 0xCB 0x05 0x30 = .illegal .z80IndexCb := by
  with_unfolding_all rfl

theorem test_table_word_two_bytes : decodeTableWord 16 0x05A9 = some (.mLdaImm 0x05) := by with_unfolding_all rfl

/-! ### Ill-formed terms are refused by name -/

theorem test_wrong_family_m6502 : Instr.mNop.check .z80 false = some .wrongFamily := by with_unfolding_all rfl

theorem test_wrong_family_z80 : (Instr.zLd_B_n 0x12).check .m6502 false = some .wrongFamily := by with_unfolding_all rfl

theorem test_sentinel_away_from_idle : Instr.mHaltSentinel.check .m6502 false = some .sentinelAwayFromIdle := by
  with_unfolding_all rfl

theorem test_sentinel_at_idle : Instr.mHaltSentinel.check .m6502 true = none := by with_unfolding_all rfl

theorem test_well_formed : (Instr.zSet_7_atIYd 0xFF).check .z80 false = none := by with_unfolding_all rfl

/-! ### Small states -/

/-- The pages of a machine whose 64 KiB are one region of RAM. -/
def ramPages (fam : Family) : List PageEntry :=
  (List.range (Config.machineOf fam).pageCount).map fun k => ⟨.region 0, k * (Config.machineOf fam).pageSize⟩

/-- A machine with RAM everywhere that holds the cells, a slice running at `pc`, and nothing mapped to a chip. -/
def ram (fam : Family) (pc : Word) (cells : List Host.Cell) : State :=
  { State.resetOf { Config.machineOf fam with readRanges := [], writeRanges := [] } with
    control := .slice .direct
    phase := .running
    endTime := 1000
    pc := pc
    readPage := ramPages fam
    writePage := ramPages fam
    regions := [⟨65536, cells⟩] }

/-- The M6502 registers A, X, Y, SP with flags N V D I Z C given as bits of a byte in that order. -/
def regs (a x y sp p : Byte) : M6502Regs :=
  ⟨a, x, y, sp, ⟨p.getLsbD 5, p.getLsbD 4, p.getLsbD 3, p.getLsbD 2, p.getLsbD 1, p.getLsbD 0⟩⟩

/-- What one reads of the state an outcome leads to. -/
def seen {α : Type} (f : State → α) : Host.Outcome State Fault Refusal → Option α
  | .next t => some (f t)
  | _ => none

/-- A, SP, the flags as `P` would be pushed, `pc` and `time`. -/
def lookM (t : State) : Nat × Nat × Nat × Nat × Int :=
  (t.m.a.toNat, t.m.sp.toNat, t.m.p.toByte.toNat, t.pc.toNat, t.time)

/-- The six specified flags S Z H PV N C as one number. -/
def flagsZ (f : ZFlags) : Nat :=
  32 * f.s.toNat + 16 * f.z.toNat + 8 * f.h.toNat + 4 * f.pv.toNat + 2 * f.n.toNat + f.c.toNat

/-- A, HL, the six flags, `pc` and `time`. -/
def lookZ (t : State) : Nat × Nat × Nat × Nat × Int :=
  (t.z.a.toNat, t.z.hl.toNat, flagsZ t.z.f, t.pc.toNat, t.time)

/-- A Z80 state with A and the flags S Z H PV N C as bits of a byte. -/
def acc (a f : Byte) (s : State) : State :=
  { s with z := { s.z with
    a := a
    f := ⟨f.getLsbD 5, f.getLsbD 4, false, f.getLsbD 3, false, f.getLsbD 2, f.getLsbD 1, f.getLsbD 0⟩ } }

/-! ### Vectors of spec/95_test_vectors.md -/

theorem test_L4_zero_page_index_wraps :
    seen lookM (step { ram .m6502 0x300 [(0x10, 0x42), (0x110, 0x99), (0x300, 0xB5), (0x301, 0xF0)] with m := regs 0x0 0x20 0x0 0xFF 0b000000 }) =
      some (0x42, 0xFF, 48, 0x302, 4) := by with_unfolding_all rfl

theorem test_L5_page_crossed :
    seen lookM (step { ram .m6502 0x300 [(0x300, 0xBD), (0x301, 0xF0), (0x302, 0x12), (0x1310, 0x33)] with m := regs 0x0 0x20 0x0 0xFF 0b000000 }) =
      some (0x33, 0xFF, 48, 0x303, 5) := by with_unfolding_all rfl

theorem test_L8_indirect_pointer_wraps :
    seen lookM (step { ram .m6502 0x300 [(0x0, 0x12), (0xFF, 0x34), (0x300, 0xA1), (0x301, 0xFE), (0x1234, 0x77)] with m := regs 0x0 0x1 0x0 0xFF 0b000000 }) =
      some (0x77, 0xFF, 48, 0x302, 6) := by with_unfolding_all rfl

theorem test_L14_store_indirect :
    seen (fun t => (lookM t, (ptRead t 0x4100).toNat)) (step { ram .m6502 0x300 [(0x20, 0x01), (0x21, 0x40), (0x300, 0x91), (0x301, 0x20)] with m := regs 0xCD 0x0 0xFF 0xFF 0b000000 }) =
      some ((0xCD, 0xFF, 48, 0x302, 6), 0xCD) := by with_unfolding_all rfl

theorem test_L21_php :
    seen (fun t => (lookM t, (ptRead t 0x01FF).toNat)) (step { ram .m6502 0x300 [(0x300, 0x08)] with m := regs 0x0 0x0 0x0 0xFF 0b100001 }) =
      some ((0x0, 0xFE, 177, 0x301, 3), 0xB1) := by with_unfolding_all rfl

theorem test_L25_plp :
    seen lookM (step { ram .m6502 0x300 [(0x1FF, 0x30), (0x300, 0x28)] with m := regs 0x0 0x0 0x0 0xFE 0b111111 }) =
      some (0x0, 0xFF, 48, 0x301, 4) := by with_unfolding_all rfl

theorem test_A1_adc_overflow :
    seen lookM (step { ram .m6502 0x300 [(0x300, 0x69), (0x301, 0x01)] with m := regs 0x7F 0x0 0x0 0xFF 0b000000 }) =
      some (0x80, 0xFF, 240, 0x302, 2) := by with_unfolding_all rfl

theorem test_A5_adc_decimal_flag :
    seen lookM (step { ram .m6502 0x300 [(0x300, 0x69), (0x301, 0x19)] with m := regs 0x28 0x0 0x0 0xFF 0b001000 }) =
      some (0x41, 0xFF, 56, 0x302, 2) := by with_unfolding_all rfl

theorem test_A7_sbc_overflow :
    seen lookM (step { ram .m6502 0x300 [(0x300, 0xE9), (0x301, 0x01)] with m := regs 0x80 0x0 0x0 0xFF 0b000001 }) =
      some (0x7F, 0xFF, 113, 0x302, 2) := by with_unfolding_all rfl

theorem test_A17_cmp_keeps_v :
    seen lookM (step { ram .m6502 0x300 [(0x300, 0xC9)] with m := regs 0x80 0x0 0x0 0xFF 0b010000 }) =
      some (0x80, 0xFF, 241, 0x302, 2) := by with_unfolding_all rfl

theorem test_A20_bit :
    seen lookM (step { ram .m6502 0x300 [(0x10, 0xC0), (0x300, 0x24), (0x301, 0x10)] with m := regs 0x1 0x0 0x0 0xFF 0b000000 }) =
      some (0x1, 0xFF, 242, 0x302, 3) := by with_unfolding_all rfl

theorem test_A23_inc_indexed :
    seen (fun t => (lookM t, (ptRead t 0x1300).toNat)) (step { ram .m6502 0x300 [(0x300, 0xFE), (0x301, 0xFF), (0x302, 0x12), (0x1300, 0x7F)] with m := regs 0x0 0x1 0x0 0xFF 0b000000 }) =
      some ((0x0, 0xFF, 176, 0x303, 7), 0x80) := by with_unfolding_all rfl

theorem test_A31_rol :
    seen lookM (step { ram .m6502 0x300 [(0x300, 0x2A)] with m := regs 0x80 0x0 0x0 0xFF 0b000001 }) =
      some (0x1, 0xFF, 49, 0x301, 2) := by with_unfolding_all rfl

theorem test_C2_jump_indirect_page_wrap :
    seen lookM (step { ram .m6502 0x300 [(0x200, 0x12), (0x2FF, 0x34), (0x300, 0x6C), (0x301, 0xFF), (0x302, 0x02)] with m := regs 0x0 0x0 0x0 0xFF 0b000000 }) =
      some (0x0, 0xFF, 48, 0x1234, 5) := by with_unfolding_all rfl

theorem test_C4_jsr :
    seen (fun t => (lookM t, ((ptRead t 0x0100).toNat, (ptRead t 0x01FF).toNat))) (step { ram .m6502 0x300 [(0x300, 0x20), (0x302, 0x90)] with m := regs 0x0 0x0 0x0 0x0 0b000000 }) =
      some ((0x0, 0xFE, 48, 0x9000, 6), (3, 2)) := by with_unfolding_all rfl

theorem test_C7_rti :
    seen lookM (step { ram .m6502 0x300 [(0x1FD, 0x33), (0x1FE, 0x05), (0x1FF, 0x80), (0x300, 0x40)] with m := regs 0x0 0x0 0x0 0xFC 0b000000 }) =
      some (0x0, 0xFF, 51, 0x8005, 6) := by with_unfolding_all rfl

theorem test_C8_brk :
    seen (fun t => (lookM t, ((ptRead t 0x01FF).toNat, (ptRead t 0x01FE).toNat, (ptRead t 0x01FD).toNat))) (step { ram .m6502 0x300 [(0xFFFF, 0x90)] with m := regs 0x0 0x0 0x0 0xFF 0b101001 }) =
      some ((0x0, 0xFC, 189, 0x9000, 7), (3, 2, 0xB9)) := by with_unfolding_all rfl

theorem test_B4_branch_crosses :
    seen lookM (step { ram .m6502 0x3F0 [(0x3F0, 0x90), (0x3F1, 0x7F)] with m := regs 0x0 0x0 0x0 0xFF 0b000000 }) =
      some (0x0, 0xFF, 48, 0x471, 4) := by with_unfolding_all rfl

theorem test_B5_branch_back :
    seen lookM (step { ram .m6502 0x300 [(0x300, 0xB0), (0x301, 0x80)] with m := regs 0x0 0x0 0x0 0xFF 0b000001 }) =
      some (0x0, 0xFF, 49, 0x282, 4) := by with_unfolding_all rfl

theorem test_H2_sentinel_away_from_idle :
    seen (fun t => (lookM t, t.errorCount)) (step { ram .m6502 0x300 [(0x300, 0x22)] with m := regs 0x0 0x0 0x0 0xFF 0b000000 }) =
      some ((0x0, 0xFF, 48, 0x301, 2), 1) := by with_unfolding_all rfl

theorem test_X3_indexed_address_wraps :
    seen (fun t => (lookZ t, t.z.r.toNat)) (step ({ acc 0x0 0b000000 (ram .z80 0x8000 [(0x6F, 0x5A), (0x8000, 0xDD), (0x8001, 0x7E), (0x8002, 0x7F)]) with z := { (acc 0x0 0b000000 (ram .z80 0x8000 [(0x6F, 0x5A), (0x8000, 0xDD), (0x8001, 0x7E), (0x8002, 0x7F)])).z with ix := 0xFFF0 } })) =
      some ((0x5A, 0x0, 0, 0x8003, 19), 2) := by with_unfolding_all rfl

theorem test_X4_load_h_indexed :
    seen lookZ (step ({ acc 0x0 0b000000 (ram .z80 0x8000 [(0x4001, 0x9A), (0x8000, 0xDD), (0x8001, 0x66), (0x8002, 0x01)]) with z := { (acc 0x0 0b000000 (ram .z80 0x8000 [(0x4001, 0x9A), (0x8000, 0xDD), (0x8001, 0x66), (0x8002, 0x01)])).z with ix := 0x4000 } })) =
      some (0x0, 0x9A00, 0, 0x8003, 19) := by with_unfolding_all rfl

theorem test_X9_push :
    seen (fun t => (lookZ t, ((ptRead t 0).toNat, (ptRead t 0xFFFF).toNat, t.z.sp.toNat))) (step ({ acc 0x0 0b000000 (ram .z80 0x8000 [(0x8000, 0xC5)]) with z := { (acc 0x0 0b000000 (ram .z80 0x8000 [(0x8000, 0xC5)])).z with bc := 0x1234, sp := 0x0001 } })) =
      some ((0x0, 0x0, 0, 0x8001, 11), (0x12, 0x34, 0xFFFF)) := by with_unfolding_all rfl

theorem test_X10_pop_af :
    seen lookZ (step ({ acc 0x0 0b000000 (ram .z80 0x8000 [(0x8000, 0xF1), (0xC000, 0xFF), (0xC001, 0x12)]) with z := { (acc 0x0 0b000000 (ram .z80 0x8000 [(0x8000, 0xF1), (0xC000, 0xFF), (0xC001, 0x12)])).z with sp := 0xC000 } })) =
      some (0x12, 0x0, 63, 0x8001, 10) := by with_unfolding_all rfl

theorem test_X13_exchange_stack :
    seen (fun t => (lookZ t, ((ptRead t 0xFFFF).toNat, (ptRead t 0).toNat))) (step ({ acc 0x0 0b000000 (ram .z80 0x8000 [(0x0, 0x22), (0x8000, 0xE3), (0xFFFF, 0x11)]) with z := { (acc 0x0 0b000000 (ram .z80 0x8000 [(0x0, 0x22), (0x8000, 0xE3), (0xFFFF, 0x11)])).z with hl := 0x3344, sp := 0xFFFF } })) =
      some ((0x0, 0x2211, 0, 0x8001, 19), (0x44, 0x33)) := by with_unfolding_all rfl

theorem test_X14_ldi :
    seen (fun t => (lookZ t, ((ptRead t 0x5000).toNat, t.z.bc.toNat))) (step ({ acc 0x0 0b111111 (ram .z80 0x8000 [(0x4000, 0x5A), (0x8000, 0xED), (0x8001, 0xA0)]) with z := { (acc 0x0 0b111111 (ram .z80 0x8000 [(0x4000, 0x5A), (0x8000, 0xED), (0x8001, 0xA0)])).z with hl := 0x4000, de := 0x5000 } })) =
      some ((0x0, 0x4001, 53, 0x8002, 16), (0x5A, 0xFFFF)) := by with_unfolding_all rfl

theorem test_X16_ldir_repeats :
    seen lookZ (step ({ acc 0x0 0b000000 (ram .z80 0x8000 [(0x4000, 0xAA), (0x8000, 0xED), (0x8001, 0xB0)]) with z := { (acc 0x0 0b000000 (ram .z80 0x8000 [(0x4000, 0xAA), (0x8000, 0xED), (0x8001, 0xB0)])).z with hl := 0x4000, de := 0x4001, bc := 3 } })) =
      some (0x0, 0x4001, 4, 0x8000, 21) := by with_unfolding_all rfl

theorem test_X19_cpd :
    seen lookZ (step ({ acc 0x10 0b000000 (ram .z80 0x8000 [(0x2000, 0x01), (0x8000, 0xED), (0x8001, 0xA9)]) with z := { (acc 0x10 0b000000 (ram .z80 0x8000 [(0x2000, 0x01), (0x8000, 0xED), (0x8001, 0xA9)])).z with hl := 0x2000, bc := 5 } })) =
      some (0x10, 0x1FFF, 14, 0x8002, 16) := by with_unfolding_all rfl

theorem test_X20_load_a_r :
    seen lookZ (step (acc 0x0 0b000000 (ram .z80 0x8000 [(0x8000, 0xED), (0x8001, 0x5F)]))) =
      some (0x2, 0x0, 0, 0x8002, 9) := by with_unfolding_all rfl

theorem test_E1_add_overflow :
    seen lookZ (step (acc 0x7F 0b000000 (ram .z80 0x8000 [(0x8000, 0xC6), (0x8001, 0x01)]))) =
      some (0x80, 0x0, 44, 0x8002, 7) := by with_unfolding_all rfl

theorem test_E14_sbc :
    seen lookZ (step (acc 0x80 0b000001 (ram .z80 0x8000 [(0x8000, 0xDE), (0x8001, 0x7F)]))) =
      some (0x0, 0x0, 30, 0x8002, 7) := by with_unfolding_all rfl

theorem test_E26_neg :
    seen lookZ (step (acc 0x80 0b000000 (ram .z80 0x8000 [(0x8000, 0xED), (0x8001, 0x44)]))) =
      some (0x80, 0x0, 39, 0x8002, 8) := by with_unfolding_all rfl

theorem test_DA10_daa :
    seen lookZ (step (acc 0xFA 0b001011 (ram .z80 0x8000 [(0x8000, 0x27)]))) =
      some (0x94, 0x0, 35, 0x8001, 4) := by with_unfolding_all rfl

theorem test_W4_add_hl :
    seen lookZ (step ({ acc 0x0 0b000000 (ram .z80 0x8000 [(0x8000, 0x29)]) with z := { (acc 0x0 0b000000 (ram .z80 0x8000 [(0x8000, 0x29)])).z with hl := 0x8001 } })) =
      some (0x0, 0x2, 1, 0x8001, 11) := by with_unfolding_all rfl

theorem test_W5_adc_hl :
    seen lookZ (step ({ acc 0x0 0b000000 (ram .z80 0x8000 [(0x8000, 0xED), (0x8001, 0x4A)]) with z := { (acc 0x0 0b000000 (ram .z80 0x8000 [(0x8000, 0xED), (0x8001, 0x4A)])).z with hl := 0x7FFF, bc := 1 } })) =
      some (0x0, 0x8000, 44, 0x8002, 15) := by with_unfolding_all rfl

theorem test_W9_sbc_hl :
    seen lookZ (step ({ acc 0x0 0b000000 (ram .z80 0x8000 [(0x8000, 0xED), (0x8001, 0x42)]) with z := { (acc 0x0 0b000000 (ram .z80 0x8000 [(0x8000, 0xED), (0x8001, 0x42)])).z with hl := 0x8000, bc := 1 } })) =
      some (0x0, 0x7FFF, 14, 0x8002, 15) := by with_unfolding_all rfl

theorem test_I10_dec_indexed :
    seen lookZ (step ({ acc 0x0 0b000001 (ram .z80 0x8000 [(0x8000, 0xDD), (0x8001, 0x35), (0x8002, 0xFF), (0xC000, 0x01)]) with z := { (acc 0x0 0b000001 (ram .z80 0x8000 [(0x8000, 0xDD), (0x8001, 0x35), (0x8002, 0xFF), (0xC000, 0x01)])).z with ix := 0xC001 } })) =
      some (0x0, 0x0, 19, 0x8003, 23) := by with_unfolding_all rfl

theorem test_S19_rlc_indexed :
    seen (fun t => (lookZ t, (ptRead t 0xC002).toNat)) (step ({ acc 0x0 0b000000 (ram .z80 0x8000 [(0x8000, 0xDD), (0x8001, 0xCB), (0x8002, 0x02), (0x8003, 0x06), (0xC002, 0x80)]) with z := { (acc 0x0 0b000000 (ram .z80 0x8000 [(0x8000, 0xDD), (0x8001, 0xCB), (0x8002, 0x02), (0x8003, 0x06), (0xC002, 0x80)])).z with ix := 0xC000 } })) =
      some ((0x0, 0x0, 1, 0x8004, 23), 1) := by with_unfolding_all rfl

theorem test_S23_rld :
    seen (fun t => (lookZ t, (ptRead t 0xC000).toNat)) (step ({ acc 0x7A 0b000000 (ram .z80 0x8000 [(0x8000, 0xED), (0x8001, 0x6F), (0xC000, 0x31)]) with z := { (acc 0x7A 0b000000 (ram .z80 0x8000 [(0x8000, 0xED), (0x8001, 0x6F), (0xC000, 0x31)])).z with hl := 0xC000 } })) =
      some ((0x73, 0xC000, 0, 0x8002, 18), 0x1A) := by with_unfolding_all rfl

theorem test_J4_jump_taken :
    seen lookZ (step (acc 0x0 0b000000 (ram .z80 0x8000 [(0x8000, 0x20), (0x8001, 0x05)]))) =
      some (0x0, 0x0, 0, 0x8007, 12) := by with_unfolding_all rfl

theorem test_J6_djnz_ends :
    seen lookZ (step ({ acc 0x0 0b000000 (ram .z80 0x8000 [(0x8000, 0x10), (0x8001, 0xFE)]) with z := { (acc 0x0 0b000000 (ram .z80 0x8000 [(0x8000, 0x10), (0x8001, 0xFE)])).z with bc := 0x0100 } })) =
      some (0x0, 0x0, 0, 0x8002, 8) := by with_unfolding_all rfl

theorem test_J7_call :
    seen (fun t => (lookZ t, ((ptRead t 0).toNat, (ptRead t 0xFFFF).toNat))) (step ({ acc 0x0 0b000000 (ram .z80 0x8000 [(0x8000, 0xCD), (0x8002, 0x90)]) with z := { (acc 0x0 0b000000 (ram .z80 0x8000 [(0x8000, 0xCD), (0x8002, 0x90)])).z with sp := 1 } })) =
      some ((0x0, 0x0, 0, 0x9000, 17), (0x80, 3)) := by with_unfolding_all rfl

theorem test_J14_retn :
    seen (fun t => (lookZ t, (t.z.iff1, t.z.sp.toNat))) (step ({ acc 0x0 0b000000 (ram .z80 0x8000 [(0x1000, 0x84), (0x1001, 0x1A), (0x8000, 0xED), (0x8001, 0x45)]) with z := { (acc 0x0 0b000000 (ram .z80 0x8000 [(0x1000, 0x84), (0x1001, 0x1A), (0x8000, 0xED), (0x8001, 0x45)])).z with iff2 := true, sp := 0x1000 } })) =
      some ((0x0, 0x0, 0, 0x1A84, 14), (true, 0x1002)) := by with_unfolding_all rfl

theorem test_J17_in_a_c :
    seen lookZ (step ({ acc 0x0 0b000001 (ram .z80 0x8000 [(0x8000, 0xED), (0x8001, 0x78)]) with z := { (acc 0x0 0b000001 (ram .z80 0x8000 [(0x8000, 0xED), (0x8001, 0x78)])).z with bc := 0x10FE } })) =
      some (0xFF, 0x0, 37, 0x8002, 12) := by with_unfolding_all rfl

theorem test_J18_outi :
    seen (fun t => (t.z.bc.toNat, t.z.hl.toNat, t.z.f.z, t.z.f.n, t.time))
      (step { ram .z80 0x8000 [(0x1000, 0x59), (0x8000, 0xED), (0x8001, 0xA3)] with
        z := { Z80Regs.reset with bc := 0x1007, hl := 0x1000 } }) =
      some (0x0F07, 0x1001, false, true, 16) := by with_unfolding_all rfl

theorem test_D10_illegal_indexed_cb :
    seen (fun t => (lookZ t, (t.errorCount, t.z.r.toNat))) (step (acc 0x0 0b000000 (ram .z80 0x8000 [(0x8000, 0xDD), (0x8001, 0xCB), (0x8002, 0x05), (0x8003, 0x30)]))) =
      some ((0x0, 0x0, 0, 0x8004, 16), (1, 2)) := by with_unfolding_all rfl

/-! ### Witnesses: instructions of every shape a statement speaks of, with operands at both ends of their range -/

theorem witness_M6502LoadsCompleteWithNZ :
    (Instr.mLdaIzx 0xFF).view = .m (.read .lda (.mem (.izx 0xFF))) ∧
    (Instr.mLdaAbx 0xFF 0x7F).view = .m (.read .lda (.mem (.abx 0xFF 0x7F))) ∧
    (Instr.mLdxImm 0xFF).view = .m (.read .ldx (.imm 0xFF)) ∧
    (Instr.mLdxAby 0xFF 0x7F).view = .m (.read .ldx (.mem (.aby 0xFF 0x7F))) ∧
    (Instr.mLdyImm 0xFF).view = .m (.read .ldy (.imm 0xFF)) ∧
    (Instr.mLdyAbx 0xFF 0x7F).view = .m (.read .ldy (.mem (.abx 0xFF 0x7F))) := by
  exact ⟨rfl, rfl, rfl, rfl, rfl, rfl⟩

theorem witness_M6502AddAndSubtractInBinary :
    (Instr.mAdcIzx 0xFF).view = .m (.read .adc (.mem (.izx 0xFF))) ∧
    (Instr.mAdcAbx 0xFF 0x7F).view = .m (.read .adc (.mem (.abx 0xFF 0x7F))) ∧
    (Instr.mSbcIzx 0xFF).view = .m (.read .sbc (.mem (.izx 0xFF))) ∧
    (Instr.mSbcAbx 0xFF 0x7F).view = .m (.read .sbc (.mem (.abx 0xFF 0x7F))) := by
  exact ⟨rfl, rfl, rfl, rfl⟩

theorem witness_M6502LogicCompareAndBitTest :
    (Instr.mAndIzx 0xFF).view = .m (.read .and (.mem (.izx 0xFF))) ∧
    (Instr.mAndAbx 0xFF 0x7F).view = .m (.read .and (.mem (.abx 0xFF 0x7F))) ∧
    (Instr.mOraIzx 0xFF).view = .m (.read .ora (.mem (.izx 0xFF))) ∧
    (Instr.mOraAbx 0xFF 0x7F).view = .m (.read .ora (.mem (.abx 0xFF 0x7F))) ∧
    (Instr.mEorIzx 0xFF).view = .m (.read .eor (.mem (.izx 0xFF))) ∧
    (Instr.mEorAbx 0xFF 0x7F).view = .m (.read .eor (.mem (.abx 0xFF 0x7F))) ∧
    (Instr.mCmpIzx 0xFF).view = .m (.read .cmp (.mem (.izx 0xFF))) ∧
    (Instr.mCmpAbx 0xFF 0x7F).view = .m (.read .cmp (.mem (.abx 0xFF 0x7F))) ∧
    (Instr.mCpxImm 0xFF).view = .m (.read .cpx (.imm 0xFF)) ∧
    (Instr.mCpxAbs 0xFF 0x7F).view = .m (.read .cpx (.mem (.abs 0xFF 0x7F))) ∧
    (Instr.mCpyImm 0xFF).view = .m (.read .cpy (.imm 0xFF)) ∧
    (Instr.mCpyAbs 0xFF 0x7F).view = .m (.read .cpy (.mem (.abs 0xFF 0x7F))) ∧
    (Instr.mBitZp 0xFF).view = .m (.read .bit (.mem (.zp 0xFF))) ∧
    (Instr.mBitAbs 0xFF 0x7F).view = .m (.read .bit (.mem (.abs 0xFF 0x7F))) := by
  exact ⟨rfl, rfl, rfl, rfl, rfl, rfl, rfl, rfl, rfl, rfl, rfl, rfl, rfl, rfl⟩

theorem witness_M6502StoresWriteOneByte :
    (Instr.mStaIzx 0xFF).view = .m (.store .a (.izx 0xFF)) ∧
    (Instr.mStaAbx 0xFF 0x7F).view = .m (.store .a (.abx 0xFF 0x7F)) := by
  exact ⟨rfl, rfl⟩

theorem witness_M6502ShiftsIncrementsAndDecrements :
    (Instr.mAslZp 0xFF).view = .m (.modify .asl (.zp 0xFF)) ∧
    (Instr.mIncAbx 0xFF 0x7F).view = .m (.modify .inc (.abx 0xFF 0x7F)) ∧
    (Instr.mAslAcc).view = .m (.acc .asl) ∧
    (Instr.mRorAcc).view = .m (.acc .ror) := by
  exact ⟨rfl, rfl, rfl, rfl⟩

theorem witness_M6502RegisterAndFlagInstructions :
    (Instr.mClc).view = .m (.implied .clc) ∧
    (Instr.mSed).view = .m (.implied .sed) := by
  exact ⟨rfl, rfl⟩

theorem witness_M6502StackInstructions :
    (Instr.mPha).view = .m .pha ∧
    (Instr.mPhp).view = .m .php ∧
    (Instr.mPla).view = .m .pla ∧
    (Instr.mPlp).view = .m .plp := by
  exact ⟨rfl, rfl, rfl, rfl⟩

theorem witness_M6502JumpsCallsAndReturns :
    (Instr.mJmpAbs 0xFF 0x7F).view = .m (.jmp 0xFF 0x7F) ∧
    (Instr.mJmpInd 0xFF 0x7F).view = .m (.jmpInd 0xFF 0x7F) ∧
    (Instr.mJsr 0xFF 0x7F).view = .m (.jsr 0xFF 0x7F) ∧
    (Instr.mRts).view = .m .rts ∧
    (Instr.mRti).view = .m .rti := by
  exact ⟨rfl, rfl, rfl, rfl, rfl⟩

theorem witness_M6502BranchesAndTheirCycles :
    (Instr.mBpl 0xFF).view = .m (.branch .pl 0xFF) ∧
    (Instr.mBeq 0xFF).view = .m (.branch .eq 0xFF) := by
  exact ⟨rfl, rfl⟩

theorem witness_M6502BreakGoesThroughItsVector :
    (Instr.mBrk).view = .m .brk := by
  exact rfl

theorem witness_HaltsAtAndAwayFromTheIdleAddress :
    (Instr.mHaltSentinel).view = .m .halt ∧
    (Instr.zHalt).view = .z .halt := by
  exact ⟨rfl, rfl⟩

theorem witness_Z80EightBitLoads :
    (Instr.zLd_B_B).view = .z (.ldRR .b .b) ∧
    (Instr.zLd_A_A).view = .z (.ldRR .a .a) ∧
    (Instr.zLd_B_n 0x80).view = .z (.ldRN .b 0x80) ∧
    (Instr.zLd_A_n 0x80).view = .z (.ldRN .a 0x80) ∧
    (Instr.zLd_B_atHL).view = .z (.ldRM .b .hl) ∧
    (Instr.zLd_A_atIYd 0x80).view = .z (.ldRM .a (.idx .iy 0x80)) ∧
    (Instr.zLd_A_atBC).view = .z (.ldAP .bc) ∧
    (Instr.zLd_A_atDE).view = .z (.ldAP .de) ∧
    (Instr.zLd_A_atnn 0xFF 0x7F).view = .z (.ldANn 0xFF 0x7F) ∧
    (Instr.zLd_I_A).view = .z (.ldIRA .i) ∧
    (Instr.zLd_R_A).view = .z (.ldIRA .r) ∧
    (Instr.zLd_A_I).view = .z (.ldAIR .i) ∧
    (Instr.zLd_A_R).view = .z (.ldAIR .r) := by
  exact ⟨rfl, rfl, rfl, rfl, rfl, rfl, rfl, rfl, rfl, rfl, rfl, rfl, rfl⟩

theorem witness_Z80SixteenBitLoads :
    (Instr.zLd_BC_nn 0xFF 0x7F).view = .z (.ldPN (.rp .bc) 0xFF 0x7F) ∧
    (Instr.zLd_IY_nn 0xFF 0x7F).view = .z (.ldPN (.xy .iy) 0xFF 0x7F) ∧
    (Instr.zLd_HL_atnn 0xFF 0x7F).view = .z (.ldHLNn 0xFF 0x7F) ∧
    (Instr.zLd_BC_atnn 0xFF 0x7F).view = .z (.ldPNn (.rp .bc) 0xFF 0x7F) ∧
    (Instr.zLd_IY_atnn 0xFF 0x7F).view = .z (.ldPNn (.xy .iy) 0xFF 0x7F) ∧
    (Instr.zLd_SP_HL).view = .z (.ldSP .hl) ∧
    (Instr.zLd_SP_IY).view = .z (.ldSP (.xy .iy)) := by
  exact ⟨rfl, rfl, rfl, rfl, rfl, rfl, rfl⟩

theorem witness_Z80Stores :
    (Instr.zLd_atHL_B).view = .z (.ldMR .hl .b) ∧
    (Instr.zLd_atIYd_A 0x80).view = .z (.ldMR (.idx .iy 0x80) .a) ∧
    (Instr.zLd_atHL_n 0x80).view = .z (.ldMN .hl 0x80) ∧
    (Instr.zLd_atIYd_n 0x80 0x80).view = .z (.ldMN (.idx .iy 0x80) 0x80) ∧
    (Instr.zLd_atBC_A).view = .z (.ldPA .bc) ∧
    (Instr.zLd_atDE_A).view = .z (.ldPA .de) ∧
    (Instr.zLd_atnn_A 0xFF 0x7F).view = .z (.ldNnA 0xFF 0x7F) ∧
    (Instr.zLd_atnn_HL 0xFF 0x7F).view = .z (.ldNnHL 0xFF 0x7F) ∧
    (Instr.zLd_atnn_BC 0xFF 0x7F).view = .z (.ldNnP (.rp .bc) 0xFF 0x7F) ∧
    (Instr.zLd_atnn_IY 0xFF 0x7F).view = .z (.ldNnP (.xy .iy) 0xFF 0x7F) := by
  exact ⟨rfl, rfl, rfl, rfl, rfl, rfl, rfl, rfl, rfl, rfl⟩

theorem witness_Z80PushPopAndExchanges :
    (Instr.zPush_BC).view = .z (.push (.qq .bc)) ∧
    (Instr.zPush_IY).view = .z (.push (.xy .iy)) ∧
    (Instr.zPop_BC).view = .z (.pop (.qq .bc)) ∧
    (Instr.zPop_IY).view = .z (.pop (.xy .iy)) ∧
    (Instr.zEx_DE_HL).view = .z .exDEHL ∧
    (Instr.zEx_AF_AFalt).view = .z .exAF ∧
    (Instr.zExx).view = .z .exx ∧
    (Instr.zEx_atSP_HL).view = .z (.exSP .hl) ∧
    (Instr.zEx_atSP_IY).view = .z (.exSP (.xy .iy)) := by
  exact ⟨rfl, rfl, rfl, rfl, rfl, rfl, rfl, rfl, rfl⟩

theorem witness_Z80BlockTransfer :
    (Instr.zLdi).view = .z (.ldBlock .up false) ∧
    (Instr.zLddr).view = .z (.ldBlock .down true) := by
  exact ⟨rfl, rfl⟩

theorem witness_Z80BlockSearch :
    (Instr.zCpi).view = .z (.cpBlock .up false) ∧
    (Instr.zCpdr).view = .z (.cpBlock .down true) := by
  exact ⟨rfl, rfl⟩

theorem witness_Z80AddSubtractCompareAndNegate :
    (Instr.zAdd_A_B).view = .z (.alu .add (.reg .b)) ∧
    (Instr.zAdd_A_atIYd 0x80).view = .z (.alu .add (.mem (.idx .iy 0x80))) ∧
    (Instr.zAdc_A_B).view = .z (.alu .adc (.reg .b)) ∧
    (Instr.zAdc_A_atIYd 0x80).view = .z (.alu .adc (.mem (.idx .iy 0x80))) ∧
    (Instr.zSub_B).view = .z (.alu .sub (.reg .b)) ∧
    (Instr.zSub_atIYd 0x80).view = .z (.alu .sub (.mem (.idx .iy 0x80))) ∧
    (Instr.zSbc_A_B).view = .z (.alu .sbc (.reg .b)) ∧
    (Instr.zSbc_A_atIYd 0x80).view = .z (.alu .sbc (.mem (.idx .iy 0x80))) ∧
    (Instr.zCp_B).view = .z (.alu .cp (.reg .b)) ∧
    (Instr.zCp_atIYd 0x80).view = .z (.alu .cp (.mem (.idx .iy 0x80))) ∧
    (Instr.zNeg).view = .z (.gen .neg) := by
  exact ⟨rfl, rfl, rfl, rfl, rfl, rfl, rfl, rfl, rfl, rfl, rfl⟩

theorem witness_Z80LogicAndGeneral :
    (Instr.zAnd_B).view = .z (.alu .and (.reg .b)) ∧
    (Instr.zAnd_atIYd 0x80).view = .z (.alu .and (.mem (.idx .iy 0x80))) ∧
    (Instr.zOr_B).view = .z (.alu .or (.reg .b)) ∧
    (Instr.zOr_atIYd 0x80).view = .z (.alu .or (.mem (.idx .iy 0x80))) ∧
    (Instr.zXor_B).view = .z (.alu .xor (.reg .b)) ∧
    (Instr.zXor_atIYd 0x80).view = .z (.alu .xor (.mem (.idx .iy 0x80))) ∧
    (Instr.zDaa).view = .z (.gen .daa) ∧
    (Instr.zCpl).view = .z (.gen .cpl) ∧
    (Instr.zCcf).view = .z (.gen .ccf) ∧
    (Instr.zScf).view = .z (.gen .scf) := by
  exact ⟨rfl, rfl, rfl, rfl, rfl, rfl, rfl, rfl, rfl, rfl⟩

theorem witness_Z80ByteIncrementsAndDecrements :
    (Instr.zInc_B).view = .z (.incDecR .inc .b) ∧
    (Instr.zDec_A).view = .z (.incDecR .dec .a) ∧
    (Instr.zInc_atHL).view = .z (.incDecM .inc .hl) ∧
    (Instr.zDec_atIYd 0x80).view = .z (.incDecM .dec (.idx .iy 0x80)) := by
  exact ⟨rfl, rfl, rfl, rfl⟩

theorem witness_Z80SixteenBitArithmetic :
    (Instr.zAdd_HL_BC).view = .z (.arith16 .add .bc) ∧
    (Instr.zAdc_HL_SP).view = .z (.arith16 .adc .sp) ∧
    (Instr.zAdd_IX_BC).view = .z (.addXY .ix .bc) ∧
    (Instr.zAdd_IY_SP).view = .z (.addXY .iy .sp) ∧
    (Instr.zInc_BC).view = .z (.incDec16 .inc (.rp .bc)) ∧
    (Instr.zDec_IY).view = .z (.incDec16 .dec (.xy .iy)) := by
  exact ⟨rfl, rfl, rfl, rfl, rfl, rfl⟩

theorem witness_Z80RotatesAndShifts :
    (Instr.zRlca).view = .z (.accRot .rlca) ∧
    (Instr.zRra).view = .z (.accRot .rra) ∧
    (Instr.zRlc_B).view = .z (.rot .rlc (.reg .b)) ∧
    (Instr.zSrl_atIYd 0x80).view = .z (.rot .srl (.mem (.idx .iy 0x80))) := by
  exact ⟨rfl, rfl, rfl, rfl⟩

theorem witness_Z80DigitRotatesAndBitInstructions :
    (Instr.zRld).view = .z .rld ∧
    (Instr.zRrd).view = .z .rrd ∧
    (Instr.zBit_0_B).view = .z (.bit 0 (.reg .b)) ∧
    (Instr.zBit_7_atIYd 0x80).view = .z (.bit 7 (.mem (.idx .iy 0x80))) ∧
    (Instr.zSet_0_B).view = .z (.setB 0 (.reg .b)) ∧
    (Instr.zSet_7_atIYd 0x80).view = .z (.setB 7 (.mem (.idx .iy 0x80))) ∧
    (Instr.zRes_0_B).view = .z (.resB 0 (.reg .b)) ∧
    (Instr.zRes_7_atIYd 0x80).view = .z (.resB 7 (.mem (.idx .iy 0x80))) := by
  exact ⟨rfl, rfl, rfl, rfl, rfl, rfl, rfl, rfl⟩

theorem witness_Z80JumpsAndTheirCycles :
    (Instr.zJp_nn 0xFF 0x7F).view = .z (.jp 0xFF 0x7F) ∧
    (Instr.zJp_NZ_nn 0xFF 0x7F).view = .z (.jpCC .nz 0xFF 0x7F) ∧
    (Instr.zJp_M_nn 0xFF 0x7F).view = .z (.jpCC .m 0xFF 0x7F) ∧
    (Instr.zJp_atHL).view = .z (.jpHL .hl) ∧
    (Instr.zJp_atIY).view = .z (.jpHL (.xy .iy)) ∧
    (Instr.zJr_e 0x80).view = .z (.jr 0x80) ∧
    (Instr.zJr_NZ_e 0x80).view = .z (.jrCC .nz 0x80) ∧
    (Instr.zJr_C_e 0x80).view = .z (.jrCC .c 0x80) ∧
    (Instr.zDjnz_e 0x80).view = .z (.djnz 0x80) := by
  exact ⟨rfl, rfl, rfl, rfl, rfl, rfl, rfl, rfl, rfl⟩

theorem witness_Z80CallsReturnsAndRestarts :
    (Instr.zCall_nn 0xFF 0x7F).view = .z (.call 0xFF 0x7F) ∧
    (Instr.zCall_NZ_nn 0xFF 0x7F).view = .z (.callCC .nz 0xFF 0x7F) ∧
    (Instr.zCall_M_nn 0xFF 0x7F).view = .z (.callCC .m 0xFF 0x7F) ∧
    (Instr.zRet).view = .z .ret ∧
    (Instr.zRet_NZ).view = .z (.retCC .nz) ∧
    (Instr.zRet_M).view = .z (.retCC .m) ∧
    (Instr.zReti).view = .z .reti ∧
    (Instr.zRetn).view = .z .retn ∧
    (Instr.zRst_00H).view = .z (.rst 0) ∧
    (Instr.zRst_38H).view = .z (.rst 7) := by
  exact ⟨rfl, rfl, rfl, rfl, rfl, rfl, rfl, rfl, rfl, rfl⟩

theorem witness_Z80ControlAndPorts :
    (Instr.zNop).view = .z .nop ∧
    (Instr.zDi).view = .z .di ∧
    (Instr.zEi).view = .z .ei ∧
    (Instr.zIm_0).view = .z (.im .im0) ∧
    (Instr.zIm_2).view = .z (.im .im2) ∧
    (Instr.zIn_A_atn 0x80).view = .z (.inAN 0x80) ∧
    (Instr.zIn_B_atC).view = .z (.inRC .b) ∧
    (Instr.zIn_A_atC).view = .z (.inRC .a) ∧
    (Instr.zOut_atn_A 0x80).view = .z (.outNA 0x80) ∧
    (Instr.zOut_atC_B).view = .z (.outCR .b) ∧
    (Instr.zOut_atC_A).view = .z (.outCR .a) := by
  exact ⟨rfl, rfl, rfl, rfl, rfl, rfl, rfl, rfl, rfl, rfl, rfl⟩

theorem witness_Z80BlockInputAndOutput :
    (Instr.zIni).view = .z (.inBlock .up false) ∧
    (Instr.zIndr).view = .z (.inBlock .down true) ∧
    (Instr.zOuti).view = .z (.outBlock .up false) ∧
    (Instr.zOtdr).view = .z (.outBlock .down true) := by
  exact ⟨rfl, rfl, rfl, rfl⟩

/-! ### Witnesses: states that meet the hypotheses of the other statements, clause by clause -/

theorem witness_DecodeOfEncodeIsTheInstruction :
    (Instr.zSet_7_atIYd 0xFF).wellFormed .z80 false = true ∧
    encode (.zSet_7_atIYd 0xFF) <+: [0xFD, 0xCB, 0xFF, 0xFE] ∧
    Instr.mHaltSentinel.wellFormed .m6502 true = true ∧ encode .mHaltSentinel <+: [0x22, 0, 0, 0] := by
  exact ⟨rfl, ⟨[], rfl⟩, rfl, ⟨[0, 0, 0], rfl⟩⟩

theorem witness_EncodeOfDecodeIsTheBytes :
    decode .m6502 true 0x22 0 0 0 = .instr .mHaltSentinel ∧
    decode .z80 false 0xFD 0xCB 0xFF 0xFE = .instr (.zSet_7_atIYd 0xFF) := by
  constructor <;> with_unfolding_all rfl

/-- Both ends of each range of illegal bytes, and the legal bytes next to them. -/
theorem witness_IllegalOpcodesAreTheListedOnes :
    decode .m6502 false 0x02 0 0 0 = .illegal .m6502 ∧ decode .m6502 true 0xFF 0 0 0 = .illegal .m6502 ∧
    decode .z80 false 0xCB 0x37 0 0 = .illegal .z80Cb ∧ decode .z80 false 0xCB 0x38 0 0 = .instr .zSrl_B ∧
    decode .z80 false 0xED 0x3F 0 0 = .illegal .z80Ed ∧ decode .z80 false 0xFD 0x00 0 0 = .illegal .z80Prefix ∧
    decode .z80 false 0xFD 0xCB 0 0x36 = .illegal .z80IndexCb := by
  refine ⟨?_, ?_, ?_, ?_, ?_, ?_, ?_⟩ <;> with_unfolding_all rfl

theorem witness_CbGroupIsReadByItsFields :
    ¬ ((0x00 : Byte).toNat / 8 = 6) ∧ ¬ ((0xFF : Byte).toNat / 8 = 6) ∧
    ((0x06 : Byte).toNat % 8 = 6 ∧ ¬ ((0x06 : Byte).toNat / 8 = 6)) ∧
    ((0xFE : Byte).toNat % 8 = 6 ∧ ¬ ((0xFE : Byte).toNat / 8 = 6)) := by decide

/-- A branch of every condition is taken with some flags and not taken with others. -/
theorem witness_M6502BranchesAndTheirCycles_flags :
    (regs 0 0 0 0 0).p = ⟨false, false, false, false, false, false⟩ ∧
    (regs 0 0 0 0 0x3F).p = ⟨true, true, true, true, true, true⟩ ∧
    (Instr.mBcc 0x80).view = .m (.branch .cc 0x80) ∧ (Instr.mBvs 0x7F).view = .m (.branch .vs 0x7F) := by
  refine ⟨rfl, rfl, rfl, rfl⟩

theorem witness_HaltsAtAndAwayFromTheIdleAddress_states :
    (ram .m6502 0x5FF6 []).pc = (ram .m6502 0x5FF6 []).cfg.idleAddr ∧
    (ram .m6502 0x0000 []).pc ≠ (ram .m6502 0x0000 []).cfg.idleAddr ∧
    (ram .z80 0xFFFF []).pc = (ram .z80 0xFFFF []).cfg.idleAddr ∧
    (ram .z80 0x0000 []).pc ≠ (ram .z80 0x0000 []).cfg.idleAddr ∧
    Instr.mHaltSentinel.view = .m .halt ∧ Instr.zHalt.view = .z .halt := by
  refine ⟨rfl, by decide, rfl, by decide, rfl, rfl⟩

/-- Every condition holds of some flags and fails of others. -/
theorem witness_conditions :
    (∀ k ∈ [CC.nz, .nc, .po, .p], conditionHolds k (acc 0 0 (ram .z80 0 [])).z.f) ∧
    (∀ k ∈ [CC.z, .c, .pe, .m], ¬ conditionHolds k (acc 0 0 (ram .z80 0 [])).z.f) ∧
    (∀ k ∈ [CC.z, .c, .pe, .m], conditionHolds k (acc 0 0x3F (ram .z80 0 [])).z.f) ∧
    (∀ k ∈ [CC.nz, .nc, .po, .p], ¬ conditionHolds k (acc 0 0x3F (ram .z80 0 [])).z.f) := by
  refine ⟨?_, ?_, ?_, ?_⟩ <;> intro k hk <;>
    simp only [List.mem_cons, List.not_mem_nil, or_false] at hk <;> rcases hk with rfl | rfl | rfl | rfl <;>
    first
    | rfl
    | (intro h; cases h)

theorem witness_djnz :
    (BitVec.ofNat 8 ((R8.b.get { Z80Regs.reset with bc := 0x0100 }).toNat + 255)).toNat = 0 ∧
    (BitVec.ofNat 8 ((R8.b.get { Z80Regs.reset with bc := 0x0000 }).toNat + 255)).toNat ≠ 0 := by decide

/-- A NOP stands at `pc`, and the slice runs. -/
theorem witness_StepRunsTheDecodedInstruction :
    let s := ram .m6502 0xFFFF [(0xFFFF, 0xEA)]
    s.control = .slice .direct ∧ s.phase ≠ .haltedAtIdle ∧ s.phase ≠ .haltedElsewhere ∧ s.time < s.endTime ∧
    decode s.cfg.family (decide (s.pc = s.cfg.idleAddr)) (ptRead s s.pc) (ptRead s (s.pc + 1)) (ptRead s (s.pc + 2))
      (ptRead s (s.pc + 3)) = .instr .mNop := by
  refine ⟨rfl, by decide, by decide, by decide, ?_⟩
  with_unfolding_all rfl

/-- What stands at `pc` of a state is this. -/
def standsAt (s : State) (d : Decoded) : Prop :=
  s.control = .slice .direct ∧ s.phase ≠ .haltedAtIdle ∧ s.phase ≠ .haltedElsewhere ∧ s.time < s.endTime ∧
  decode s.cfg.family (decide (s.pc = s.cfg.idleAddr)) (ptRead s s.pc) (ptRead s (s.pc + 1)) (ptRead s (s.pc + 2))
    (ptRead s (s.pc + 3)) = d

theorem witness_IllegalOpcodeIsCountedAndSkipped :
    standsAt (ram .m6502 0x0300 [(0x300, 0x22)]) (.illegal .m6502) ∧
    standsAt (ram .z80 0x8000 [(0x8000, 0xCB), (0x8001, 0x37)]) (.illegal .z80Cb) ∧
    standsAt (ram .z80 0x8000 [(0x8000, 0xED)]) (.illegal .z80Ed) ∧
    standsAt (ram .z80 0x8000 [(0x8000, 0xFD)]) (.illegal .z80Prefix) ∧
    standsAt (ram .z80 0x8000 [(0x8000, 0xDD), (0x8001, 0xCB)]) (.illegal .z80IndexCb) := by
  refine ⟨?_, ?_, ?_, ?_, ?_⟩ <;>
    exact ⟨rfl, by decide, by decide, by decide, by with_unfolding_all rfl⟩

/-- A machine at rest with one call of the host before it. -/
def calling (c : HostCall) : State := { State.reset with calls := [c] }

/-- A machine at rest that plays a track, with one call before it. -/
def playing (c : HostCall) : State := { calling c with started := true }

/-- A slice of the host's that has come to its end in one of the ways. -/
def atEnd (p : CpuPhase) : State := { ram .m6502 0x5FF6 [] with phase := p, time := 1000 }

theorem witness_RunBeginsAndEndsASlice :
    ((calling (.core (.run 0))).control = .host ∧ (calling (.core (.run 0))).calls = [.core (.run 0)]) ∧
    ((atEnd .running).control = .slice .direct ∧ (atEnd .running).phase = .running ∧
      (atEnd .running).endTime ≤ (atEnd .running).time) ∧
    ((atEnd .reset).phase = .reset ∧ (atEnd .reset).endTime ≤ (atEnd .reset).time) ∧
    (atEnd .haltedAtIdle).phase = .haltedAtIdle ∧ (atEnd .haltedElsewhere).phase = .haltedElsewhere := by
  refine ⟨⟨rfl, rfl⟩, ⟨rfl, rfl, by decide⟩, ⟨rfl, by decide⟩, rfl, rfl⟩

theorem witness_InstructionTimeAndPc :
    (∃ t, exec (.mLdaImm 0) (ram .m6502 0 []) = .next t) ∧ (Instr.mLdaImm 0).view.halts = false ∧
    (Instr.mLdaImm 0).view.transfers = false ∧
    standsAt (ram .m6502 0xFFFF [(0xFFFF, 0xEA)]) (.instr .mNop) ∧
    (∃ t, step (ram .m6502 0xFFFF [(0xFFFF, 0xEA)]) = .next t) ∧
    (ram .m6502 0 []).cfg.standardCosts ∧ (Instr.mLdaImm 0).family = (ram .m6502 0 []).cfg.family ∧
    noCallback (ram .m6502 0 []).cfg := by
  refine ⟨⟨_, rfl⟩, rfl, rfl, ⟨rfl, by decide, by decide, by decide, by with_unfolding_all rfl⟩,
    ⟨_, by with_unfolding_all rfl⟩, ⟨rfl, rfl, rfl⟩, rfl,
    ⟨(fun a k b h => by cases h), (fun a k h => by cases h), (fun k h => by cases h), rfl⟩⟩

/-- A machine with neither bank handler nor callback. -/
theorem witness_InstructionFrame :
    (∃ t, exec .mNop (ram .m6502 0 []) = .next t) ∧ (∃ t, exec .zNop (ram .z80 0 []) = .next t) ∧
    Instr.mNop.family = .m6502 ∧ Instr.zNop.family = .z80 ∧ Instr.mNop ≠ .mHaltSentinel ∧
    Instr.mNop.view.halts = false ∧ (∀ a, noBank (ram .m6502 0 []).cfg a) ∧ noCallback (ram .m6502 0 []).cfg := by
  refine ⟨⟨_, rfl⟩, ⟨_, rfl⟩, rfl, rfl, (fun h => by cases h), rfl,
    (fun a w n r k h => by cases h), ⟨(fun a k b h => by cases h), (fun a k h => by cases h), (fun k h => by cases h), rfl⟩⟩

/-- A storing form with an address outside its bytes, and a form that stores nothing. -/
theorem witness_MemoryFrame :
    (∃ t, exec (.mStaZp 0x10) (ram .m6502 0 []) = .next t) ∧
    storesTo (.mStaZp 0x10) (ram .m6502 0 []) = [0x0010] ∧
    noBank (ram .m6502 0 []).cfg 0x0010 ∧
    resolveRead (ram .m6502 0 []) 0x0011 ≠ resolveWrite (ram .m6502 0 []) 0x0010 ∧
    storesTo (.mCmpZp 0x10) (ram .m6502 0 []) = [] := by
  refine ⟨⟨_, rfl⟩, rfl, (fun w n r k h => by cases h), by decide, rfl⟩

/-- RAM everywhere is a memory in which every entry lies inside its region. -/
theorem ram_memoryInv : MemoryInv (ram .m6502 0x0300 []) :=
  ⟨rfl, rfl, by unfold pageInside; decide, by unfold pageInside; decide, rfl⟩

theorem witness_StoreThenLoad :
    MemoryInv (ram .m6502 0x0300 []) ∧ writeHandler (ram .m6502 0x0300 []).cfg 0xFFFF = none ∧
    readHandler (ram .m6502 0x0300 []).cfg 0x0000 = none ∧
    (writeHandler State.reset.cfg 0x0000 = none ∧ (resolveWrite State.reset 0x0000).region = .unmappedWrite ∧
      ∀ b : Word, (resolveRead State.reset b).region ≠ .unmappedWrite) ∧
    (resolveRead State.reset 0xFFFF).region = .unmappedRead := by
  refine ⟨ram_memoryInv, rfl, rfl, ⟨rfl, rfl, fun b => ?_⟩, rfl⟩
  have e : ∀ k : Nat, ((List.replicate 32 (⟨.unmappedRead, 0⟩ : PageEntry)).getD k ⟨.unmappedRead, 0⟩).region = .unmappedRead := by
    intro k
    rw [List.getD_eq_getElem?_getD, List.getElem?_replicate]
    split <;> rfl
  show ((List.replicate 32 (⟨.unmappedRead, 0⟩ : PageEntry)).getD _ _).region ≠ _
  rw [e]
  decide

/-- RAM everywhere but for one page that a handler at `0x5000` to `0x5FFF` answers. -/
def handling (h : WriteHandler) : State :=
  { ram .m6502 0x0300 [(0x0800, 0x12)] with
    cfg := { Config.nesMachine with readRanges := [⟨0x5000, 0x5FFF, .callback (.setEndTime 5) 0x77⟩], writeRanges := [⟨0x5000, 0x5FFF, h⟩] } }

theorem ram_byte_memoryInv : MemoryInv (ram .m6502 0x0300 [(0x0800, 0x12)]) :=
  ⟨rfl, rfl, by unfold pageInside; decide, by unfold pageInside; decide, rfl⟩

theorem handling_memoryInv (h : WriteHandler) : MemoryInv (handling h) :=
  have r := ram_byte_memoryInv
  ⟨r.readLength, r.writeLength, r.readInside, r.writeInside, r.canonical⟩

/-- A bank handler with an aligned window: bank 1 lies inside the ROM, bank 32 beyond it; with a window of three pages the
last bank begins inside and ends beyond. -/
theorem witness_StoreThenLoad_bank :
    MemoryInv (handling (.bank 0x8000 0x0800 0 .zeros)) ∧
    writeHandler (handling (.bank 0x8000 0x0800 0 .zeros)).cfg 0x5000 = some (.bank 0x8000 0x0800 0 .zeros) ∧
    0x8000 % (handling (.bank 0x8000 0x0800 0 .zeros)).cfg.pageSize = 0 ∧
    0x0800 % (handling (.bank 0x8000 0x0800 0 .zeros)).cfg.pageSize = 0 ∧
    (handling (.bank 0x8000 0x0800 0 .zeros)).cfg.pageSize ≤ 0x0800 ∧ 0x8000 + 0x0800 ≤ 65536 ∧
    (31 : Byte).toNat * 0x0800 + 0x0800 ≤ regionSize (handling (.bank 0x8000 0x0800 0 .zeros)) (.region 0) ∧
    regionSize (handling (.bank 0x8000 0x0800 0 .unmapped)) (.region 0) ≤ (32 : Byte).toNat * 0x0800 ∧
    (10 : Byte).toNat * 0x1800 < regionSize (handling (.bank 0x8000 0x1800 0 .zeros)) (.region 0) ∧
    regionSize (handling (.bank 0x8000 0x1800 0 .zeros)) (.region 0) < (10 : Byte).toNat * 0x1800 + 0x1800 :=
  ⟨handling_memoryInv _, rfl, by decide, by decide, by decide, by decide, by decide, by decide, by decide, by decide⟩

/-- Callbacks behind a write, a read and both directions of the ports. -/
theorem witness_StoreThenLoad_callback :
    writeHandler (handling (.callback .run)).cfg 0x5FFF = some (.callback .run) ∧
    readHandler (handling (.callback .run)).cfg 0x5000 = some (.callback (.setEndTime 5) 0x77) ∧
    ({ Config.ayMachine with portOut := some (.callback .startTrack) } : Cfg).portOut = some (.callback .startTrack) ∧
    ({ Config.ayMachine with portIn := ⟨0, some (.setTime 1)⟩ } : Cfg).portIn.call = some (.setTime 1) :=
  ⟨rfl, rfl, rfl, rfl⟩

/-- R88: bank 1 of the ROM in its window; R570 (b), U17: zeros for a bank beyond it; R88, R571: the fill byte. -/
theorem test_R88_bank :
    (ptRead (memWrite 0x5000 1 (handling (.bank 0x8000 0x0800 0 .zeros))) 0x8000).toNat = 0x12 ∧
    (ptRead (memWrite 0x5000 32 (handling (.bank 0x8000 0x0800 0 .zeros))) 0x87FF).toNat = 0 ∧
    (ptRead (memWrite 0x5000 32 (handling (.bank 0x8000 0x0800 0 .unmapped))) 0x87FF).toNat = 0xFF ∧
    (memWrite 0x5000 32 (handling (.bank 0x8000 0x0800 0 .unmapped))).warning = some "bank data missing" ∧
    (memWrite 0x5000 10 (handling (.bank 0x8000 0x1800 0 .zeros))).refusals = [.misalignedMap] := by
  refine ⟨?_, ?_, ?_, ?_, ?_⟩ <;> with_unfolding_all rfl

/-- R165: a callback shortens the slice, and its read answers. -/
theorem test_R165_set_end_time :
    ((memRead 0x5000 (handling .nesWrite)).1, (memRead 0x5000 (handling .nesWrite)).2.endTime) = (0x77, 5) := by
  with_unfolding_all rfl

theorem witness_MappingCallsInstallOrAreRefused :
    mapOk (ram .m6502 0 []) (.mapCode 0xF800 0x0800 ⟨.region 0, 0⟩ none) = true ∧
    mapOk (ram .m6502 0 []) (.mapCode 0x8000 0x8000 ⟨.region 0, 0xF000⟩ (some 0x1000)) = true ∧
    mapOk (ram .m6502 0 []) (.mapCode 0x8100 0x0800 ⟨.region 0, 0⟩ none) = false ∧
    mapOk (ram .m6502 0 []) (.mapMem 0 0x10000 ⟨.region 0, 0⟩ ⟨.region 0, 0⟩) = true ∧
    mapOk (ram .m6502 0 []) (.mapMem 0xF800 0x1000 ⟨.region 0, 0⟩ ⟨.region 0, 0⟩) = false := by decide

theorem witness_EveryStepKeepsMemoryInv :
    MemoryInv (ram .m6502 0x0300 []) ∧ ∃ t, step (ram .m6502 0x0300 []) = .next t :=
  ⟨ram_memoryInv, _, by with_unfolding_all rfl⟩

/-- A machine whose pulse 1 reports to its channel an amplitude it has. -/
def sounding : State :=
  { ram .m6502 0x0300 [] with
    nes := { Nes.reset Config.nesConsts with pulse1 := { Pulse.reset with out := ⟨0, some ⟨.nesApu, 0⟩⟩ } } }

theorem sounding_chipInv : ChipInv sounding := by
  refine ⟨⟨?_, ?_, ?_, ?_, ?_, by decide, ?_, ?_, ?_, ?_, ?_⟩, ⟨rfl, by decide, by decide, ?_, ?_, ?_, ?_⟩,
    ⟨?_, ?_, ?_, ?_⟩⟩
  · exact ⟨by decide, by decide, by decide, by decide, by decide⟩
  · exact ⟨by decide, by decide, by decide, by decide, by decide⟩
  · exact ⟨by decide, by decide, by decide⟩
  · exact ⟨by decide, by decide, by decide⟩
  · exact ⟨by decide, by decide⟩
  · exact Or.inr ⟨rfl, rfl⟩
  all_goals exact Or.inl rfl

theorem witness_EveryStepKeepsChipInv : ChipInv sounding ∧ ∃ t, step sounding = .next t :=
  ⟨sounding_chipInv, _, by with_unfolding_all rfl⟩

/-- The same machine at rest, with one call before it. -/
def soundingCalled (c : HostCall) : State := { sounding with control := .host, calls := [c], started := true }

theorem witness_DeltasAddUpToWhatWasReported :
    (sounding.control ≠ .host ∧ ∃ t, step sounding = .next t) ∧
    ((soundingCalled (.setVoiceMute 1)).control = .host ∧ ChipInv (soundingCalled (.setVoiceMute 1)) ∧
      (∀ index image cs, (soundingCalled (.setVoiceMute 1)).calls = .startTrack index image :: cs →
        image.trackCount ≤ index) ∧ ∃ t, step (soundingCalled (.setVoiceMute 1)) = .next t) ∧
    ((soundingCalled (.startTrack 0 ⟨[], [], 0, 0, 1, none⟩)).calls = [.startTrack 0 ⟨[], [], 0, 0, 1, none⟩] ∧
      ChipInv (soundingCalled (.startTrack 0 ⟨[], [], 0, 0, 1, none⟩)) ∧ Chip.nesApu ∈ sounding.cfg.chips ∧
      ∃ t, step (soundingCalled (.startTrack 0 ⟨[], [], 0, 0, 1, none⟩)) = .next t) := by
  have h := sounding_chipInv
  refine ⟨⟨by decide, _, by with_unfolding_all rfl⟩, ⟨rfl, ⟨h.nes, h.ay, h.pokey⟩, fun index image cs e => ?_, _, rfl⟩,
    rfl, ⟨h.nes, h.ay, h.pokey⟩, by decide, _, rfl⟩
  cases e

/-- R549, R455: a voice whose mute bit is 0 is attached, and the triangle reports its level at once. -/
theorem test_R549_mute :
    seen (fun t => (t.nes.triangle.out.output, t.sink.head?))
      (step (soundingCalled (.setVoiceMute 0))) = some (some ⟨.nesApu, 2⟩, some (.offset ⟨.nesApu, 2⟩ 0 15)) := by
  with_unfolding_all rfl

theorem witness_ResetOfTheCore :
    (calling (.core (.reset 0xFF))).control = .host ∧ (calling (.core (.reset 0xFF))).calls = [.core (.reset 0xFF)] :=
  ⟨rfl, rfl⟩

/-- The ends of each range of register addresses, at the chip's own time and one cycle before it. -/
theorem witness_NesRegisterWrites :
    State.reset.nes.lastTime ≤ 0 ∧ (-1 : Int) < State.reset.nes.lastTime ∧
    (0x4000 : Word).toNat = 0x4000 + 0 ∧ (0x4003 : Word).toNat = 0x4000 + 3 ∧ (0x4007 : Word).toNat = 0x4004 + 3 ∧
    (0x400B : Word).toNat = 0x4008 + 3 ∧ (0x400F : Word).toNat = 0x400C + 3 ∧ (0x4011 : Word).toNat = 0x4010 + 1 ∧
    (0x4013 : Word).toNat = 0x4010 + 3 ∧ (0x4015 : Word).toNat = 0x4015 ∧ (0x4017 : Word).toNat = 0x4017 ∧
    (0x4016 : Word).toNat ∈ [0x4009, 0x400D, 0x4014, 0x4016] ∧ (0x3FFF : Word).toNat < 0x4000 ∧
    0x4017 < (0x4018 : Word).toNat ∧ State.reset.cfg.lateCalls = .atChipTime ∧
    ({ State.reset.cfg with lateCalls := .ignored } : Cfg).lateCalls = .ignored ∧
    State.reset.cfg.writeRanges = [⟨0x4000, 0x4017, .nesWrite⟩] := by decide

/-- N10 of section 6.6 under U9: a write one cycle before the chip's time still stores, with the warning; under R571 it does
not. -/
theorem test_N10_late_write :
    (nesWrite (-1) 0x4008 0x85 State.reset).nes.triangle.linearLoad = 5 ∧
    (nesWrite (-1) 0x4008 0x85 State.reset).warning = some "time went backwards" ∧
    (nesWrite (-1) 0x4008 0x85 (State.resetOf { Config.nesMachine with lateCalls := .ignored })).nes.triangle.linearLoad = 0 := by
  refine ⟨?_, ?_, ?_⟩ <;> with_unfolding_all rfl

/-- R88: a data write at `0x4000` to `0x4017` reaches the chip and not the memory. -/
theorem test_R88_nes_write :
    let s := { ram .m6502 0 [] with cfg := Config.nesMachine }
    (memWrite 0x4012 0x55 s).nes.dmc.addrReg = 0x55 ∧ ptRead (memWrite 0x4012 0x55 s) 0x4012 = 0 ∧
    ptRead (memWrite 0x4018 0x55 s) 0x4018 = 0x55 := by
  refine ⟨?_, ?_, ?_⟩ <;> with_unfolding_all rfl

theorem witness_NesStatusRead :
    State.reset.cfg.readRanges = [⟨0x4015, 0x4015, .nesStatus⟩] ∧ State.reset.nes.lastTime ≤ State.reset.time ∧
    ({ State.reset with time := -1 } : State).time < State.reset.nes.lastTime ∧ (0x4014 : Word) ≠ 0x4015 ∧
    State.reset.cfg.lateCalls = .atChipTime ∧
    ({ State.reset.cfg with lateCalls := .ignored } : Cfg).readRanges = [⟨0x4015, 0x4015, .nesStatus⟩] := by
  refine ⟨rfl, by decide, by decide, by decide, rfl, rfl⟩

theorem witness_AyRegisterAndPortWrites :
    State.reset.ay.lastTime ≤ 0 ∧ (-1 : Int) < State.reset.ay.lastTime ∧
    (ram .z80 0 []).cfg.portOut = some .ayPort ∧ (ram .z80 0 []).ay.mode ≠ .cpc ∧ (ram .z80 0 []).ay.mode ≠ .spectrum ∧
    (0x00FE : Word).toNat % 256 = 0xFE ∧ (0xFEFD : Word).toNat / 256 = 0xFE ∧ (0xBEFD : Word).toNat / 256 = 0xBE ∧
    (0xF600 : Word).toNat / 256 = 0xF6 ∧ (0xF6FF : Word).toNat % 256 = 0xFF ∧ (0xF4FF : Word).toNat / 256 = 0xF4 ∧
    192 ≤ (0xC0 : Byte).toNat ∧ (0xBF : Byte).toNat < 192 ∧ 128 ≤ (0x80 : Byte).toNat ∧ (0x7F : Byte).toNat < 128 ∧
    (0xF5FF : Word).toNat / 256 ≠ 0xF6 ∧ State.reset.cfg.lateCalls = .atChipTime ∧
    ({ State.reset.cfg with lateCalls := .ignored } : Cfg).lateCalls = .ignored := by decide

theorem witness_PokeyRegisterWrites :
    State.reset.pokey.lastTime ≤ 0 ∧ (-1 : Int) < State.reset.pokey.lastTime ∧
    (0xD1FF : Word).toNat < 0xD200 ∧ 0xD20F < (0xD210 : Word).toNat ∧ 0xD200 ≤ (0xD200 : Word).toNat ∧
    (0xD20F : Word).toNat ≤ 0xD20F ∧ Config.atariMachine.writeRanges = [⟨0xD200, 0xD20F, .pokeyWrite⟩] ∧
    Config.atariMachine.lateCalls = .atChipTime ∧
    ({ Config.atariMachine with lateCalls := .ignored } : Cfg).lateCalls = .ignored := by decide

theorem witness_ChipTimeRunsInPieces :
    (Nes.reset Config.nesConsts).lastTime ≤ 0 ∧ (0 : Int) ≤ 7458 ∧ 0 < Config.nesConsts.frameStepPeriod ∧
    (Ay.reset Config.ayConsts).lastTime ≤ 0 ∧ 0 < Config.ayConsts.tick ∧ Pokey.reset.lastTime ≤ 0 ∧
    0 < Config.pokeyConsts.div64k ∧ 0 < Config.pokeyConsts.div15k := by
  decide

theorem witness_JsrThenStopPushesTheIdleAddress :
    (calling (.core (.jsrThenStop 0x8000))).control = .host ∧
    (calling (.core (.jsrThenStop 0x8000))).calls = [.core (.jsrThenStop 0x8000)] ∧
    State.reset.cfg.family = .m6502 ∧ (ram .z80 0 []).cfg.family = .z80 := ⟨rfl, rfl, rfl, rfl⟩

/-- The top of a pass of a frame: `due` says when the play call is due, `at` where the CPU is, and what is suspended. -/
def inFrame (due : Int) (pc : Word) (p : Option Snapshot) : State :=
  { ram .m6502 pc [] with control := .frame 100 0, nextPlayTime := due, suspended := p }

/-- The registers of the reset machine, suspended. -/
def held : Snapshot := ⟨0x8000, M6502Regs.reset, Z80Regs.reset⟩

theorem witness_PlayCallEntersTheGuest :
    (inFrame 1 0x5FF6 none).control = .frame 100 0 ∧ (inFrame 1 0x5FF6 none).time < 100 ∧
    (inFrame 1 0x5FF6 none).time < (inFrame 1 0x5FF6 none).nextPlayTime ∧
    (inFrame 0 0x5FF6 none).nextPlayTime ≤ (inFrame 0 0x5FF6 none).time ∧
    (inFrame 0 0x5FF6 none).pc = (inFrame 0 0x5FF6 none).cfg.idleAddr ∧
    (inFrame 0 0x8000 none).pc ≠ (inFrame 0 0x8000 none).cfg.idleAddr ∧ (inFrame 0 0x8000 none).suspended = none ∧
    (inFrame 0 0x8000 (some held)).pc ≠ (inFrame 0 0x8000 (some held)).cfg.idleAddr ∧
    (inFrame 0 0x8000 (some held)).suspended ≠ none := by
  refine ⟨rfl, by decide, by decide, by decide, rfl, by decide, rfl, by decide, by decide⟩

/-- A slice of a frame that has come to its end. -/
def sliceEnded (p : CpuPhase) (h : Option Snapshot) : State :=
  { atEnd p with control := .slice (.frame 100 0 50), suspended := h }

theorem witness_RoutineEndsAndTheSuspendedOneGoesOn :
    (sliceEnded .haltedAtIdle (some held)).control = .slice (.frame 100 0 50) ∧
    (sliceEnded .haltedAtIdle (some held)).phase = .haltedAtIdle ∧
    (sliceEnded .haltedAtIdle (some held)).suspended = some held ∧
    (sliceEnded .haltedAtIdle none).suspended = none ∧
    (sliceEnded .haltedElsewhere none).phase = .haltedElsewhere ∧
    (sliceEnded .running none).endTime ≤ (sliceEnded .running none).time := by
  refine ⟨rfl, rfl, rfl, rfl, rfl, by decide⟩

theorem witness_FrameEndRebasesTime :
    let s := { inFrame 0 0x5FF6 none with time := 100 }
    s.control = .frame 100 0 ∧ 100 ≤ s.time ∧ s.cfg.chips = [.nesApu] ∧ 0 < s.cfg.nesConsts.frameStepPeriod ∧
    (ram .z80 0 []).cfg.chips = [.ay] ∧ Config.atariMachine.chips = [.pokey] ∧ s.nes.lastTime < 100 ∧
    ¬ ({ s with nes := { s.nes with lastTime := 100 } } : State).nes.lastTime < 100 ∧ s.cfg.endTimeRebase = .kept ∧
    ({ s.cfg with endTimeRebase := .rebased } : Cfg).endTimeRebase = .rebased := by
  refine ⟨rfl, by decide, rfl, by decide, rfl, rfl, by decide, by decide, rfl, rfl⟩

/-- A frame of 100 cycles that began its last slice with the bound 100 (R22, R546). -/
theorem test_end_time_rebased :
    let s := { inFrame 0 0x5FF6 none with time := 103, endTime := 100 }
    (rebaseTime 100 s).endTime = 100 ∧ (rebaseTime 100 s).time = 3 ∧
    (rebaseTime 100 { s with cfg := { s.cfg with endTimeRebase := .rebased } }).endTime = 0 := by
  refine ⟨rfl, rfl, rfl⟩

/-- An image of one track. -/
def oneTrack : Image := ⟨[], [], 0x8000, 0x8003, 1, none⟩

theorem witness_StartTrackArmsTheMachine :
    (calling (.startTrack 1 oneTrack)).control = .host ∧
    (calling (.startTrack 1 oneTrack)).calls = [.startTrack 1 oneTrack] ∧ oneTrack.trackCount ≤ 1 ∧
    0 < oneTrack.trackCount ∧ State.reset.cfg.entryInit = [⟨.mA, .track⟩] ∧ State.reset.cfg.family = .m6502 ∧
    ({ atEnd .haltedAtIdle with control := .slice .initPhase } : State).phase = .haltedAtIdle ∧
    ({ atEnd .running with control := .slice .initPhase } : State).endTime ≤ (atEnd .running).time ∧
    Config.ayMachine.family = .z80 ∧ Config.ayMachine.entryInit = [⟨.zR8 .a, .track⟩] ∧
    (∀ a ∈ [stackPage 0xFF, stackPage 0xFE], writeHandler State.reset.cfg a = none) ∧
    (∀ a ∈ [stackPage 0xFF, stackPage 0xFE], resolveWrite State.reset a ≠ resolveRead State.reset 0x5FF6) ∧
    (0x5800 : Word).toNat / State.reset.cfg.pageSize = (0x5FF6 : Word).toNat / State.reset.cfg.pageSize ∧
    (0x57FF : Word).toNat / State.reset.cfg.pageSize ≠ (0x5FF6 : Word).toNat / State.reset.cfg.pageSize ∧
    State.reset.cfg.endTimeRebase = .kept ∧ ptRead State.reset 0x5FF6 ≠ State.reset.cfg.family.haltOpcode := by
  refine ⟨rfl, rfl, by decide, by decide, rfl, rfl, rfl, by decide, rfl, rfl, fun a h => ?_, fun a h => ?_, by decide,
    by decide, rfl, fun h => ?_⟩
  · simp only [List.mem_cons, List.not_mem_nil, or_false] at h
    rcases h with rfl | rfl <;> rfl
  · simp only [List.mem_cons, List.not_mem_nil, or_false] at h
    rcases h with rfl | rfl <;> exact fun e => by cases congrArg PageEntry.region e
  · have e : ptRead State.reset 0x5FF6 = 0xFF := by with_unfolding_all rfl
    rw [e] at h
    cases h

theorem witness_HostCallsDoWhatTheyAreCalledFor :
    (playing (.setTempo 2)).control = .host ∧ (playing (.setTempo 2)).calls = [.setTempo 2] ∧
    (playing (.setTempo 2)).started = true ∧ (calling (.setTempo 0)).started = false ∧
    (calling (.core .readTime)).calls = [.core .readTime] ∧ (calling .takeWarning).calls = [.takeWarning] ∧
    (calling (.core (.setTime 0))).calls = [.core (.setTime 0)] ∧
    (calling (.core (.setEndTime 0))).calls = [.core (.setEndTime 0)] ∧
    (calling (.setVoiceMute 1)).calls = [.setVoiceMute 1] ∧ (playing (.endFrame 1)).calls = [.endFrame 1] ∧
    (playing (.endFrame 0)).calls = [.endFrame 0] ∧ (calling (.warn "w")).calls = [.warn "w"] ∧
    (0 : Rat) < 2 ∧ (0 : Rat) ≤ 0 ∧ (playing (.setVoiceMute 31)).started = true ∧
    (playing (.setVoiceMute 31)).calls = [.setVoiceMute 31] ∧ Chip.nesApu.voices ≤ 5 ∧ Chip.ay.voices ≤ 4 := by
  refine ⟨rfl, rfl, rfl, rfl, rfl, rfl, rfl, rfl, rfl, rfl, rfl, rfl, by decide, by decide, rfl, rfl, by decide, by decide⟩

/-- The sequences that R501 writes out. -/
theorem test_poly_sequences :
    (List.range 15).map Config.pokeyConsts.poly4.bit =
      [1, 0, 0, 1, 1, 0, 1, 0, 1, 1, 1, 1, 0, 0, 0].map (fun n => decide (n = 1)) ∧
    (List.range 31).map Config.pokeyConsts.poly5.bit =
      ([1, 0, 0, 1, 0, 1, 1, 0, 0, 1, 1, 1, 1, 1, 0, 0] ++ [0, 1, 1, 0, 1, 1, 1, 0, 1, 0, 1, 0, 0, 0, 0]).map
        (fun n => decide (n = 1)) := by decide

/-- A machine with another `AY_TICK` and `BEEPER_AMP` (R472, R475). -/
theorem test_ay_constants :
    (Ay.reset { Config.ayConsts with tick := 8 }).envDelay = 16 ∧ (Ay.reset Config.ayConsts).toneA.delay = 16 ∧
    ({ Ay.reset Config.ayConsts with beeperBit := true } : Ay).beeperAmp { Config.ayConsts with beeperAmp := 100 } = 100 := by
  decide

/-! ### The driver and the chips, a step at a time (R551, R457, R172) -/

/-- The track of R551: `RTS` at 0x8000 and at 0x8003, RAM at 0, a read-only page at 0x8000. -/
def twoReturns : Image :=
  { regions := [⟨0x0800, []⟩, ⟨0x0800, [(0, [0x60, 0x00, 0x00, 0x60])]⟩]
    plan := [.mapMem 0 0x0800 ⟨.region 0, 0⟩ ⟨.region 0, 0⟩, .mapCode 0x8000 0x0800 ⟨.region 1, 0⟩ none]
    initAddr := 0x8000
    playAddr := 0x8003
    trackCount := 1
    playPeriod := some 100 }

/-- R551: after `start_track` the return address of the idle address stands on the stack and the init routine is next. -/
theorem test_R551_start_track :
    seen (fun t => (t.pc.toNat, t.m.sp.toNat, (ptRead t 0x01FF).toNat, (ptRead t 0x01FE).toNat, (ptRead t 0x5FF6).toNat,
        t.endTime, t.playPeriod))
      (step (calling (.startTrack 0 twoReturns))) = some (0x8000, 0xFD, 0x5F, 0xF5, 0x22, 100, 100) := by
  with_unfolding_all rfl

/-- R532: entry registers beyond the accumulator, the flags and the interrupt state among them. -/
theorem test_R532_entry_registers :
    let s := setEntryRegs [⟨.mP, .const 0xC1⟩, ⟨.mSP, .const 0x80⟩, ⟨.zF, .const 0x81⟩, ⟨.zAltAF, .const 0x1240⟩,
      ⟨.zI, .track⟩, ⟨.zIff1, .const 1⟩, ⟨.zIm, .const 2⟩] 0x13F State.reset
    (lookM s, s.z.aAlt, s.z.i) = ((0, 0x80, 0xF1, 0, 0), 0x12, 0x3F) ∧
    (s.z.f.s, s.z.f.c, s.z.fAlt.z, s.z.iff1, s.z.im) = (true, true, true, true, .im2) := by
  refine ⟨?_, ?_⟩ <;> with_unfolding_all rfl

/-- M3 of section 6.1: a byte stored through a mapped page reads back, the next page is unmapped. -/
theorem test_M3_map_mem :
    let s := applyMap (.mapMem 0 0x0800 ⟨.region 0, 0⟩ ⟨.region 0, 0⟩) { State.reset with regions := [⟨0x0800, []⟩] }
    ((ptRead (ptWrite s 0x0010 0x55) 0x0010).toNat, (ptRead (ptWrite s 0x0010 0x55) 0x0810).toNat) = (0x55, 0xFF) := by
  decide

/-- R7, D1: another page size. -/
theorem test_D1_page_bits :
    let s := applyMap (.mapMem 0x1000 0x1000 ⟨.region 0, 0⟩ ⟨.region 0, 0⟩)
      { State.resetOf { Config.nesMachine with pageBits := 12 } with regions := [⟨0x1000, []⟩] }
    ((ptRead (ptWrite s 0x1FFF 0x55) 0x1FFF).toNat, s.readPage.length, s.warning) = (0x55, 16, none) := by
  with_unfolding_all rfl

/-- R630: another cycle table and another EXTRA are charged. -/
theorem test_R630_substituted_costs :
    let s := ram .m6502 0x300 [(0x300, 0xBD), (0x301, 0xF0), (0x302, 0x12), (0x1310, 0x33)]
    seen State.time (step { s with
      m := regs 0x0 0x20 0x0 0xFF 0b000000
      cfg := { s.cfg with
        cyc := { s.cfg.cyc with main := List.replicate 16 (List.replicate 16 9) }
        extra := { s.cfg.extra with pageCross := 3 } } }) = some 12 := by
  with_unfolding_all rfl

/-- M6 of section 6.1: a misaligned mapping is refused with its warning. -/
theorem test_M6_misaligned_map :
    (applyMap (.mapCode 0x8100 0x0800 ⟨.region 0, 0⟩ none) (ram .m6502 0 [])).warning = some "bad page mapping" ∧
    (applyMap (.mapCode 0x8100 0x0800 ⟨.region 0, 0⟩ none) (ram .m6502 0 [])).refusals = [.misalignedMap] := by
  exact ⟨rfl, rfl⟩

/-- R579: a callback that calls `set_time` is refused, and nothing else changes. -/
theorem test_R579_set_time_in_callback :
    let s := { ram .m6502 0 [] with
      cfg := { Config.nesMachine with writeRanges := [⟨0x5000, 0x5000, .callback (.setTime 7)⟩] } }
    memWrite 0x5000 1 s = { s with refusals := [.setTimeInCallback] } := by
  rfl

end Sys2Proof.Tests
end

section
/-! PROOFS. What an instruction is made of: every instruction but the two halts is a sequence of register updates, data
accesses and port accesses. Frames and invariants of instructions go by these few acts, never by the shapes. -/

namespace Sys2Proof.Machine

/-- One act of an instruction of a CPU family: its registers change (with `pc`, the time, and for the Z80 the counter of free
values), or it makes one data or port access (R80 to R85, R153). -/
inductive CpuAct : Family → State → State → Prop where
  | mRegs (s : State) (pc : Word) (time : Int) (m : M6502Regs) :
      CpuAct .m6502 s { s with pc := pc, time := time, m := m }
  | zRegs (s : State) (pc : Word) (time : Int) (z : Z80Regs) (draws : Nat) :
      CpuAct .z80 s { s with pc := pc, time := time, z := z, draws := draws }
  | read {fam : Family} (a : Word) (s : State) : CpuAct fam s (memRead a s).2
  | write {fam : Family} (a : Word) (v : Byte) (s : State) : CpuAct fam s (memWrite a v s)
  | portIn (p : Word) (s : State) : CpuAct .z80 s (portIn p s).2
  | portOut (p : Word) (v : Byte) (s : State) : CpuAct .z80 s (portOut p v s)

/-- A sequence of acts. -/
abbrev CpuActs (fam : Family) : State → State → Prop := Relation.ReflTransGen (CpuAct fam)

section
variable {fam : Family} {s t u : State}

/-! ### Extending a sequence by one operation -/

theorem CpuActs.mRegs (h : CpuActs .m6502 s t) (e : u = { t with pc := u.pc, time := u.time, m := u.m }) :
    CpuActs .m6502 s u := by
  rw [e]; exact h.tail (.mRegs ..)

theorem CpuActs.zRegs (h : CpuActs .z80 s t)
    (e : u = { t with pc := u.pc, time := u.time, z := u.z, draws := u.draws }) : CpuActs .z80 s u := by
  rw [e]; exact h.tail (.zRegs ..)

theorem CpuActs.read (h : CpuActs fam s t) (a : Word) : CpuActs fam s (memRead a t).2 := h.tail (.read ..)

theorem CpuActs.write (h : CpuActs fam s t) (a : Word) (v : Byte) : CpuActs fam s (memWrite a v t) := h.tail (.write ..)

theorem CpuActs.portIn (h : CpuActs .z80 s t) (p : Word) : CpuActs .z80 s (portIn p t).2 := h.tail (.portIn ..)

theorem CpuActs.portOut (h : CpuActs .z80 s t) (p : Word) (v : Byte) : CpuActs .z80 s (portOut p v t) :=
  h.tail (.portOut ..)

theorem CpuActs.read16 (h : CpuActs fam s t) (a : Word) : CpuActs fam s (memRead16 a t).2 := (h.read _).read _

theorem CpuActs.write16 (h : CpuActs fam s t) (a v : Word) : CpuActs fam s (memWrite16 a v t) := (h.write _ _).write _ _

theorem CpuActs.push (h : CpuActs .m6502 s t) (v : Byte) : CpuActs .m6502 s (push v t) := (h.write _ _).mRegs rfl

theorem CpuActs.pull (h : CpuActs .m6502 s t) : CpuActs .m6502 s (pull t).2 :=
  (h.mRegs (u := { t with m := { t.m with sp := t.m.sp + 1 } }) rfl).read _

theorem CpuActs.push16 (h : CpuActs .z80 s t) (v : Word) : CpuActs .z80 s (push16 v t) := by
  have h1 := h.zRegs (u := { t with z := { t.z with sp := t.z.sp - 1 } }) rfl
  exact ((h1.write _ _).zRegs rfl).write _ _

theorem CpuActs.pop16 (h : CpuActs .z80 s t) : CpuActs .z80 s (pop16 t).2 :=
  (((h.read _).zRegs rfl).read _).zRegs rfl

theorem CpuActs.beginM (h : CpuActs .m6502 s t) (len c : Nat) : CpuActs .m6502 s (beginM len c t) := h.mRegs rfl

theorem CpuActs.beginZ (h : CpuActs .z80 s t) (k : Cost) : CpuActs .z80 s (beginZ k t) := h.zRegs rfl

theorem CpuActs.ea (h : CpuActs fam s t) (md : MMode) : CpuActs fam s (md.ea t).st := by
  cases md with
  | izx b => exact (h.read _).read _
  | izy b => exact (h.read _).read _
  | _ => exact h

end

/-! ### The shapes of the M6502 -/

theorem runMRead_acts (c : Nat) (op : MReadOp) (f : MForm) (s : State) : CpuActs .m6502 s (runMRead c op f s) := by
  cases f with
  | imm b => exact (CpuActs.beginM .refl 2 c).mRegs rfl
  | mem md => exact (((CpuActs.beginM .refl md.len c).ea md).read _).mRegs rfl

theorem runMModify_acts (c : Nat) (op : MModOp) (md : MMode) (s : State) :
    CpuActs .m6502 s (runMModify c op md s) :=
  ((((CpuActs.beginM .refl md.len c).ea md).read _).write _ _).mRegs rfl

theorem runMBranch_acts (c : Nat) (k : MCond) (b : Byte) (s : State) : CpuActs .m6502 s (runMBranch c k b s) := by
  have h : CpuActs .m6502 s (beginM 2 c s) := CpuActs.beginM .refl 2 c
  unfold runMBranch
  dsimp only
  split
  · exact h.mRegs rfl
  · exact h

theorem runMRti_acts (c : Nat) (s : State) : CpuActs .m6502 s (runMRti c s) :=
  (((CpuActs.beginM .refl 1 c).pull.mRegs rfl).pull.pull).mRegs rfl

theorem runMBrk_acts (c : Nat) (s : State) : CpuActs .m6502 s (runMBrk c s) :=
  ((((((CpuActs.beginM .refl 1 c).push _).push _).push _).mRegs rfl).read16 _).mRegs rfl

/-- An M6502 instruction other than the halt is a sequence of acts. -/
theorem mView_run_acts (v : MView) (h : v ≠ .halt) (c : Nat) (s : State) : CpuActs .m6502 s (v.run c s) := by
  cases v with
  | read op f => exact runMRead_acts c op f s
  | store r md => exact ((CpuActs.beginM .refl md.len c).ea md).write _ _
  | modify op md => exact runMModify_acts c op md s
  | acc op => exact (CpuActs.beginM .refl 1 c).mRegs rfl
  | implied op => exact (CpuActs.beginM .refl 1 c).mRegs rfl
  | pha => exact (CpuActs.beginM .refl 1 c).push _
  | php => exact (CpuActs.beginM .refl 1 c).push _
  | pla => exact (CpuActs.beginM .refl 1 c).pull.mRegs rfl
  | plp => exact (CpuActs.beginM .refl 1 c).pull.mRegs rfl
  | jmp b1 b2 => exact (CpuActs.beginM .refl 3 c).mRegs rfl
  | jmpInd b1 b2 => exact (((CpuActs.beginM .refl 3 c).read _).read _).mRegs rfl
  | jsr b1 b2 => exact (((CpuActs.beginM .refl 3 c).push _).push _).mRegs rfl
  | rts => exact ((CpuActs.beginM .refl 1 c).pull.pull).mRegs rfl
  | rti => exact runMRti_acts c s
  | branch k b => exact runMBranch_acts c k b s
  | brk => exact runMBrk_acts c s
  | halt => exact absurd rfl h

/-! ### The shapes of the Z80 -/

theorem zRegs_acts (k : Cost) (f : Z80Regs → Z80Regs) (s : State) : CpuActs .z80 s (zRegs k f s) :=
  (CpuActs.beginZ .refl k).zRegs rfl

theorem zFlags_acts (k : Cost) (f : Byte → Z80Regs → Z80Regs) (s : State) : CpuActs .z80 s (zFlags k f s) :=
  (CpuActs.beginZ .refl k).zRegs rfl

theorem zLoad_acts (k : Cost) (addr : Z80Regs → Word) (f : Byte → Z80Regs → Z80Regs) (s : State) :
    CpuActs .z80 s (zLoad k addr f s) :=
  ((CpuActs.beginZ .refl k).read _).zRegs rfl

theorem zLoadFlags_acts (k : Cost) (addr : Z80Regs → Word) (f : Byte → Byte → Z80Regs → Z80Regs) (s : State) :
    CpuActs .z80 s (zLoadFlags k addr f s) :=
  ((CpuActs.beginZ .refl k).read _).zRegs rfl

theorem zStore_acts (k : Cost) (addr : Z80Regs → Word) (val : Z80Regs → Byte) (s : State) :
    CpuActs .z80 s (zStore k addr val s) :=
  (CpuActs.beginZ .refl k).write _ _

theorem zModify_acts (k : Cost) (addr : Z80Regs → Word) (f : Byte → Byte) (s : State) :
    CpuActs .z80 s (zModify k addr f s) :=
  ((CpuActs.beginZ .refl k).read _).write _ _

theorem zModifyFlags_acts (k : Cost) (addr : Z80Regs → Word) (f : Byte → Byte → Z80Regs → Byte × Z80Regs) (s : State) :
    CpuActs .z80 s (zModifyFlags k addr f s) :=
  (((CpuActs.beginZ .refl k).read _).write _ _).zRegs rfl

theorem zLoad16_acts (k : Cost) (a : Word) (f : Word → Z80Regs → Z80Regs) (s : State) :
    CpuActs .z80 s (zLoad16 k a f s) :=
  ((CpuActs.beginZ .refl k).read16 _).zRegs rfl

theorem zStore16_acts (k : Cost) (a : Word) (val : Z80Regs → Word) (s : State) :
    CpuActs .z80 s (zStore16 k a val s) :=
  (CpuActs.beginZ .refl k).write16 _ _

theorem zJump_acts (k : Cost) (target : State → Word) (s : State) : CpuActs .z80 s (zJump k target s) :=
  (CpuActs.beginZ .refl k).zRegs rfl

/-- A conditional tail of an instruction: the extra effect, or none. -/
theorem CpuActs.ite {fam : Family} {s t u : State} {p : Prop} [Decidable p] (h : CpuActs fam s t) (g : CpuActs fam s u) :
    CpuActs fam s (if p then t else u) := by
  split
  · exact h
  · exact g

theorem CpuActs.repeats {s t : State} (h : CpuActs .z80 s t) (again : Bool) (s0 : State) :
    CpuActs .z80 s (zRepeat again s0 t) :=
  (h.zRegs rfl).ite h

theorem runZExSP_acts (c : Nat) (p : HLXY) (s : State) : CpuActs .z80 s (runZExSP c p s) :=
  ((((CpuActs.beginZ .refl (p.cost ⟨1, c, 1⟩ ⟨2, c, 2⟩)).read16 _).write _ _).write _ _).zRegs rfl

theorem runZLdBlock_acts (c : Nat) (d : Dir) (rep : Bool) (s : State) : CpuActs .z80 s (runZLdBlock c d rep s) :=
  ((((CpuActs.beginZ .refl ⟨2, c, 2⟩).read _).write _ _).zRegs rfl).repeats _ _

theorem runZInBlock_acts (c : Nat) (d : Dir) (rep : Bool) (s : State) : CpuActs .z80 s (runZInBlock c d rep s) :=
  ((((CpuActs.beginZ .refl ⟨2, c, 2⟩).portIn _).write _ _).zRegs rfl).repeats _ _

theorem runZOutBlock_acts (c : Nat) (d : Dir) (rep : Bool) (s : State) : CpuActs .z80 s (runZOutBlock c d rep s) :=
  ((((CpuActs.beginZ .refl ⟨2, c, 2⟩).read _).portOut _ _).zRegs rfl).repeats _ _

theorem runZDjnz_acts (c : Nat) (e : Byte) (s : State) : CpuActs .z80 s (runZDjnz c e s) := by
  have h : CpuActs .z80 s (zRegs ⟨2, c, 1⟩ (fun z => R8.set .b (R8.get .b z - 1) z) s) := zRegs_acts _ _ s
  exact CpuActs.ite h (h.zRegs rfl)

theorem runZAlu_acts (c : Nat) (op : ZAlu) (src : ZSrc) (s : State) : CpuActs .z80 s (runZAlu c op src s) := by
  unfold runZAlu
  cases src with
  | reg r => exact zFlags_acts _ _ s
  | imm n => exact zFlags_acts _ _ s
  | mem m => exact zLoadFlags_acts _ _ _ s

theorem runZRot_acts (c : Nat) (op : ZRot) (tgt : ZTgt) (s : State) : CpuActs .z80 s (runZRot c op tgt s) := by
  unfold runZRot
  cases tgt with
  | reg r => exact zFlags_acts _ _ s
  | mem m => exact zModifyFlags_acts _ _ _ s

theorem runZBit_acts (c b : Nat) (tgt : ZTgt) (s : State) : CpuActs .z80 s (runZBit c b tgt s) := by
  unfold runZBit
  cases tgt with
  | reg r => exact zFlags_acts _ _ s
  | mem m => exact zLoadFlags_acts _ _ _ s

theorem runZSet_acts (c b : Nat) (tgt : ZTgt) (s : State) : CpuActs .z80 s (runZSet c b tgt s) := by
  unfold runZSet
  cases tgt with
  | reg r => exact zRegs_acts _ _ s
  | mem m => exact zModify_acts _ _ _ s

theorem runZRes_acts (c b : Nat) (tgt : ZTgt) (s : State) : CpuActs .z80 s (runZRes c b tgt s) := by
  unfold runZRes
  cases tgt with
  | reg r => exact zRegs_acts _ _ s
  | mem m => exact zModify_acts _ _ _ s

/-- A Z80 instruction other than the halt is a sequence of acts. -/
theorem zView_run_acts (v : ZView) (h : v ≠ .halt) (c : Nat) (s : State) : CpuActs .z80 s (v.run c s) := by
  cases v with
  | ldRR r q => unfold ZView.run runZLdRR; exact zRegs_acts _ _ s
  | ldRN r n => unfold ZView.run runZLdRN; exact zRegs_acts _ _ s
  | ldRM r m => unfold ZView.run runZLdRM; exact zLoad_acts _ _ _ s
  | ldMR m r => unfold ZView.run runZLdMR; exact zStore_acts _ _ _ s
  | ldMN m n => unfold ZView.run runZLdMN; exact zStore_acts _ _ _ s
  | ldAP p => unfold ZView.run runZLdAP; exact zLoad_acts _ _ _ s
  | ldANn lo hi => unfold ZView.run runZLdANn; exact zLoad_acts _ _ _ s
  | ldPA p => unfold ZView.run runZLdPA; exact zStore_acts _ _ _ s
  | ldNnA lo hi => unfold ZView.run runZLdNnA; exact zStore_acts _ _ _ s
  | ldAIR k => unfold ZView.run runZLdAIR; exact zFlags_acts _ _ s
  | ldIRA k => unfold ZView.run runZLdIRA; exact zRegs_acts _ _ s
  | ldPN p lo hi => unfold ZView.run runZLdPN; exact zRegs_acts _ _ s
  | ldHLNn lo hi => unfold ZView.run runZLdHLNn; exact zLoad16_acts _ _ _ s
  | ldPNn p lo hi => unfold ZView.run runZLdPNn; exact zLoad16_acts _ _ _ s
  | ldNnHL lo hi => unfold ZView.run runZLdNnHL; exact zStore16_acts _ _ _ s
  | ldNnP p lo hi => unfold ZView.run runZLdNnP; exact zStore16_acts _ _ _ s
  | ldSP p => unfold ZView.run runZLdSP; exact zRegs_acts _ _ s
  | push p => exact (CpuActs.beginZ .refl (p.cost ⟨1, c, 1⟩ ⟨2, c, 2⟩)).push16 _
  | pop p => exact (CpuActs.beginZ .refl (p.cost ⟨1, c, 1⟩ ⟨2, c, 2⟩)).pop16.zRegs rfl
  | exDEHL => unfold ZView.run runZExDEHL; exact zRegs_acts _ _ s
  | exAF => unfold ZView.run runZExAF; exact zRegs_acts _ _ s
  | exx => unfold ZView.run runZExx; exact zRegs_acts _ _ s
  | exSP p => exact runZExSP_acts c p s
  | ldBlock d rep => exact runZLdBlock_acts c d rep s
  | cpBlock d rep => exact (zLoadFlags_acts ⟨2, c, 2⟩ Z80Regs.hl (cpBlockRegs d) s).repeats _ _
  | alu op src => exact runZAlu_acts c op src s
  | incDecR op r => unfold ZView.run runZIncDecR; exact zFlags_acts _ _ s
  | incDecM op m => unfold ZView.run runZIncDecM; exact zModifyFlags_acts _ _ _ s
  | gen op => unfold ZView.run runZGen; exact zFlags_acts _ _ s
  | arith16 op p => unfold ZView.run runZArith16; exact zFlags_acts _ _ s
  | addXY x p => unfold ZView.run runZAddXY; exact zFlags_acts _ _ s
  | incDec16 op p => unfold ZView.run runZIncDec16; exact zRegs_acts _ _ s
  | accRot op => unfold ZView.run runZAccRot; exact zFlags_acts _ _ s
  | rot op tgt => exact runZRot_acts c op tgt s
  | rld => unfold ZView.run runZRld; exact zModifyFlags_acts _ _ _ s
  | rrd => unfold ZView.run runZRrd; exact zModifyFlags_acts _ _ _ s
  | bit b tgt => exact runZBit_acts c b tgt s
  | setB b tgt => exact runZSet_acts c b tgt s
  | resB b tgt => exact runZRes_acts c b tgt s
  | jp lo hi => unfold ZView.run runZJp; exact zJump_acts _ _ s
  | jpCC k lo hi => unfold ZView.run runZJpCC; exact zJump_acts _ _ s
  | jr e => unfold ZView.run runZJr; exact zJump_acts _ _ s
  | jrCC k e => exact ((CpuActs.beginZ .refl ⟨2, c, 1⟩).zRegs rfl).ite (CpuActs.beginZ .refl ⟨2, c, 1⟩)
  | jpHL p => unfold ZView.run runZJpHL; exact zJump_acts _ _ s
  | djnz e => exact runZDjnz_acts c e s
  | call lo hi => exact ((CpuActs.beginZ .refl ⟨3, c, 1⟩).push16 _).zRegs rfl
  | callCC k lo hi =>
    exact (((CpuActs.beginZ .refl ⟨3, c, 1⟩).push16 _).zRegs rfl).ite (CpuActs.beginZ .refl ⟨3, c, 1⟩)
  | ret => exact (CpuActs.beginZ .refl ⟨1, c, 1⟩).pop16.zRegs rfl
  | retCC k => exact ((CpuActs.beginZ .refl ⟨1, c, 1⟩).pop16.zRegs rfl).ite (CpuActs.beginZ .refl ⟨1, c, 1⟩)
  | reti => exact (CpuActs.beginZ .refl ⟨2, c, 2⟩).pop16.zRegs rfl
  | retn => exact (CpuActs.beginZ .refl ⟨2, c, 2⟩).pop16.zRegs rfl
  | rst y => exact ((CpuActs.beginZ .refl ⟨1, c, 1⟩).push16 _).zRegs rfl
  | nop => unfold ZView.run runZNop; exact zRegs_acts _ _ s
  | halt => exact absurd rfl h
  | di => unfold ZView.run runZDi; exact zRegs_acts _ _ s
  | ei => unfold ZView.run runZEi; exact zRegs_acts _ _ s
  | im k => unfold ZView.run runZIm; exact zRegs_acts _ _ s
  | inAN n => exact ((CpuActs.beginZ .refl ⟨2, c, 1⟩).portIn _).zRegs rfl
  | inRC r => exact ((CpuActs.beginZ .refl ⟨2, c, 2⟩).portIn _).zRegs rfl
  | inBlock d rep => exact runZInBlock_acts c d rep s
  | outNA n => exact (CpuActs.beginZ .refl ⟨2, c, 1⟩).portOut _ _
  | outCR r => exact (CpuActs.beginZ .refl ⟨2, c, 2⟩).portOut _ _
  | outBlock d rep => exact runZOutBlock_acts c d rep s

/-! ### Every instruction -/

theorem halts_eq_false {w : View} (hm : w ≠ .m .halt) (hz : w ≠ .z .halt) : w.halts = false := by
  unfold View.halts
  split
  · exact absurd rfl hm
  · exact absurd rfl hz
  · rfl

/-- What an instruction can do: a sequence of acts of its family, or a halt, or for the M6502 the illegal opcode that its
halt sentinel is away from the idle address (R159, R160, R263). -/
theorem exec_cases {i : Instr} {s t : State} (h : exec i s = .next t) :
    (i.view.halts = false ∧ CpuActs i.family s t) ∨
    (i.view = .m .halt ∧ (t = haltAtIdle s ∨ t = takeIllegal .m6502 s)) ∨
    (i.view = .z .halt ∧ (t = haltAtIdle (countFetches 1 s) ∨ t = haltElsewhere (countFetches 1 s))) := by
  by_cases hm : i.view = .m .halt
  · rw [exec_m hm] at h
    injection h with h
    exact .inr (.inl ⟨hm, h ▸ ite_eq_or_eq _ _ _⟩)
  by_cases hz : i.view = .z .halt
  · rw [exec_z hz] at h
    injection h with h
    exact .inr (.inr ⟨hz, h ▸ ite_eq_or_eq _ _ _⟩)
  refine .inl ⟨halts_eq_false hm hz, ?_⟩
  have hfam : i.family = match i.view with
      | .m _ => .m6502
      | .z _ => .z80 := rfl
  cases hv : i.view with
  | m v =>
    rw [exec_m hv] at h
    injection h with h
    rw [hfam, hv, ← h]
    exact mView_run_acts v (fun e => hm (e ▸ hv)) _ s
  | z v =>
    rw [exec_z hv] at h
    injection h with h
    rw [hfam, hv, ← h]
    exact zView_run_acts v (fun e => hz (e ▸ hv)) _ s

/-- Only the byte `0x22` is the halt sentinel of the M6502 (R144). -/
theorem eq_mHaltSentinel_of_view {i : Instr} (h : i.view = .m .halt) : i = .mHaltSentinel := by
  cases i
  case mHaltSentinel => rfl
  all_goals cases h

end Sys2Proof.Machine
end

section
/-! PROOFS. What no instruction changes (O41): the frame of one act, carried along the sequence of acts an instruction is. -/

namespace Sys2Proof.Machine

/-! ### Accesses with no callback and no bank handler (R88, R165) -/

section
variable {s : State}

theorem memRead_noCallback (h : noCallback s.cfg) (a : Word) :
    (memRead a s).2.endTime = s.endTime ∧ (memRead a s).2.refusals = s.refusals := by
  unfold memRead
  split
  · rw [nesReadStatus_frame]; exact ⟨rfl, rfl⟩
  · rename_i c b e; exact absurd e (h.1 a c b)
  · exact ⟨rfl, rfl⟩

theorem memWrite_endTime_of_noCallback (h : noCallback s.cfg) (a : Word) (v : Byte) :
    (memWrite a v s).endTime = s.endTime := by
  unfold memWrite
  split
  · rw [nesWrite_frame]
  · rw [ptWrite_frame, pokeyWrite_frame]
  · rw [bankSelect_frame]
  · rename_i c e; exact absurd e (h.2.1 a c)
  · rw [ptWrite_frame]

theorem memWrite_pages_of_noBank {a : Word} (h : noBank s.cfg a) (v : Byte) :
    (memWrite a v s).readPage = s.readPage ∧ (memWrite a v s).writePage = s.writePage := by
  unfold memWrite
  split
  · rw [nesWrite_frame]; exact ⟨rfl, rfl⟩
  · rw [ptWrite_frame, pokeyWrite_frame]; exact ⟨rfl, rfl⟩
  · rename_i w n r k e; exact absurd e (h w n r k)
  · rw [runCallback_frame]; exact ⟨rfl, rfl⟩
  · rw [ptWrite_frame]; exact ⟨rfl, rfl⟩

theorem memWrite_refusals_of_plain (h : noCallback s.cfg) {a : Word} (hb : noBank s.cfg a) (v : Byte) :
    (memWrite a v s).refusals = s.refusals := by
  unfold memWrite
  split
  · rw [nesWrite_frame]
  · rw [ptWrite_frame, pokeyWrite_frame]
  · rename_i w n r k e; exact absurd e (hb w n r k)
  · rename_i c e; exact absurd e (h.2.1 a c)
  · rw [ptWrite_frame]

theorem portIn_of_noCallback (h : noCallback s.cfg) (p : Word) : (portIn p s).2 = s := by
  unfold portIn
  rw [h.2.2.2]

theorem portOut_noCallback (h : noCallback s.cfg) (p : Word) (v : Byte) :
    (portOut p v s).endTime = s.endTime ∧ (portOut p v s).refusals = s.refusals := by
  unfold portOut
  split
  · rw [ayPortWrite_frame]; exact ⟨rfl, rfl⟩
  · rename_i c e; exact absurd e (h.2.2.1 c)
  · exact ⟨rfl, rfl⟩

end

/-! ### The frame of the acts -/

/-- What a sequence of acts can change: the CPU core but for `phase` and `error_count`, memory, the page tables, the chips,
the sink, the warning slot and the record of refusals. -/
def InstrFrame (s t : State) : Prop :=
  t = { s with
    refusals := t.refusals, draws := t.draws, time := t.time, endTime := t.endTime, pc := t.pc, m := t.m, z := t.z
    readPage := t.readPage, writePage := t.writePage, regions := t.regions, unmappedWrite := t.unmappedWrite
    nes := t.nes, ay := t.ay, pokey := t.pokey, sink := t.sink, warning := t.warning }

theorem InstrFrame.trans {s t u : State} (h : InstrFrame s t) (g : InstrFrame t u) : InstrFrame s u := by
  unfold InstrFrame at *
  refine g.trans ?_
  rw [h]

theorem CpuAct.frame {fam : Family} {s t : State} (h : CpuAct fam s t) : InstrFrame s t := by
  cases h with
  | mRegs => exact rfl
  | zRegs => exact rfl
  | read a => unfold InstrFrame; rw [memRead_frame]
  | write a v => unfold InstrFrame; rw [memWrite_frame]
  | portIn p => unfold InstrFrame; rw [portIn_frame]
  | portOut p v => unfold InstrFrame; rw [portOut_frame]

theorem CpuActs.frame {fam : Family} {s t : State} (h : CpuActs fam s t) : InstrFrame s t := by
  induction h with
  | refl => exact rfl
  | tail _ a ih => exact ih.trans a.frame

theorem CpuActs.cfg {fam : Family} {s t : State} (h : CpuActs fam s t) : t.cfg = s.cfg := by rw [h.frame]

/-- An M6502 instruction leaves the Z80 registers and the AY. -/
theorem CpuActs.frame_m6502 {s t : State} (h : CpuActs .m6502 s t) : t.z = s.z ∧ t.ay = s.ay := by
  induction h with
  | refl => exact ⟨rfl, rfl⟩
  | tail _ a ih =>
    refine ih.imp ?_ ?_ <;> refine fun e => Eq.trans ?_ e
    · cases a <;> simp
    · cases a <;> simp

/-- A Z80 instruction leaves the M6502 registers. -/
theorem CpuActs.frame_z80 {s t : State} (h : CpuActs .z80 s t) : t.m = s.m := by
  induction h with
  | refl => rfl
  | tail _ a ih => exact Eq.trans (by cases a <;> simp) ih

theorem CpuActs.endTime {fam : Family} {s t : State} (h : CpuActs fam s t) (hc : noCallback s.cfg) :
    t.endTime = s.endTime := by
  induction h with
  | refl => rfl
  | tail g a ih =>
    rw [← CpuActs.cfg g] at hc
    refine Eq.trans ?_ ih
    cases a with
    | mRegs => rfl
    | zRegs => rfl
    | read a => exact (memRead_noCallback hc a).1
    | write a v => exact memWrite_endTime_of_noCallback hc a v
    | portIn p => rw [portIn_of_noCallback hc]
    | portOut p v => exact (portOut_noCallback hc p v).1

theorem CpuActs.pages {fam : Family} {s t : State} (h : CpuActs fam s t) (hb : ∀ a, noBank s.cfg a) :
    t.readPage = s.readPage ∧ t.writePage = s.writePage := by
  induction h with
  | refl => exact ⟨rfl, rfl⟩
  | tail g a ih =>
    rw [← ih.1, ← ih.2]
    cases a with
    | mRegs => exact ⟨rfl, rfl⟩
    | zRegs => exact ⟨rfl, rfl⟩
    | read a => exact ⟨memRead_readPage .., memRead_writePage ..⟩
    | write a v => exact memWrite_pages_of_noBank (by rw [CpuActs.cfg g]; exact hb a) v
    | portIn p => exact ⟨portIn_readPage .., portIn_writePage ..⟩
    | portOut p v => exact ⟨portOut_readPage .., portOut_writePage ..⟩

theorem CpuActs.refusals {fam : Family} {s t : State} (h : CpuActs fam s t) (hc : noCallback s.cfg)
    (hb : ∀ a, noBank s.cfg a) : t.refusals = s.refusals := by
  induction h with
  | refl => rfl
  | tail g a ih =>
    rw [← CpuActs.cfg g] at hc hb
    refine Eq.trans ?_ ih
    cases a with
    | mRegs => rfl
    | zRegs => rfl
    | read a => exact (memRead_noCallback hc a).2
    | write a v => exact memWrite_refusals_of_plain hc (hb a) v
    | portIn p => rw [portIn_of_noCallback hc]
    | portOut p v => exact (portOut_noCallback hc p v).2

/-! ### The statement -/

/-- Settles O41: a sequence of acts keeps its frame, and the two halts are written out. -/
theorem instructionFrame : Obligations.InstructionFrame := by
  intro i s t h
  rcases exec_cases h with ⟨hv, ht⟩ | ⟨hv, ht⟩ | ⟨hv, ht⟩
  · have f := ht.frame
    refine ⟨?_, ?_, fun e => (e ▸ ht).frame_m6502, fun e => (e ▸ ht).frame_z80, fun _ => ?_, fun _ => ?_, ht.endTime,
      ht.pages, ht.refusals⟩
    · rw [f]; exact ⟨rfl, rfl, rfl, rfl, rfl⟩
    · rw [f]; exact ⟨rfl, rfl, rfl, rfl, rfl, rfl, rfl, rfl, rfl, rfl, rfl⟩
    · rw [f]
    · rw [f]
  · have hi := eq_mHaltSentinel_of_view hv
    subst hi
    rcases ht with rfl | rfl
    all_goals
      exact ⟨⟨rfl, rfl, rfl, rfl, rfl⟩, ⟨rfl, rfl, rfl, rfl, rfl, rfl, rfl, rfl, rfl, rfl, rfl⟩, fun _ => ⟨rfl, rfl⟩,
        fun e => absurd e (by decide), fun e => absurd rfl e, fun e => absurd e (by decide), fun _ => rfl,
        fun _ => ⟨rfl, rfl⟩, fun _ _ => rfl⟩
  · have hf : i.family ≠ .m6502 := by
      unfold Instr.family; rw [hv]; decide
    have hh : i.view.halts ≠ false := by rw [hv]; decide
    rcases ht with rfl | rfl
    all_goals
      exact ⟨⟨rfl, rfl, rfl, rfl, rfl⟩, ⟨rfl, rfl, rfl, rfl, rfl, rfl, rfl, rfl, rfl, rfl, rfl⟩, fun e => absurd e hf,
        fun _ => rfl, fun _ => rfl, fun e => absurd e hh, fun _ => rfl, fun _ => ⟨rfl, rfl⟩, fun _ _ => rfl⟩

end Sys2Proof.Machine
end

section
/-! PROOFS. The stacks of both families (O18), the registers of the Z80 as bytes, pairs and flags (O19), and reset (O48,
O49). -/

namespace Sys2Proof.Machine

/-! ### The stacks (R30, R34) -/

/-- Settles O18. -/
theorem stacksOfBothFamilies : Obligations.StacksOfBothFamilies := by
  refine ⟨fun v s => ?_, fun s => ?_, fun v s => ?_, fun s => ?_⟩
  · rw [push, stackAddr_eq, stackPage, memWrite_m, byte_pred]
  · rw [pull, stackAddr_eq, stackPage, BitVec.toNat_add, byte_succ]
    rfl
  · have h2 : s.z.sp - 1 - 1 = s.z.sp - 2 := by rw [BitVec.sub_sub]; rfl
    simp only [push16, memWrite_z, h2, hi8_eq, lo8_eq]
  · have h2 : s.z.sp + 1 + 1 = s.z.sp + 2 := by rw [BitVec.add_assoc]; rfl
    simp only [pop16, memRead_z, h2, word_eq]

/-! ### Bytes, pairs and flags (R32, R35) -/

theorem toNat_eq_hi8_lo8 (w : Word) : w.toNat = 256 * (hi8 w).toNat + (lo8 w).toNat := by
  have := w.isLt
  rw [hi8_eq, lo8_eq, BitVec.toNat_ofNat, BitVec.toNat_ofNat]
  omega

theorem toNat_word (lo hi : Byte) : (word lo hi).toNat = 256 * hi.toNat + lo.toNat := by
  rw [toNat_eq_hi8_lo8, hi8_word, lo8_word]

@[simp] theorem hi8_setHi (w : Word) (v : Byte) : hi8 (setHi w v) = v := hi8_word _ _
@[simp] theorem lo8_setHi (w : Word) (v : Byte) : lo8 (setHi w v) = lo8 w := lo8_word _ _
@[simp] theorem hi8_setLo (w : Word) (v : Byte) : hi8 (setLo w v) = hi8 w := hi8_word _ _
@[simp] theorem lo8_setLo (w : Word) (v : Byte) : lo8 (setLo w v) = v := lo8_word _ _

/-- A byte register reads what was written to it, and what it held before after a write to another. -/
theorem r8_get_set (r q : R8) (v : Byte) (z : Z80Regs) : q.get (r.set v z) = if q = r then v else q.get z := by
  cases r <;> cases q <;> simp [R8.get, R8.set]

/-- F as a number: bit 7 is S, bit 0 is C. -/
theorem zFlags_toByte_toNat (f : ZFlags) : f.toByte.toNat =
    128 * f.s.toNat + 64 * f.z.toNat + 32 * f.f5.toNat + 16 * f.h.toNat + 8 * f.f3.toNat + 4 * f.pv.toNat
      + 2 * f.n.toNat + f.c.toNat := by
  have h (b : Bool) : b.toNat ≤ 1 := b.toNat_le
  rw [ZFlags.toByte, byteOfBits, BitVec.toNat_ofNat]
  have := h f.s; have := h f.z; have := h f.f5; have := h f.h; have := h f.f3; have := h f.pv; have := h f.n
  have := h f.c
  omega

/-- What is popped into F reads back. -/
theorem zFlags_toByte_ofByte (v : Byte) : (ZFlags.ofByte v).toByte = v := by
  revert v; decide

theorem qq_get_set (q : QQ) (v : Word) (z : Z80Regs) : q.get (q.set v z) = v := by
  cases q with
  | af => simp only [QQ.get, QQ.set, zFlags_toByte_ofByte, word_lo8_hi8]
  | _ => rfl

/-- Settles O19. -/
theorem registersPairsAndIndexedAddresses : Obligations.RegistersPairsAndIndexedAddresses := by
  refine ⟨fun z => ⟨toNat_eq_hi8_lo8 _, toNat_eq_hi8_lo8 _, toNat_eq_hi8_lo8 _, rfl⟩, r8_get_set,
    fun p v z => by cases p <;> rfl, fun x v z => by cases x <;> rfl, qq_get_set, fun z => ?_,
    fun x d z => ⟨word_add_sext _ _, rfl⟩⟩
  rw [QQ.get, toNat_word, zFlags_toByte_toNat]

/-! ### Reset (R62 to R67) -/

theorem pageSize_pos (c : Cfg) : 0 < c.pageSize := Nat.two_pow_pos _

/-- A page that still points at the start of one of the two windows of unmapped memory lies inside it. -/
theorem pageInside_window (s : State) {r : RegionRef} (h : regionSize s r = s.cfg.pageSize) : pageInside s ⟨r, 0⟩ := by
  rw [pageInside, h, Nat.zero_add]

theorem resetOf_memoryInv (cfg : Cfg) : MemoryInv (State.resetOf cfg) where
  readLength := List.length_replicate
  writeLength := List.length_replicate
  readInside e he := by rw [List.eq_of_mem_replicate he]; exact pageInside_window _ rfl
  writeInside e he := by rw [List.eq_of_mem_replicate he]; exact pageInside_window _ rfl
  canonical := resetOf_wf cfg

theorem pulseReset_inv : PulseInv Pulse.reset := ⟨by decide, by decide, by decide, by decide, by decide⟩

theorem triangleReset_inv : TriangleInv Triangle.reset := ⟨by decide, by decide, by decide⟩

theorem noiseReset_inv : NoiseInv Noise.reset := ⟨by decide, by decide, by decide⟩

theorem dmcReset_inv : DmcInv Dmc.reset := ⟨by decide, by decide⟩

theorem nesReset_inv (p : NesConsts) : NesInv (Nes.reset p) where
  pulse1 := pulseReset_inv
  pulse2 := pulseReset_inv
  triangle := triangleReset_inv
  noise := noiseReset_inv
  dmc := dmcReset_inv
  frameStep := show 1 ≤ 3 by decide
  out0 := .inl rfl
  out1 := .inl rfl
  out2 := .inl rfl
  out3 := .inl rfl
  out4 := .inl rfl

theorem ayReset_inv (p : AyConsts) : AyInv p (Ay.reset p) where
  registers := rfl
  kept := show ∀ r < 16, (Ay.reset ⟨0, [], 0⟩).reg r &&& ayMask r = (Ay.reset ⟨0, [], 0⟩).reg r by decide
  envStep := Nat.zero_le _
  out0 := .inl rfl
  out1 := .inl rfl
  out2 := .inl rfl
  out3 := .inl rfl

theorem pokeyReset_inv : PokeyInv Pokey.reset := ⟨.inl rfl, .inl rfl, .inl rfl, .inl rfl⟩

theorem resetOf_chipInv (cfg : Cfg) : ChipInv (State.resetOf cfg) :=
  ⟨nesReset_inv _, ayReset_inv _, pokeyReset_inv⟩

/-- Settles O48. -/
theorem invariantsHoldAtReset : Obligations.InvariantsHoldAtReset :=
  ⟨fun cfg => ⟨resetOf_memoryInv cfg, resetOf_chipInv cfg⟩, resetOf_memoryInv _, resetOf_chipInv _⟩

/-- With every read page at the fill page, every address reads the fill byte (R62). -/
theorem ptRead_of_unmapped {s : State} (h : s.readPage = PageEntry.table s.cfg .unmappedRead) (a : Word) :
    ptRead s a = s.unmappedFill := by
  have hr : (resolveRead s a).region = .unmappedRead := by
    rw [resolveRead, h, PageEntry.table, List.getD_eq_getElem?_getD, List.getElem?_replicate]
    split <;> rfl
  rw [ptRead, locRead, hr]

/-- Settles O49. -/
theorem resetOfTheCore : Obligations.ResetOfTheCore := by
  intro s cs fill hc hcalls
  refine ⟨finish .done (cpuReset fill { s with calls := cs }), ?_, rfl, rfl, rfl, rfl, rfl, rfl, rfl, rfl, rfl, rfl, rfl,
    rfl, rfl, rfl, rfl, rfl, rfl, rfl, rfl, rfl, rfl, rfl, rfl, rfl, rfl, rfl, rfl, ptRead_of_unmapped rfl, ?_⟩
  · rw [step, hc, hostTurn, hcalls]
    rfl
  · rw [finish, ← hc]
    rfl

end Sys2Proof.Machine
end

section
/-! PROOFS. What a step of the whole machine is made of: every step is a sequence of acts of the CPU core, the driver and the
host (R15), with a reset of the chips in the middle where a track starts (R531). The invariants of every step go by these
acts. -/

namespace Sys2Proof.Machine

/-! ### The acts -/

/-- Memory, the page tables, the chips and the sink are as before. -/
structure Quiet (s t : State) : Prop where
  cfg : t.cfg = s.cfg := by rfl
  readPage : t.readPage = s.readPage := by rfl
  writePage : t.writePage = s.writePage := by rfl
  regions : t.regions = s.regions := by rfl
  unmappedWrite : t.unmappedWrite = s.unmappedWrite := by rfl
  nes : t.nes = s.nes := by rfl
  ay : t.ay = s.ay := by rfl
  pokey : t.pokey = s.pokey := by rfl
  sink : t.sink = s.sink := by rfl

/-- One act of a step that is none of the host's: something quiet, an act of the CPU core, the end of a frame for a chip or
for the sink (R546). -/
inductive DriverAct : State → State → Prop where
  | quiet {s t : State} (h : Quiet s t) : DriverAct s t
  | cpu {fam : Family} {s t : State} (h : CpuAct fam s t) : DriverAct s t
  | chipEndFrame (n : Int) (c : Chip) (s : State) : DriverAct s (chipEndFrame n c s)
  | sinkEndFrame (n : Int) (s : State) : DriverAct s { s with sink := .endFrame n :: s.sink }

/-- One act of a host call: an act of the driver, a mapping call, a write of the AY, a voice attached to its own channel or
detached, and what loading a track does to the core and to memory (R62, R75, R480, R531, R549). -/
inductive HostAct : State → State → Prop where
  | driver {s t : State} (h : DriverAct s t) : HostAct s t
  | map (c : MapCall) (s : State) : HostAct s (applyMap c s)
  | ayWrite (t : Int) (r : Nat) (v : Byte) (s : State) : HostAct s (ayWrite t r v s)
  | setOutput (c : Chip) (voice : Nat) {o : Option Channel} (h : o = none ∨ o = some ⟨c, voice⟩) (s : State) :
      HostAct s (chipSetOutput c voice o s)
  | reset (fill : Byte) (s : State) : HostAct s (cpuReset fill s)
  | freshMemory (fill : Byte) (rs : List RegionImage) (s : State) :
      HostAct s { cpuReset fill s with regions := rs.map buildRegion }
  | backed (a : Word) (s : State) : HostAct s (ensureBacked a s)
  | poke (a : Word) (v : Byte) (s : State) : HostAct s (poke a v s)

/-- A sequence of acts of the driver. -/
abbrev DriverActs : State → State → Prop := Relation.ReflTransGen DriverAct

/-- A sequence of acts of a host call. -/
abbrev HostActs : State → State → Prop := Relation.ReflTransGen HostAct

/-! ### Sequences -/

theorem CpuActs.driver {fam : Family} {s t : State} (h : CpuActs fam s t) : DriverActs s t :=
  h.lift id fun _ _ => .cpu

theorem DriverActs.host {s t : State} (h : DriverActs s t) : HostActs s t :=
  h.lift id fun _ _ => .driver

theorem DriverActs.trans {s t u : State} (h : DriverActs s t) (g : DriverActs t u) : DriverActs s u :=
  Relation.ReflTransGen.trans h g

theorem HostActs.trans {s t u : State} (h : HostActs s t) (g : HostActs t u) : HostActs s u :=
  Relation.ReflTransGen.trans h g

theorem HostAct.acts {s t : State} (h : HostAct s t) : HostActs s t := .single h

theorem DriverActs.quiet {s t u : State} (h : DriverActs s t) (q : Quiet t u) : DriverActs s u := h.tail (.quiet q)

theorem HostActs.quiet {s t u : State} (h : HostActs s t) (q : Quiet t u) : HostActs s u := h.tail (.driver (.quiet q))

/-- A fold of operations each of which is a sequence of acts. -/
theorem foldl_acts {α : Type} {R : State → State → Prop} {f : State → α → State}
    (h : ∀ s x, Relation.ReflTransGen R s (f s x)) (l : List α) (s : State) :
    Relation.ReflTransGen R s (l.foldl f s) := by
  induction l generalizing s with
  | nil => exact .refl
  | cons x l ih => exact (h s x).trans (ih _)

/-- A change of registers alone is quiet. -/
theorem quiet_of_regs {s t : State} (h : t = { s with m := t.m, z := t.z }) : Quiet s t := by
  rw [h]; exact {}

theorem setEntryRegs_quiet (es : List EntrySet) (k : Nat) (s : State) : Quiet s (setEntryRegs es k s) :=
  quiet_of_regs (setEntryRegs_frame es k s)

theorem setStack_quiet (s : State) : Quiet s (setStack s) := quiet_of_regs (setStack_frame s)

/-! ### The driver's operations -/

theorem jsrThenStop_acts (addr : Word) (s : State) : DriverActs s (jsrThenStop addr s) := by
  unfold jsrThenStop
  split
  · exact ((CpuActs.push (.refl (a := s)) _).push _).driver.quiet {}
  · exact (CpuActs.push16 (.refl (a := s)) _).driver.quiet {}

theorem closeFrame_acts (n : Int) (s : State) : DriverActs s (closeFrame n s) :=
  (foldl_acts (fun s c => .single (.chipEndFrame n c s)) s.cfg.chips s).tail (.sinkEndFrame n _)

theorem sliceEnd_acts (c : Caller) (r : StopReason) (s : State) : DriverActs s (sliceEnd c r s) := by
  cases c with
  | initPhase => exact (closeFrame_acts s.time s).quiet {}
  | frame target errors bound =>
    refine DriverActs.quiet .refl ?_
    unfold sliceEnd
    dsimp only
    split
    · split <;> exact {}
    · exact {}
  | direct => exact DriverActs.quiet .refl {}

theorem playDue_acts (s : State) : DriverActs s (playDue s) := by
  unfold playDue
  extract_lets t u v
  have ht : DriverActs s t := DriverActs.quiet .refl {}
  split
  · exact ht.quiet {}
  · have hu : Quiet t u := by
      unfold u
      split <;> exact {}
    exact (((ht.quiet hu).quiet (setEntryRegs_quiet _ _ _)).trans (jsrThenStop_acts _ _)).quiet
      {}

theorem finishFrame_acts (target : Int) (errors : Nat) (s : State) : DriverActs s (finishFrame target errors s) := by
  have hr : Quiet s { rebaseTime target s with nextPlayTime := (rebaseTime target s).nextPlayTime - target } := by
    unfold rebaseTime
    dsimp only
    split <;> exact {}
  refine ((DriverActs.quiet .refl hr).trans (closeFrame_acts target _)).quiet ?_
  unfold finishFrame
  dsimp only
  split <;> exact {}

theorem framePass_acts (target : Int) (errors : Nat) (s : State) : DriverActs s (framePass target errors s) := by
  unfold framePass
  dsimp only
  split
  · have h : DriverActs s (if s.nextPlayTime ≤ s.time then playDue s else s) := by
      split
      · exact playDue_acts s
      · exact .refl
    exact h.quiet {}
  · exact finishFrame_acts target errors s

theorem exec_acts {i : Instr} {s t : State} (h : exec i s = .next t) : DriverActs s t := by
  rcases exec_cases h with ⟨-, ht⟩ | ⟨-, rfl | rfl⟩ | ⟨-, rfl | rfl⟩
  · exact ht.driver
  all_goals exact DriverActs.quiet .refl {}

theorem takeIllegal_quiet (k : Illegal) (s : State) : Quiet s (takeIllegal k s) := by
  cases k <;> exact {}

theorem cpuStep_acts {s t : State} (h : cpuStep s = .next t) : DriverActs s t := by
  unfold cpuStep at h
  cases hd : decodeAt s with
  | instr i => rw [hd] at h; exact exec_acts h
  | illegal k =>
    rw [hd] at h
    injection h with h
    subst h
    exact DriverActs.quiet .refl (takeIllegal_quiet k s)

theorem sliceStep_acts {c : Caller} {s t : State} (h : sliceStep c s = .next t) : DriverActs s t := by
  unfold sliceStep at h
  split at h
  · injection h with h; subst h; exact sliceEnd_acts ..
  · injection h with h; subst h; exact sliceEnd_acts ..
  · split at h
    · injection h with h; subst h; exact sliceEnd_acts ..
    · exact cpuStep_acts h

/-- A step that is none of the host's is a sequence of acts of the driver and the CPU core. -/
theorem step_driverActs {s t : State} (hc : s.control ≠ .host) (h : step s = .next t) : DriverActs s t := by
  unfold step at h
  split at h
  · contradiction
  · injection h with h; subst h; exact framePass_acts ..
  · exact sliceStep_acts h

/-! ### The host's calls -/

theorem muteAll_acts (mask : Nat) (s : State) : HostActs s (muteAll mask s) := by
  have voice (c : Chip) (s : State) (v : Nat) :
      HostActs s (chipSetOutput c v (if mask.testBit v then none else some ⟨c, v⟩) s) :=
    .single (.setOutput c v (ite_eq_or_eq _ _ _) s)
  exact foldl_acts (fun s c => foldl_acts (voice c) _ s) _ s

theorem ensureHalt_acts (s : State) : HostActs s (ensureHalt s) := by
  unfold ensureHalt
  split
  · exact .refl
  · exact (HostAct.backed _ s).acts.trans (HostAct.poke ..).acts

theorem loadTrack_acts (image : Image) (s : State) : HostActs s (loadTrack image s) :=
  ((HostAct.freshMemory s.cfg.unmappedFill image.regions s).acts.trans
    (foldl_acts (fun s c => .single (.map c s)) image.plan _)).trans (ensureHalt_acts _)

/-- Loading a track tells the sink nothing. -/
theorem loadTrack_sink (image : Image) (s : State) : (loadTrack image s).sink = s.sink := by
  have halt (u : State) : (ensureHalt u).sink = u.sink := by
    unfold ensureHalt
    split
    · rfl
    · rw [poke, locWrite_frame, ensureBacked_frame]
  rw [loadTrack, halt]
  refine List.foldlRecOn image.plan _ (motive := fun u : State => u.sink = s.sink) rfl fun u hu c _ => ?_
  rw [applyMap_frame]
  exact hu

/-- Every chip of the machine is reset (R66, R531). -/
def chipsReset (s : State) : State := s.cfg.chips.foldl (fun s c => chipReset c s) s

/-- What a `start_track` that succeeds does once the chips are reset. -/
theorem startTrack_acts {index : Nat} {image : Image} (h : index < image.trackCount) (s : State) :
    HostActs (chipsReset (loadTrack image s)) (startTrack index image s) := by
  rw [startTrack, if_neg (Nat.not_le.mpr h)]
  extract_lets s1 s2 s3 s4
  have h3 : HostActs s2 s3 := (muteAll_acts s2.voiceMute s2).quiet {}
  have h4 : HostActs s2 s4 := (h3.quiet (setStack_quiet s3)).quiet (setEntryRegs_quiet _ _ _)
  exact (h4.trans (jsrThenStop_acts _ s4).host).quiet {}

theorem coreCall_acts (c : CoreCall) (s : State) : HostActs s (coreCall c s) := by
  cases c with
  | reset fill =>
    exact (HostAct.reset fill s).acts.quiet {}
  | map m => exact (HostAct.map m s).acts.quiet {}
  | jsrThenStop addr => exact (jsrThenStop_acts addr s).host.quiet {}
  | _ => exact HostActs.quiet .refl {}

/-- A host call other than a `start_track` that succeeds is a sequence of acts. -/
theorem hostCall_acts {c : HostCall} (h : ∀ index image, c = .startTrack index image → image.trackCount ≤ index)
    (s : State) : HostActs s (hostCall c s) := by
  cases c with
  | startTrack index image =>
    rw [hostCall, startTrack, if_pos (h index image rfl)]
    exact HostActs.quiet .refl {}
  | endFrame target =>
    simp only [hostCall]
    refine HostActs.quiet .refl ?_
    split
    · exact {}
    · split <;> exact {}
  | setTempo m =>
    simp only [hostCall]
    refine HostActs.quiet .refl ?_
    split
    · exact {}
    · split <;> exact {}
  | setVoiceMute mask =>
    simp only [hostCall]
    split
    · exact HostActs.quiet .refl {}
    · have h0 : HostActs s { s with voiceMute := mask } :=
        HostActs.quiet .refl {}
      exact (h0.trans (muteAll_acts mask _)).quiet {}
  | ayWrite t r v =>
    exact (HostAct.ayWrite t r v s).acts.quiet {}
  | core c => exact coreCall_acts c s
  | _ => exact HostActs.quiet .refl {}

/-- A step of the host is a sequence of acts, or a `start_track` that succeeds: a sequence of acts that tells the
sink nothing, a reset of the chips and a sequence of acts. -/
theorem step_hostActs {s t : State} (hc : s.control = .host) (h : step s = .next t) :
    ((∀ index image cs, s.calls = .startTrack index image :: cs → image.trackCount ≤ index) ∧ HostActs s t) ∨
    ∃ index image cs u, s.calls = .startTrack index image :: cs ∧ index < image.trackCount ∧ u.sink = s.sink ∧
      HostActs s u ∧ HostActs (chipsReset u) t := by
  rw [step, hc] at h
  injection h with h
  subst h
  unfold hostTurn
  cases hcalls : s.calls with
  | nil => exact .inl ⟨fun _ _ _ e => (nomatch e), .refl⟩
  | cons c cs =>
    have h0 : HostActs s { s with calls := cs } :=
      HostActs.quiet .refl {}
    by_cases hs : ∃ index image, c = .startTrack index image ∧ index < image.trackCount
    · obtain ⟨index, image, rfl, hi⟩ := hs
      exact .inr ⟨index, image, cs, loadTrack image { s with calls := cs }, rfl, hi, loadTrack_sink ..,
        h0.trans (loadTrack_acts ..), startTrack_acts hi _⟩
    · have hn : ∀ index image, c = .startTrack index image → image.trackCount ≤ index :=
        fun index image e => Nat.le_of_not_lt fun hi => hs ⟨index, image, e, hi⟩
      refine .inl ⟨fun index image _ e => hn index image ?_, h0.trans (hostCall_acts hn _)⟩
      injection e

end Sys2Proof.Machine
end

section
/-! PROOFS. Every step keeps the memory invariant (O45): what each act does to the page tables, to the sizes of the regions
and to the canonical form. -/

namespace Sys2Proof.Machine

/-! ### States with the same memory -/

theorem regionSize_congr {s t : State} (hc : t.cfg = s.cfg) (hr : t.regions = s.regions) (r : RegionRef) :
    regionSize t r = regionSize s r := by
  cases r <;> simp only [regionSize, hc, hr]

/-- The memory invariant speaks of the configuration, the page tables, the regions and the sink page alone. -/
theorem MemoryInv.congr {s t : State} (h : MemoryInv s) (hc : t.cfg = s.cfg) (hr : t.readPage = s.readPage)
    (hw : t.writePage = s.writePage) (hg : t.regions = s.regions) (hu : t.unmappedWrite = s.unmappedWrite) :
    MemoryInv t := by
  have hp (e : PageEntry) (he : pageInside s e) : pageInside t e := by
    rw [pageInside, regionSize_congr hc hg, hc]; exact he
  exact ⟨by rw [hr, hc]; exact h.readLength, by rw [hw, hc]; exact h.writeLength,
    fun e he => hp e (h.readInside e (hr ▸ he)), fun e he => hp e (h.writeInside e (hw ▸ he)),
    (wf_congr hc hg hu).trans h.canonical⟩

theorem MemoryInv.quiet {s t : State} (h : MemoryInv s) (q : Quiet s t) : MemoryInv t :=
  h.congr q.cfg q.readPage q.writePage q.regions q.unmappedWrite

/-! ### Stores (R74) -/

theorem MemoryInv.locWrite {s : State} (h : MemoryInv s) (l : PageEntry) (v : Byte) : MemoryInv (locWrite s l v) := by
  have hc : (Machine.locWrite s l v).cfg = s.cfg := by rw [locWrite_frame]
  have hr : (Machine.locWrite s l v).readPage = s.readPage := by rw [locWrite_frame]
  have hw : (Machine.locWrite s l v).writePage = s.writePage := by rw [locWrite_frame]
  have hp (e : PageEntry) (he : pageInside s e) : pageInside (Machine.locWrite s l v) e := by
    rw [pageInside, locWrite_regionSize, hc]; exact he
  exact ⟨by rw [hr, hc]; exact h.readLength, by rw [hw, hc]; exact h.writeLength,
    fun e he => hp e (h.readInside e (hr ▸ he)), fun e he => hp e (h.writeInside e (hw ▸ he)),
    locWrite_wf s l v h.canonical⟩

/-! ### Mapping calls (R75 to R77) -/

/-- An entry of a page table after `setPages` is an old one or one of the new ones. -/
theorem mem_setPages {first n : Nat} {f : Nat → PageEntry} {i : Nat} {es : List PageEntry} {e : PageEntry}
    (h : e ∈ setPages first n f i es) : e ∈ es ∨ ∃ k < n, e = f k := by
  obtain ⟨j, hj⟩ := List.mem_iff_getElem?.mp h
  rw [setPages_getElem?] at hj
  obtain ⟨d, hd, rfl⟩ := Option.map_eq_some_iff.mp hj
  split
  · rename_i hw; exact .inr ⟨i + j - first, by omega, rfl⟩
  · exact .inl (List.mem_of_getElem? hd)

theorem page_in_window {ps size k : Nat} (h : k < size / ps) : k * ps + ps ≤ size := by
  calc k * ps + ps = (k + 1) * ps := (Nat.succ_mul k ps).symm
    _ ≤ size / ps * ps := Nat.mul_le_mul_right _ h
    _ ≤ size := Nat.div_mul_le_self _ _

/-- A page of a mirrored window lies inside the mirror (R75). -/
theorem page_in_mirror {ps m : Nat} (k : Nat) (hm : m % ps = 0) (hp : 0 < ps) (hpm : ps ≤ m) : k * ps % m + ps ≤ m := by
  obtain ⟨q, rfl⟩ := Nat.dvd_of_mod_eq_zero hm
  have hq : 0 < q := Nat.pos_of_ne_zero (by rintro rfl; omega)
  rw [Nat.mul_comm k, Nat.mul_mod_mul_left]
  calc ps * (k % q) + ps = ps * (k % q + 1) := (Nat.mul_succ _ _).symm
    _ ≤ ps * q := Nat.mul_le_mul_left _ (Nat.mod_lt k hq)

/-- The entries an accepted mapping call installs lie inside their regions (R75, R76). -/
theorem mapInstall_inside {s : State} {c : MapCall} (h : mapOk s c = true) (e : PageEntry) :
    (e ∈ (mapInstall s c).readPage → e ∈ s.readPage ∨ pageInside s e) ∧
    (e ∈ (mapInstall s c).writePage → e ∈ s.writePage ∨ pageInside s e) := by
  have hp := pageSize_pos s.cfg
  cases c with
  | mapCode start size data mirror =>
    simp only [mapOk, Bool.and_eq_true, decide_eq_true_eq] at h
    obtain ⟨⟨⟨-, hm⟩, hpm⟩, hfit⟩ := h
    refine ⟨fun he => (mem_setPages he).imp_right ?_, fun he => (mem_setPages he).imp_right ?_⟩
    · rintro ⟨k, hk, rfl⟩
      have := page_in_window hk
      have := page_in_mirror k hm hp hpm
      have := Nat.mod_le (k * s.cfg.pageSize) (mirror.getD size)
      simp only [pageInside]
      omega
    · rintro ⟨-, -, rfl⟩
      exact pageInside_window s rfl
  | mapMem start size writeTo readFrom =>
    simp only [mapOk, Bool.and_eq_true, decide_eq_true_eq] at h
    obtain ⟨⟨-, hw⟩, hr⟩ := h
    refine ⟨fun he => (mem_setPages he).imp_right ?_, fun he => (mem_setPages he).imp_right ?_⟩
    all_goals
      rintro ⟨k, hk, rfl⟩
      have := page_in_window hk
      simp only [pageInside]
      omega

theorem mapInstall_lengths (s : State) (c : MapCall) :
    (mapInstall s c).readPage.length = s.readPage.length ∧ (mapInstall s c).writePage.length = s.writePage.length := by
  cases c <;> exact ⟨setPages_length .., setPages_length ..⟩

theorem MemoryInv.applyMap {s : State} (h : MemoryInv s) (c : MapCall) : MemoryInv (applyMap c s) := by
  rcases applyMap_cases c s with ⟨hok, e⟩ | ⟨-, e⟩
  · have hc : (mapInstall s c).cfg = s.cfg := by rw [mapInstall_frame]
    have hg : (mapInstall s c).regions = s.regions := by rw [mapInstall_frame]
    have hp (e : PageEntry) (he : pageInside s e) : pageInside (mapInstall s c) e := by
      rw [pageInside, regionSize_congr hc hg, hc]; exact he
    rw [e]
    exact ⟨by rw [(mapInstall_lengths s c).1, hc]; exact h.readLength,
      by rw [(mapInstall_lengths s c).2, hc]; exact h.writeLength,
      fun e he => hp e (((mapInstall_inside hok e).1 he).elim (h.readInside e) id),
      fun e he => hp e (((mapInstall_inside hok e).2 he).elim (h.writeInside e) id),
      (wf_congr hc hg (by rw [mapInstall_frame])).trans h.canonical⟩
  · rw [e]; exact h.congr rfl rfl rfl rfl rfl

theorem MemoryInv.bankSelect {s : State} (h : MemoryInv s) (window size rom : Nat) (missing : MissingBank) (v : Byte) :
    MemoryInv (bankSelect window size rom missing v s) := by
  unfold Machine.bankSelect
  split
  · exact h.applyMap _
  · exact (h.applyMap _).congr rfl rfl rfl rfl rfl

/-! ### Acts of the CPU core -/

theorem MemoryInv.memWrite {s : State} (h : MemoryInv s) (a : Word) (v : Byte) : MemoryInv (memWrite a v s) := by
  unfold Machine.memWrite
  split
  · rw [nesWrite_frame]; exact h.congr rfl rfl rfl rfl rfl
  · have hp : MemoryInv (pokeyWrite s.time a v s) := by rw [pokeyWrite_frame]; exact h.congr rfl rfl rfl rfl rfl
    exact hp.locWrite _ _
  · exact h.bankSelect ..
  · rw [runCallback_frame]; exact h.congr rfl rfl rfl rfl rfl
  · exact h.locWrite _ _

theorem MemoryInv.cpuAct {fam : Family} {s t : State} (h : MemoryInv s) (a : CpuAct fam s t) : MemoryInv t := by
  cases a with
  | mRegs => exact h.congr rfl rfl rfl rfl rfl
  | zRegs => exact h.congr rfl rfl rfl rfl rfl
  | read a => rw [memRead_frame]; exact h.congr rfl rfl rfl rfl rfl
  | write a v => exact h.memWrite a v
  | portIn p => rw [portIn_frame]; exact h.congr rfl rfl rfl rfl rfl
  | portOut p v => rw [portOut_frame]; exact h.congr rfl rfl rfl rfl rfl

/-! ### Acts of the driver -/

/-- The end of a frame changes the chips and the sink (R454, R488, R512). -/
theorem chipEndFrame_frame (n : Int) (c : Chip) (s : State) :
    chipEndFrame n c s = { s with
      nes := (chipEndFrame n c s).nes
      ay := (chipEndFrame n c s).ay
      pokey := (chipEndFrame n c s).pokey
      sink := (chipEndFrame n c s).sink } := by
  cases c
  · simp only [chipEndFrame, nesEndFrame]; split <;> rfl
  · simp only [chipEndFrame, ayEndFrame]; split <;> rfl
  · simp only [chipEndFrame, pokeyEndFrame]; split <;> rfl

theorem MemoryInv.driverAct {s t : State} (h : MemoryInv s) (a : DriverAct s t) : MemoryInv t := by
  cases a with
  | quiet q => exact h.quiet q
  | cpu a => exact h.cpuAct a
  | chipEndFrame n c => rw [chipEndFrame_frame]; exact h.congr rfl rfl rfl rfl rfl
  | sinkEndFrame n => exact h.congr rfl rfl rfl rfl rfl

/-! ### Acts of the host -/

theorem regionWf_copyBlock (o : Nat) (bs : List Byte) (r : Region) (h : regionWf r = true) :
    regionWf (copyBlock o bs r) = true := by
  induction bs generalizing o r with
  | nil => exact h
  | cons b bs ih => exact ih _ _ (regionWf_write _ _ _ h)

theorem regionWf_buildRegion (r : RegionImage) : regionWf (buildRegion r) = true := by
  refine List.foldlRecOn r.blocks _ (motive := fun g => regionWf g = true) rfl fun g hg b _ => ?_
  exact regionWf_copyBlock _ _ _ hg

/-- New regions under a core that was just reset (R62, R531). -/
theorem MemoryInv.fresh {s : State} (h : MemoryInv s) (fill : Byte) {rs : List Region}
    (hrs : rs.all regionWf = true) : MemoryInv { cpuReset fill s with regions := rs } where
  readLength := List.length_replicate
  writeLength := List.length_replicate
  readInside e he := by rw [List.eq_of_mem_replicate he]; exact pageInside_window _ rfl
  writeInside e he := by rw [List.eq_of_mem_replicate he]; exact pageInside_window _ rfl
  canonical := by
    have hc := h.canonical
    simp only [Memory.wf, Bool.and_eq_true] at hc ⊢
    exact ⟨hrs, hc.2⟩

/-- No region gets shorter when one is added. -/
theorem regionSize_append (s : State) (g : Region) (r : RegionRef) :
    regionSize s r ≤ regionSize { s with regions := s.regions ++ [g] } r := by
  cases r with
  | region i =>
    simp only [regionSize]
    rcases Nat.lt_or_ge i s.regions.length with hi | hi
    · rw [List.getElem?_append_left hi]
    · rw [List.getElem?_eq_none hi]; exact Nat.zero_le _
  | _ => exact Nat.le_refl _

theorem MemoryInv.ensureBacked {s : State} (h : MemoryInv s) (a : Word) : MemoryInv (ensureBacked a s) := by
  have hwf := ensureBacked_wf a s h.canonical
  unfold Machine.ensureBacked at hwf ⊢
  split
  · rename_i hu
    rw [if_pos hu] at hwf
    refine ⟨(setPages_length ..).trans h.readLength, h.writeLength, fun e he => ?_, fun e he => ?_, hwf⟩
    · rcases mem_setPages he with he | ⟨-, -, rfl⟩
      · exact Nat.le_trans (h.readInside e he) (regionSize_append s _ _)
      · refine pageInside_window _ ?_
        simp [regionSize]
    · exact Nat.le_trans (h.writeInside e he) (regionSize_append s _ _)
  · exact h

theorem chipSetOutput_frame (c : Chip) (v : Nat) (o : Option Channel) (s : State) :
    chipSetOutput c v o s = { s with
      nes := (chipSetOutput c v o s).nes
      ay := (chipSetOutput c v o s).ay
      pokey := (chipSetOutput c v o s).pokey
      sink := (chipSetOutput c v o s).sink } := by
  cases c <;> rfl

theorem MemoryInv.hostAct {s t : State} (h : MemoryInv s) (a : HostAct s t) : MemoryInv t := by
  cases a with
  | driver a => exact h.driverAct a
  | map c => exact h.applyMap c
  | ayWrite t r v => rw [ayWrite_frame]; exact h.congr rfl rfl rfl rfl rfl
  | setOutput c v ho => rw [chipSetOutput_frame]; exact h.congr rfl rfl rfl rfl rfl
  | reset fill =>
    have hc := h.canonical
    simp only [Memory.wf, Bool.and_eq_true] at hc
    exact h.fresh fill hc.1
  | freshMemory fill rs =>
    exact h.fresh fill (List.all_eq_true.mpr fun g hg => by
      obtain ⟨r, -, rfl⟩ := List.mem_map.mp hg; exact regionWf_buildRegion r)
  | backed a => exact h.ensureBacked a
  | poke a v => exact h.locWrite _ _

/-! ### Every step -/

theorem MemoryInv.driverActs {s t : State} (h : MemoryInv s) (a : DriverActs s t) : MemoryInv t := by
  induction a with
  | refl => exact h
  | tail _ a ih => exact ih.driverAct a

theorem MemoryInv.hostActs {s t : State} (h : MemoryInv s) (a : HostActs s t) : MemoryInv t := by
  induction a with
  | refl => exact h
  | tail _ a ih => exact ih.hostAct a

/-- A reset of the chips changes the chips alone (R66). -/
theorem chipsReset_frame (s : State) :
    chipsReset s = { s with nes := (chipsReset s).nes, ay := (chipsReset s).ay, pokey := (chipsReset s).pokey } := by
  unfold chipsReset
  refine List.foldlRecOn s.cfg.chips _
    (motive := fun u : State => u = { s with nes := u.nes, ay := u.ay, pokey := u.pokey }) rfl fun u hu c _ => ?_
  cases c <;> rw [chipReset, hu]

/-- Settles O45: every act of a step keeps the invariant. -/
theorem everyStepKeepsMemoryInv : Obligations.EveryStepKeepsMemoryInv := by
  intro s t h hstep
  by_cases hc : s.control = .host
  · rcases step_hostActs hc hstep with ⟨-, a⟩ | ⟨_, _, _, u, -, -, -, a, b⟩
    · exact h.hostActs a
    · have hu : MemoryInv (chipsReset u) := by
        rw [chipsReset_frame]; exact (h.hostActs a).congr rfl rfl rfl rfl rfl
      exact hu.hostActs b
  · exact h.driverActs (step_driverActs hc hstep)

end Sys2Proof.Machine
end

section
/-! PROOFS. The output of one voice (R423, R455): what a report and an attachment do to the amplitude last reported and to the
deltas sent, and the shape in which the chips' invariants are carried along. -/

namespace Sys2Proof.Machine

/-! ### Reports -/

/-- A voice reports to its own channel, or to none. -/
def reportsToOwn (c : Chip) (voice : Nat) (v : VoiceOut) : Prop := v.output = none ∨ v.output = some ⟨c, voice⟩

theorem voiceInStep.own {c : Chip} {n : Nat} {a : Int} {v : VoiceOut} (h : voiceInStep c n a v) : reportsToOwn c n v :=
  h.imp_right And.left

/-- After a report the voice is in step. -/
theorem emit_inStep {c : Chip} {n : Nat} {v : VoiceOut} (h : reportsToOwn c n v) (t a : Int) (k : List SinkCall) :
    voiceInStep c n a (VoiceOut.emit t a v k).1 := by
  unfold VoiceOut.emit
  rcases h with h | h
  · rw [h]; exact .inl h
  · rw [h]
    dsimp only
    split
    · rename_i e; exact .inr ⟨h, e.symm⟩
    · exact .inr ⟨rfl, rfl⟩

/-- A report sends what the level changes by. -/
theorem emit_owed (ch : Channel) (t a : Int) (v : VoiceOut) (k : List SinkCall) :
    sinkSum ch (VoiceOut.emit t a v k).2 - (VoiceOut.emit t a v k).1.on ch = sinkSum ch k - v.on ch := by
  unfold VoiceOut.emit
  cases h : v.output with
  | none => rfl
  | some c =>
    dsimp only
    split
    · rfl
    · by_cases hc : c = ch
      · simp only [sinkSum, VoiceOut.on, h, hc, if_true]; omega
      · simp only [sinkSum, VoiceOut.on, h, Option.some.injEq, hc, if_false]; omega

/-- A voice attached to its own channel, or detached, is in step. -/
theorem set_inStep {c : Chip} {n : Nat} {o : Option Channel} (ho : o = none ∨ o = some ⟨c, n⟩) (t a : Int)
    (v : VoiceOut) (k : List SinkCall) : voiceInStep c n a (VoiceOut.set t a o v k).1 := by
  unfold VoiceOut.set
  rcases ho with rfl | rfl
  · cases h : v.output with
    | none => exact .inl h
    | some _ => exact .inl rfl
  · cases v.output with
    | none => exact emit_inStep (.inr rfl) _ _ _
    | some _ => exact emit_inStep (.inr rfl) _ _ _

/-- Attaching a voice to the channel it reports to already, or for the first time, and detaching it send what the level
changes by. -/
theorem set_owed {c : Chip} {n : Nat} {o : Option Channel} {v : VoiceOut} (ho : o = none ∨ o = some ⟨c, n⟩)
    (hv : reportsToOwn c n v) (ch : Channel) (t a : Int) (k : List SinkCall) :
    sinkSum ch (VoiceOut.set t a o v k).2 - (VoiceOut.set t a o v k).1.on ch = sinkSum ch k - v.on ch := by
  unfold VoiceOut.set
  rcases ho with rfl | rfl <;> rcases hv with h | h
  · rw [h]
  · rw [h]
    dsimp only
    split
    · rename_i h0; simp only [VoiceOut.on, h, h0, ite_self, reduceCtorEq]
    · by_cases hc : (⟨c, n⟩ : Channel) = ch
      · simp only [sinkSum, VoiceOut.on, h, hc, if_true, reduceCtorEq, if_false]; omega
      · simp only [sinkSum, VoiceOut.on, h, Option.some.injEq, hc, reduceCtorEq, if_false]; omega
  · rw [h]
    refine (emit_owed ch _ _ _ _).trans ?_
    simp only [VoiceOut.on, h, ite_self, reduceCtorEq, if_false]
  · rw [h]
    refine (emit_owed ch _ _ _ _).trans ?_
    simp only [VoiceOut.on, h]

/-! ### What an operation of a voice or a chip keeps -/

/-- An operation on a voice or a chip and the sink keeps the invariant `ok`, and on every channel it sends exactly what the
levels last reported, `on`, change by. -/
structure Keeps {α : Type} (ok : α → Prop) (on : Channel → α → Int) (x y : α × List SinkCall) : Prop where
  inv : ok x.1 → ok y.1
  owed : ∀ ch, sinkSum ch y.2 - on ch y.1 = sinkSum ch x.2 - on ch x.1

/-- A voice changes without a report: its output part stays and its counters stay in their ranges. -/
structure Silent {α : Type} (ranges : α → Prop) (out : α → VoiceOut) (p q : α) : Prop where
  out : out q = out p
  ranges : ranges p → ranges q

section
variable {α : Type} {ok : α → Prop} {on : Channel → α → Int} {x y z : α × List SinkCall}

theorem Keeps.refl (x : α × List SinkCall) : Keeps ok on x x := ⟨id, fun _ => rfl⟩

theorem Keeps.trans (h : Keeps ok on x y) (g : Keeps ok on y z) : Keeps ok on x z :=
  ⟨g.inv ∘ h.inv, fun ch => (g.owed ch).trans (h.owed ch)⟩

/-- What every tick keeps, a timer keeps. -/
theorem runTimer_keeps {tick : Int → α × List SinkCall → α × List SinkCall} (period : α × List SinkCall → Nat)
    (h : ∀ t x, Keeps ok on x (tick t x)) (stop : Int) (fuel : Nat) (due : Int) (x : α × List SinkCall) :
    Keeps ok on x (runTimer tick period stop fuel due x).2 := by
  induction fuel generalizing due x with
  | zero => exact .refl x
  | succ n ih =>
    unfold runTimer
    split
    · exact (h due x).trans (ih _ _)
    · exact .refl x

variable {ranges : α → Prop} {out : α → VoiceOut} {p q r : α}

theorem Silent.refl (p : α) : Silent ranges out p p := ⟨rfl, id⟩

theorem Silent.trans (h : Silent ranges out p q) (g : Silent ranges out q r) : Silent ranges out p r :=
  ⟨g.out.trans h.out, g.ranges ∘ h.ranges⟩

end

end Sys2Proof.Machine
end

section
/-! PROOFS. The NESAPU: every operation keeps the counters in their ranges and the voices in step with what they reported, and
sends exactly what the levels change by (R423 to R456). -/

namespace Sys2Proof.Machine

/-! ### One voice: its invariant and what it last reported -/

/-- A pulse channel with its counters in range and in step with what it reported. -/
structure PulseOk (first : Bool) (voice : Nat) (p : Pulse) : Prop where
  ranges : PulseInv p
  inStep : voiceInStep .nesApu voice (p.amp first) p.out

/-- The triangle with its counters in range and in step with what it reported. -/
structure TriangleOk (c : Triangle) : Prop where
  ranges : TriangleInv c
  inStep : voiceInStep .nesApu 2 c.amp c.out

/-- The noise channel with its counters in range and in step with what it reported. -/
structure NoiseOk (c : Noise) : Prop where
  ranges : NoiseInv c
  inStep : voiceInStep .nesApu 3 c.amp c.out

/-- The DMC with its counters in range and in step with what it reported. -/
structure DmcOk (c : Dmc) : Prop where
  ranges : DmcInv c
  inStep : voiceInStep .nesApu 4 c.amp c.out

def Pulse.on (ch : Channel) (p : Pulse) : Int := p.out.on ch
def Triangle.on (ch : Channel) (c : Triangle) : Int := c.out.on ch
def Noise.on (ch : Channel) (c : Noise) : Int := c.out.on ch
def Dmc.on (ch : Channel) (c : Dmc) : Int := c.out.on ch

/-- What the five voices last reported to a channel. -/
def Nes.on (ch : Channel) (n : Nes) : Int :=
  n.pulse1.on ch + n.pulse2.on ch + n.triangle.on ch + n.noise.on ch + n.dmc.on ch

/-! ### A silent change of a voice, then its report -/

section
variable {k : List SinkCall} (t : Int)

theorem Pulse.keeps_emit {first : Bool} {n : Nat} {p q : Pulse} (h : Silent PulseInv Pulse.out p q) :
    Keeps (PulseOk first n) Pulse.on (p, k) (Pulse.emit first t (q, k)) where
  inv i :=
    have r := h.ranges i.ranges
    ⟨⟨r.phase, r.length, r.envDiv, r.envDecay, r.sweepDiv⟩, emit_inStep (h.out ▸ i.inStep.own) t (q.amp first) k⟩
  owed ch := (emit_owed ch t (q.amp first) q.out k).trans (by rw [h.out]; rfl)

theorem Triangle.keeps_emit {p q : Triangle} (h : Silent TriangleInv Triangle.out p q) :
    Keeps TriangleOk Triangle.on (p, k) (Triangle.emit t (q, k)) where
  inv i :=
    have r := h.ranges i.ranges
    ⟨⟨r.phase, r.length, r.linear⟩, emit_inStep (h.out ▸ i.inStep.own) t q.amp k⟩
  owed ch := (emit_owed ch t q.amp q.out k).trans (by rw [h.out]; rfl)

theorem Noise.keeps_emit {p q : Noise} (h : Silent NoiseInv Noise.out p q) :
    Keeps NoiseOk Noise.on (p, k) (Noise.emit t (q, k)) where
  inv i :=
    have r := h.ranges i.ranges
    ⟨⟨r.length, r.envDiv, r.envDecay⟩, emit_inStep (h.out ▸ i.inStep.own) t q.amp k⟩
  owed ch := (emit_owed ch t q.amp q.out k).trans (by rw [h.out]; rfl)

theorem Dmc.keeps_emit {p q : Dmc} (h : Silent DmcInv Dmc.out p q) :
    Keeps DmcOk Dmc.on (p, k) (Dmc.emit t (q, k)) where
  inv i :=
    have r := h.ranges i.ranges
    ⟨⟨r.bytesLeft, r.bitsLeft⟩, emit_inStep (h.out ▸ i.inStep.own) t q.amp k⟩
  owed ch := (emit_owed ch t q.amp q.out k).trans (by rw [h.out]; rfl)

end

/-! ### Ticks and the passing of time (R425, R449 to R453) -/

theorem Pulse.tick_silent (p : Pulse) : Silent PulseInv Pulse.out p p.tick :=
  ⟨rfl, fun i => ⟨Nat.mod_lt _ (by decide), i.length, i.envDiv, i.envDecay, i.sweepDiv⟩⟩

theorem Triangle.tick_silent (c : Triangle) : Silent TriangleInv Triangle.out c c.tick := by
  unfold Triangle.tick
  split
  · exact ⟨rfl, fun i => ⟨Nat.mod_lt _ (by decide), i.length, i.linear⟩⟩
  · exact .refl c

theorem Noise.tick_silent (c : Noise) : Silent NoiseInv Noise.out c c.tick :=
  ⟨rfl, fun i => ⟨i.length, i.envDiv, i.envDecay⟩⟩

theorem Dmc.start_silent (c : Dmc) : Silent DmcInv Dmc.out c c.start := by
  refine ⟨rfl, fun i => ⟨?_, i.bitsLeft⟩⟩
  have := c.lenReg.isLt
  simp only [Dmc.start]
  omega

theorem Dmc.fill_silent (rd : Word → Byte) (c : Dmc) : Silent DmcInv Dmc.out c (c.fill rd) := by
  unfold Dmc.fill
  split
  · extract_lets d
    have hd : Silent DmcInv Dmc.out c d := ⟨rfl, fun i => ⟨Nat.le_trans (Nat.sub_le _ _) i.bytesLeft, i.bitsLeft⟩⟩
    split
    · split
      · exact hd.trans d.start_silent
      · split
        · exact hd.trans ⟨rfl, fun i => ⟨i.bytesLeft, i.bitsLeft⟩⟩
        · exact hd
    · exact hd
  · exact .refl c

theorem Dmc.step_silent (c : Dmc) : Silent DmcInv Dmc.out c c.step := by
  have h (v : BitVec 7) : Silent DmcInv Dmc.out c { c with dac := v } := ⟨rfl, fun i => ⟨i.bytesLeft, i.bitsLeft⟩⟩
  unfold Dmc.step
  split
  · exact .refl c
  · split
    · split
      · exact h _
      · exact .refl c
    · split
      · exact h _
      · exact .refl c

theorem Dmc.tick_silent (rd : Word → Byte) (c : Dmc) : Silent DmcInv Dmc.out c (c.tick rd) := by
  unfold Dmc.tick
  extract_lets c' d
  have hd : Silent DmcInv Dmc.out c d :=
    c.step_silent.trans ⟨rfl, fun i => ⟨i.bytesLeft, Nat.le_trans (Nat.sub_le _ _) i.bitsLeft⟩⟩
  split
  · split
    · exact hd.trans ⟨rfl, fun i => ⟨i.bytesLeft, Nat.le_refl _⟩⟩
    · rename_i b hb
      have he : Silent DmcInv Dmc.out d { d with bitsLeft := 8, silence := false, shift := b, buffer := none } :=
        ⟨rfl, fun i => ⟨i.bytesLeft, Nat.le_refl _⟩⟩
      exact (hd.trans he).trans (Dmc.fill_silent rd _)
  · exact hd

theorem Pulse.keeps_advance (first : Bool) (n : Nat) (fr stop : Int) (x : Pulse × List SinkCall) :
    Keeps (PulseOk first n) Pulse.on x (Pulse.advance first fr stop x) :=
  (runTimer_keeps _ (fun t y => Pulse.keeps_emit t y.1.tick_silent) stop _ _ x).trans
    ⟨fun i => ⟨⟨i.ranges.phase, i.ranges.length, i.ranges.envDiv, i.ranges.envDecay, i.ranges.sweepDiv⟩, i.inStep⟩,
      fun _ => rfl⟩

theorem Triangle.keeps_advance (fr stop : Int) (x : Triangle × List SinkCall) :
    Keeps TriangleOk Triangle.on x (Triangle.advance fr stop x) :=
  (runTimer_keeps _ (fun t y => Triangle.keeps_emit t y.1.tick_silent) stop _ _ x).trans
    ⟨fun i => ⟨⟨i.ranges.phase, i.ranges.length, i.ranges.linear⟩, i.inStep⟩, fun _ => rfl⟩

theorem Noise.keeps_advance (fr stop : Int) (x : Noise × List SinkCall) :
    Keeps NoiseOk Noise.on x (Noise.advance fr stop x) :=
  (runTimer_keeps _ (fun t y => Noise.keeps_emit t y.1.tick_silent) stop _ _ x).trans
    ⟨fun i => ⟨⟨i.ranges.length, i.ranges.envDiv, i.ranges.envDecay⟩, i.inStep⟩, fun _ => rfl⟩

theorem Dmc.keeps_advance (rd : Word → Byte) (fr stop : Int) (x : Dmc × List SinkCall) :
    Keeps DmcOk Dmc.on x (Dmc.advance rd fr stop x) :=
  (runTimer_keeps _ (fun t y => Dmc.keeps_emit t (y.1.tick_silent rd)) stop _ _ x).trans
    ⟨fun i => ⟨⟨i.ranges.bytesLeft, i.ranges.bitsLeft⟩, i.inStep⟩, fun _ => rfl⟩

/-! ### From one voice to the chip -/

section
variable {n : Nes} {k k' : List SinkCall}

theorem Nes.keeps_pulse1 {p : Pulse} (h : Keeps (PulseOk true 0) Pulse.on (n.pulse1, k) (p, k')) :
    Keeps NesInv Nes.on (n, k) ({ n with pulse1 := p }, k') where
  inv i :=
    have v := h.inv ⟨i.pulse1, i.out0⟩
    { i with pulse1 := v.ranges, out0 := v.inStep }
  owed ch := by
    have := h.owed ch
    simp only [Nes.on] at this ⊢
    omega

theorem Nes.keeps_pulse2 {p : Pulse} (h : Keeps (PulseOk false 1) Pulse.on (n.pulse2, k) (p, k')) :
    Keeps NesInv Nes.on (n, k) ({ n with pulse2 := p }, k') where
  inv i :=
    have v := h.inv ⟨i.pulse2, i.out1⟩
    { i with pulse2 := v.ranges, out1 := v.inStep }
  owed ch := by
    have := h.owed ch
    simp only [Nes.on] at this ⊢
    omega

theorem Nes.keeps_triangle {c : Triangle} (h : Keeps TriangleOk Triangle.on (n.triangle, k) (c, k')) :
    Keeps NesInv Nes.on (n, k) ({ n with triangle := c }, k') where
  inv i :=
    have v := h.inv ⟨i.triangle, i.out2⟩
    { i with triangle := v.ranges, out2 := v.inStep }
  owed ch := by
    have := h.owed ch
    simp only [Nes.on] at this ⊢
    omega

theorem Nes.keeps_noise {c : Noise} (h : Keeps NoiseOk Noise.on (n.noise, k) (c, k')) :
    Keeps NesInv Nes.on (n, k) ({ n with noise := c }, k') where
  inv i :=
    have v := h.inv ⟨i.noise, i.out3⟩
    { i with noise := v.ranges, out3 := v.inStep }
  owed ch := by
    have := h.owed ch
    simp only [Nes.on] at this ⊢
    omega

theorem Nes.keeps_dmc {c : Dmc} (h : Keeps DmcOk Dmc.on (n.dmc, k) (c, k')) :
    Keeps NesInv Nes.on (n, k) ({ n with dmc := c }, k') where
  inv i :=
    have v := h.inv ⟨i.dmc, i.out4⟩
    { i with dmc := v.ranges, out4 := v.inStep }
  owed ch := by
    have := h.owed ch
    simp only [Nes.on] at this ⊢
    omega

end

/-- The voices are as they were, and the frame sequencer's step is in its range. -/
theorem Nes.keeps_of_voices {n m : Nes} (k : List SinkCall) (h1 : m.pulse1 = n.pulse1) (h2 : m.pulse2 = n.pulse2)
    (h3 : m.triangle = n.triangle) (h4 : m.noise = n.noise) (h5 : m.dmc = n.dmc)
    (hf : n.frameStep ≤ 3 → m.frameStep ≤ 3) : Keeps NesInv Nes.on (n, k) (m, k) where
  inv i :=
    ⟨by rw [h1]; exact i.pulse1, by rw [h2]; exact i.pulse2, by rw [h3]; exact i.triangle, by rw [h4]; exact i.noise,
      by rw [h5]; exact i.dmc, hf i.frameStep, by rw [h1]; exact i.out0, by rw [h2]; exact i.out1,
      by rw [h3]; exact i.out2, by rw [h4]; exact i.out3, by rw [h5]; exact i.out4⟩
  owed ch := by simp only [Nes.on, h1, h2, h3, h4, h5]

theorem Nes.keeps_advance (rd : Word → Byte) (fr stop : Int) (x : Nes × List SinkCall) :
    Keeps NesInv Nes.on x (Nes.advance rd fr stop x) := by
  unfold Nes.advance
  extract_lets p1 p2 tr no dm
  have h1 : Keeps NesInv Nes.on x ({ x.1 with pulse1 := p1.1 }, p1.2) :=
    Nes.keeps_pulse1 (Pulse.keeps_advance true 0 fr stop (x.1.pulse1, x.2))
  have h2 : Keeps NesInv Nes.on _ ({ x.1 with pulse1 := p1.1, pulse2 := p2.1 }, p2.2) :=
    h1.trans (Nes.keeps_pulse2 (Pulse.keeps_advance false 1 fr stop (x.1.pulse2, p1.2)))
  have h3 : Keeps NesInv Nes.on _ ({ x.1 with pulse1 := p1.1, pulse2 := p2.1, triangle := tr.1 }, tr.2) :=
    h2.trans (Nes.keeps_triangle (Triangle.keeps_advance fr stop (x.1.triangle, p2.2)))
  have h4 : Keeps NesInv Nes.on _
      ({ x.1 with pulse1 := p1.1, pulse2 := p2.1, triangle := tr.1, noise := no.1 }, no.2) :=
    h3.trans (Nes.keeps_noise (Noise.keeps_advance fr stop (x.1.noise, tr.2)))
  exact h4.trans (Nes.keeps_dmc (Dmc.keeps_advance rd fr stop (x.1.dmc, no.2)))

/-! ### Silent changes of all voices, then the report of all (R440, R444) -/

/-- Every voice changes silently. -/
structure NesSilent (n m : Nes) : Prop where
  pulse1 : Silent PulseInv Pulse.out n.pulse1 m.pulse1
  pulse2 : Silent PulseInv Pulse.out n.pulse2 m.pulse2
  triangle : Silent TriangleInv Triangle.out n.triangle m.triangle
  noise : Silent NoiseInv Noise.out n.noise m.noise
  dmc : Silent DmcInv Dmc.out n.dmc m.dmc
  frameStep : n.frameStep ≤ 3 → m.frameStep ≤ 3

theorem NesSilent.refl (n : Nes) : NesSilent n n := ⟨.refl _, .refl _, .refl _, .refl _, .refl _, id⟩

theorem NesSilent.trans {n m l : Nes} (h : NesSilent n m) (g : NesSilent m l) : NesSilent n l :=
  ⟨h.pulse1.trans g.pulse1, h.pulse2.trans g.pulse2, h.triangle.trans g.triangle, h.noise.trans g.noise,
    h.dmc.trans g.dmc, g.frameStep ∘ h.frameStep⟩

/-- After a silent change of all voices and a report of each, all voices are in step. -/
theorem Nes.keeps_emitAll {n m : Nes} (h : NesSilent n m) (t : Int) (k : List SinkCall) :
    Keeps NesInv Nes.on (n, k) (Nes.emitAll t (m, k)) :=
  (((((Nes.keeps_pulse1 (Pulse.keeps_emit t h.pulse1)).trans
    (Nes.keeps_pulse2 (Pulse.keeps_emit t h.pulse2))).trans
    (Nes.keeps_triangle (Triangle.keeps_emit t h.triangle))).trans
    (Nes.keeps_noise (Noise.keeps_emit t h.noise))).trans
    (Nes.keeps_dmc (Dmc.keeps_emit t h.dmc))).trans
    (Nes.keeps_of_voices _ rfl rfl rfl rfl rfl h.frameStep)

/-! ### The frame sequencer (R444 to R448) -/

theorem clockLength_le (halted : Bool) {n b : Nat} (h : n ≤ b) : clockLength halted n ≤ b := by
  unfold clockLength
  split <;> omega

theorem clockEnvelope_le (halt : Bool) {vol b : Nat} (hv : vol ≤ b) (hb : 15 ≤ b) (start : Bool) {div decay : Nat}
    (hdiv : div ≤ b) (hdecay : decay ≤ b) :
    (clockEnvelope halt vol (start, div, decay)).2.1 ≤ b ∧ (clockEnvelope halt vol (start, div, decay)).2.2 ≤ b := by
  cases start with
  | true => exact ⟨hv, hb⟩
  | false =>
    cases div with
    | zero =>
      refine ⟨hv, ?_⟩
      simp only [clockEnvelope]
      split
      · omega
      · split <;> omega
    | succ div => exact ⟨by simp only [clockEnvelope]; omega, hdecay⟩

theorem Pulse.length_silent (p : Pulse) {len : Nat} (h : p.length ≤ 254 → len ≤ 254) :
    Silent PulseInv Pulse.out p { p with length := len } :=
  ⟨rfl, fun i => ⟨i.phase, h i.length, i.envDiv, i.envDecay, i.sweepDiv⟩⟩

theorem Pulse.clockSweep_silent (first : Bool) (p : Pulse) : Silent PulseInv Pulse.out p (p.clockSweep first) := by
  unfold Pulse.clockSweep
  extract_lets q
  have hq : Silent PulseInv Pulse.out p q := by
    unfold q
    split
    · exact ⟨rfl, fun i => ⟨i.phase, i.length, i.envDiv, i.envDecay, i.sweepDiv⟩⟩
    · exact .refl p
  have hp : q.sweepPeriod.toNat ≤ 7 := Nat.le_of_lt_succ q.sweepPeriod.isLt
  split
  · exact hq.trans ⟨rfl, fun i => ⟨i.phase, i.length, i.envDiv, i.envDecay, hp⟩⟩
  · exact hq.trans ⟨rfl, fun i => ⟨i.phase, i.length, i.envDiv, i.envDecay, Nat.le_trans (Nat.sub_le _ _) i.sweepDiv⟩⟩

theorem Pulse.clockEnv_silent (p : Pulse) : Silent PulseInv Pulse.out p p.clockEnv := by
  refine ⟨rfl, fun i => ?_⟩
  have e := clockEnvelope_le p.halt (Nat.le_of_lt_succ p.vol.isLt) (Nat.le_refl 15) p.envStart i.envDiv i.envDecay
  exact ⟨i.phase, i.length, e.1, e.2, i.sweepDiv⟩

theorem Noise.clockEnv_silent (c : Noise) : Silent NoiseInv Noise.out c c.clockEnv := by
  refine ⟨rfl, fun i => ?_⟩
  have e := clockEnvelope_le c.halt (Nat.le_of_lt_succ c.vol.isLt) (Nat.le_refl 15) c.envStart i.envDiv i.envDecay
  exact ⟨i.length, e.1, e.2⟩

theorem Triangle.clockLinear_silent (c : Triangle) : Silent TriangleInv Triangle.out c c.clockLinear := by
  refine ⟨rfl, fun i => ⟨i.phase, i.length, ?_⟩⟩
  have := c.linearLoad.isLt
  have := i.linear
  simp only [Triangle.clockLinear]
  split <;> omega

theorem Nes.clockHalf_silent (n : Nes) : NesSilent n n.clockHalf where
  pulse1 := (n.pulse1.length_silent (clockLength_le _)).trans (Pulse.clockSweep_silent true _)
  pulse2 := (n.pulse2.length_silent (clockLength_le _)).trans (Pulse.clockSweep_silent false _)
  triangle := ⟨rfl, fun i => ⟨i.phase, clockLength_le _ i.length, i.linear⟩⟩
  noise := ⟨rfl, fun i => ⟨clockLength_le _ i.length, i.envDiv, i.envDecay⟩⟩
  dmc := .refl _
  frameStep := id

theorem Nes.clockQuarter_silent (n : Nes) : NesSilent n n.clockQuarter where
  pulse1 := n.pulse1.clockEnv_silent
  pulse2 := n.pulse2.clockEnv_silent
  triangle := n.triangle.clockLinear_silent
  noise := n.noise.clockEnv_silent
  dmc := .refl _
  frameStep := id

theorem Nes.keeps_frameTick (p : NesConsts) (tf : Int) (x : Nes × List SinkCall) :
    Keeps NesInv Nes.on x (Nes.frameTick p tf x) := by
  unfold Nes.frameTick
  extract_lets s n0 n1 n2 n3
  have h1 : NesSilent x.1 n1 := by
    unfold n1
    split
    · exact ⟨.refl _, .refl _, .refl _, .refl _, .refl _, id⟩
    · exact .refl _
  have h2 : NesSilent n1 n2 := by
    unfold n2
    split
    · exact n1.clockHalf_silent
    · exact .refl _
  have h3 : NesSilent x.1 n3 := (h1.trans h2).trans n2.clockQuarter_silent
  refine Nes.keeps_emitAll (n := x.1) ?_ tf x.2
  exact h3.trans ⟨.refl _, .refl _, .refl _, .refl _, .refl _, fun _ => Nat.le_of_lt_succ (Nat.mod_lt _ (by decide))⟩

theorem Nes.keeps_runLoop (p : NesConsts) (rd : Word → Byte) (t : Int) (fuel : Nat) (x : Nes × List SinkCall) :
    Keeps NesInv Nes.on x (Nes.runLoop p rd t fuel x) := by
  induction fuel generalizing x with
  | zero => exact .refl x
  | succ fuel ih =>
    unfold Nes.runLoop
    extract_lets tf stop y n z
    have hz : Keeps NesInv Nes.on x z :=
      (Nes.keeps_advance rd x.1.lastTime stop x).trans (Nes.keeps_of_voices _ rfl rfl rfl rfl rfl id)
    split
    · exact hz
    · exact (hz.trans (Nes.keeps_frameTick p stop z)).trans (ih _)

theorem Nes.keeps_runUntil (p : NesConsts) (rd : Word → Byte) (t : Int) (x : Nes × List SinkCall) :
    Keeps NesInv Nes.on x (Nes.runUntil p rd t x) :=
  Nes.keeps_runLoop p rd t _ x

/-! ### Register writes (R426 to R443) -/

theorem lengthEntry_le (v : Byte) : lengthEntry v ≤ 254 := by revert v; decide

/-- The length counter a write of a length register leaves (R430, R433, R436). -/
theorem loadedLength_le (enabled : Bool) (v : Byte) {n : Nat} (h : n ≤ 254) :
    (if enabled then lengthEntry v else n) ≤ 254 := by
  split
  · exact lengthEntry_le v
  · exact h

/-- The length counter of a voice that `0x4015` switches (R440). -/
theorem switchedLength_le (on : Bool) {n : Nat} (h : n ≤ 254) : (if on then n else 0) ≤ 254 := by
  split
  · exact h
  · exact Nat.zero_le _

theorem Dmc.enable_silent (rd : Word → Byte) (on : Bool) (c : Dmc) : Silent DmcInv Dmc.out c (c.enable rd on) := by
  unfold Dmc.enable
  extract_lets d
  have hd : Silent DmcInv Dmc.out c d := ⟨rfl, fun i => ⟨i.bytesLeft, i.bitsLeft⟩⟩
  split
  · exact hd.trans ⟨rfl, fun i => ⟨Nat.zero_le _, i.bitsLeft⟩⟩
  · split
    · exact (hd.trans d.start_silent).trans (Dmc.fill_silent rd _)
    · exact hd

theorem Nes.writeEnable_silent (rd : Word → Byte) (v : Byte) (n : Nes) : NesSilent n (n.writeEnable rd v) where
  pulse1 := ⟨rfl, fun i => ⟨i.phase, switchedLength_le _ i.length, i.envDiv, i.envDecay, i.sweepDiv⟩⟩
  pulse2 := ⟨rfl, fun i => ⟨i.phase, switchedLength_le _ i.length, i.envDiv, i.envDecay, i.sweepDiv⟩⟩
  triangle := ⟨rfl, fun i => ⟨i.phase, switchedLength_le _ i.length, i.linear⟩⟩
  noise := ⟨rfl, fun i => ⟨switchedLength_le _ i.length, i.envDiv, i.envDecay⟩⟩
  dmc := Dmc.enable_silent rd _ _
  frameStep := id

section
variable (v : Byte)

theorem Pulse.write0_silent (p : Pulse) : Silent PulseInv Pulse.out p (p.write0 v) :=
  ⟨rfl, fun i => ⟨i.phase, i.length, i.envDiv, i.envDecay, i.sweepDiv⟩⟩

theorem Pulse.write1_silent (p : Pulse) : Silent PulseInv Pulse.out p (p.write1 v) :=
  ⟨rfl, fun i => ⟨i.phase, i.length, i.envDiv, i.envDecay, i.sweepDiv⟩⟩

theorem Pulse.write2_silent (p : Pulse) : Silent PulseInv Pulse.out p (p.write2 v) :=
  ⟨rfl, fun i => ⟨i.phase, i.length, i.envDiv, i.envDecay, i.sweepDiv⟩⟩

theorem Pulse.write3_silent (p : Pulse) : Silent PulseInv Pulse.out p (p.write3 v) :=
  ⟨rfl, fun i => ⟨Nat.zero_lt_succ _, loadedLength_le _ v i.length, i.envDiv, i.envDecay, i.sweepDiv⟩⟩

theorem Triangle.write0_silent (c : Triangle) : Silent TriangleInv Triangle.out c (c.write0 v) :=
  ⟨rfl, fun i => ⟨i.phase, i.length, i.linear⟩⟩

theorem Triangle.write2_silent (c : Triangle) : Silent TriangleInv Triangle.out c (c.write2 v) :=
  ⟨rfl, fun i => ⟨i.phase, i.length, i.linear⟩⟩

theorem Triangle.write3_silent (c : Triangle) : Silent TriangleInv Triangle.out c (c.write3 v) :=
  ⟨rfl, fun i => ⟨i.phase, loadedLength_le _ v i.length, i.linear⟩⟩

theorem Noise.write0_silent (c : Noise) : Silent NoiseInv Noise.out c (c.write0 v) :=
  ⟨rfl, fun i => ⟨i.length, i.envDiv, i.envDecay⟩⟩

theorem Noise.write2_silent (c : Noise) : Silent NoiseInv Noise.out c (c.write2 v) :=
  ⟨rfl, fun i => ⟨i.length, i.envDiv, i.envDecay⟩⟩

theorem Noise.write3_silent (c : Noise) : Silent NoiseInv Noise.out c (c.write3 v) :=
  ⟨rfl, fun i => ⟨loadedLength_le _ v i.length, i.envDiv, i.envDecay⟩⟩

theorem Dmc.write0_silent (c : Dmc) : Silent DmcInv Dmc.out c (c.write0 v) :=
  ⟨rfl, fun i => ⟨i.bytesLeft, i.bitsLeft⟩⟩

theorem Dmc.write1_silent (c : Dmc) : Silent DmcInv Dmc.out c (c.write1 v) :=
  ⟨rfl, fun i => ⟨i.bytesLeft, i.bitsLeft⟩⟩

end

/-- Register writes that no voice hears: the DMC's address and length (R439). -/
theorem Dmc.keeps_unheard {c d : Dmc} (k : List SinkCall) (ho : d.out = c.out) (ha : d.amp = c.amp)
    (hy : d.bytesLeft = c.bytesLeft) (hi : d.bitsLeft = c.bitsLeft) : Keeps DmcOk Dmc.on (c, k) (d, k) where
  inv i := ⟨⟨by rw [hy]; exact i.ranges.bytesLeft, by rw [hi]; exact i.ranges.bitsLeft⟩, by rw [ha, ho]; exact i.inStep⟩
  owed ch := by simp only [Dmc.on, ho]

theorem Nes.keeps_applyWrite (p : NesConsts) (rd : Word → Byte) (t : Int) (a : Nat) (v : Byte)
    (x : Nes × List SinkCall) : Keeps NesInv Nes.on x (Nes.applyWrite p rd t a v x) := by
  unfold Nes.applyWrite
  extract_lets n
  split
  · exact Nes.keeps_pulse1 (Pulse.keeps_emit t (n.pulse1.write0_silent v))
  · exact Nes.keeps_pulse1 (Pulse.keeps_emit t (n.pulse1.write1_silent v))
  · exact Nes.keeps_pulse1 (Pulse.keeps_emit t (n.pulse1.write2_silent v))
  · exact Nes.keeps_pulse1 (Pulse.keeps_emit t (n.pulse1.write3_silent v))
  · exact Nes.keeps_pulse2 (Pulse.keeps_emit t (n.pulse2.write0_silent v))
  · exact Nes.keeps_pulse2 (Pulse.keeps_emit t (n.pulse2.write1_silent v))
  · exact Nes.keeps_pulse2 (Pulse.keeps_emit t (n.pulse2.write2_silent v))
  · exact Nes.keeps_pulse2 (Pulse.keeps_emit t (n.pulse2.write3_silent v))
  · exact Nes.keeps_triangle (Triangle.keeps_emit t (n.triangle.write0_silent v))
  · exact Nes.keeps_triangle (Triangle.keeps_emit t (n.triangle.write2_silent v))
  · exact Nes.keeps_triangle (Triangle.keeps_emit t (n.triangle.write3_silent v))
  · exact Nes.keeps_noise (Noise.keeps_emit t (n.noise.write0_silent v))
  · exact Nes.keeps_noise (Noise.keeps_emit t (n.noise.write2_silent v))
  · exact Nes.keeps_noise (Noise.keeps_emit t (n.noise.write3_silent v))
  · exact Nes.keeps_dmc (Dmc.keeps_emit t (n.dmc.write0_silent v))
  · exact Nes.keeps_dmc (Dmc.keeps_emit t (n.dmc.write1_silent v))
  · exact Nes.keeps_dmc (Dmc.keeps_unheard x.2 rfl rfl rfl rfl)
  · exact Nes.keeps_dmc (Dmc.keeps_unheard x.2 rfl rfl rfl rfl)
  · exact Nes.keeps_emitAll (n.writeEnable_silent rd v) t x.2
  · refine Nes.keeps_of_voices x.2 rfl rfl rfl rfl rfl fun _ => ?_
    simp only [Nes.writeFrame]
    split <;> omega
  · exact .refl x

/-! ### Attaching and detaching voices (R455) -/

section
variable {o : Option Channel} (t : Int) (k : List SinkCall)

theorem Pulse.keeps_set {first : Bool} {n : Nat} (ho : o = none ∨ o = some ⟨.nesApu, n⟩) {p : Pulse}
    (h : PulseOk first n p) : Keeps (PulseOk first n) Pulse.on (p, k)
      ({ p with out := (VoiceOut.set t (p.amp first) o p.out k).1 }, (VoiceOut.set t (p.amp first) o p.out k).2) where
  inv i :=
    ⟨⟨i.ranges.phase, i.ranges.length, i.ranges.envDiv, i.ranges.envDecay, i.ranges.sweepDiv⟩, set_inStep ho ..⟩
  owed ch := set_owed ho h.inStep.own ch ..

theorem Triangle.keeps_set (ho : o = none ∨ o = some ⟨.nesApu, 2⟩) {c : Triangle} (h : TriangleOk c) :
    Keeps TriangleOk Triangle.on (c, k)
      ({ c with out := (VoiceOut.set t c.amp o c.out k).1 }, (VoiceOut.set t c.amp o c.out k).2) where
  inv i := ⟨⟨i.ranges.phase, i.ranges.length, i.ranges.linear⟩, set_inStep ho ..⟩
  owed ch := set_owed ho h.inStep.own ch ..

theorem Noise.keeps_set (ho : o = none ∨ o = some ⟨.nesApu, 3⟩) {c : Noise} (h : NoiseOk c) :
    Keeps NoiseOk Noise.on (c, k)
      ({ c with out := (VoiceOut.set t c.amp o c.out k).1 }, (VoiceOut.set t c.amp o c.out k).2) where
  inv i := ⟨⟨i.ranges.length, i.ranges.envDiv, i.ranges.envDecay⟩, set_inStep ho ..⟩
  owed ch := set_owed ho h.inStep.own ch ..

theorem Dmc.keeps_set (ho : o = none ∨ o = some ⟨.nesApu, 4⟩) {c : Dmc} (h : DmcOk c) :
    Keeps DmcOk Dmc.on (c, k)
      ({ c with out := (VoiceOut.set t c.amp o c.out k).1 }, (VoiceOut.set t c.amp o c.out k).2) where
  inv i := ⟨⟨i.ranges.bytesLeft, i.ranges.bitsLeft⟩, set_inStep ho ..⟩
  owed ch := set_owed ho h.inStep.own ch ..

end

theorem Nes.keeps_setOutput {voice : Nat} {o : Option Channel} (ho : o = none ∨ o = some ⟨.nesApu, voice⟩)
    {x : Nes × List SinkCall} (h : NesInv x.1) : Keeps NesInv Nes.on x (Nes.setOutput voice o x) := by
  unfold Nes.setOutput
  extract_lets n
  split
  · exact Nes.keeps_pulse1 (Pulse.keeps_set _ _ ho ⟨h.pulse1, h.out0⟩)
  · exact Nes.keeps_pulse2 (Pulse.keeps_set _ _ ho ⟨h.pulse2, h.out1⟩)
  · exact Nes.keeps_triangle (Triangle.keeps_set _ _ ho ⟨h.triangle, h.out2⟩)
  · exact Nes.keeps_noise (Noise.keeps_set _ _ ho ⟨h.noise, h.out3⟩)
  · exact Nes.keeps_dmc (Dmc.keeps_set _ _ ho ⟨h.dmc, h.out4⟩)
  · exact .refl x

end Sys2Proof.Machine
end

section
/-! PROOFS. The AY with the beeper, and the POKEY: every operation keeps the voices in step with what they reported, and sends
exactly what the levels change by (R470 to R514). -/

namespace Sys2Proof.Machine

/-! ### The AY -/

/-- What the three tones and the beeper last reported to a channel. -/
def Ay.on (ch : Channel) (c : Ay) : Int := c.toneA.out.on ch + c.toneB.out.on ch + c.toneC.out.on ch + c.beeper.on ch

/-- The registers and the envelope step are in their ranges (R51, R471). -/
structure AyRanges (c : Ay) : Prop where
  registers : c.regs.length = 16
  kept : ∀ r < 16, c.reg r &&& ayMask r = c.reg r
  envStep : c.envStep ≤ 31

theorem AyInv.ranges {p : AyConsts} {c : Ay} (i : AyInv p c) : AyRanges c := ⟨i.registers, i.kept, i.envStep⟩

/-- The AY changes without a report, and its beeper not at all. -/
structure AySilent (c d : Ay) : Prop where
  outA : d.toneA.out = c.toneA.out
  outB : d.toneB.out = c.toneB.out
  outC : d.toneC.out = c.toneC.out
  beeper : d.beeper = c.beeper
  beeperBit : d.beeperBit = c.beeperBit
  ranges : AyRanges c → AyRanges d

theorem AySilent.refl (c : Ay) : AySilent c c := ⟨rfl, rfl, rfl, rfl, rfl, id⟩

theorem AySilent.trans {c d e : Ay} (h : AySilent c d) (g : AySilent d e) : AySilent c e :=
  ⟨g.outA.trans h.outA, g.outB.trans h.outB, g.outC.trans h.outC, g.beeper.trans h.beeper,
    g.beeperBit.trans h.beeperBit, g.ranges ∘ h.ranges⟩

/-- After a silent change and a report of the three tones, all voices are in step. -/
theorem Ay.keeps_emitAll (p : AyConsts) {c d : Ay} (h : AySilent c d) (t : Int) (k : List SinkCall) :
    Keeps (AyInv p) Ay.on (c, k) (Ay.emitAll p t (d, k)) where
  inv i :=
    have r := h.ranges i.ranges
    { registers := r.registers
      kept := r.kept
      envStep := r.envStep
      out0 := emit_inStep (h.outA ▸ i.out0.own) t (d.amp p 0 d.toneA.phase) _
      out1 := emit_inStep (h.outB ▸ i.out1.own) t (d.amp p 1 d.toneB.phase) _
      out2 := emit_inStep (h.outC ▸ i.out2.own) t (d.amp p 2 d.toneC.phase) _
      out3 := by
        have e : d.beeperAmp p = c.beeperAmp p := by rw [Ay.beeperAmp, h.beeperBit]; rfl
        show voiceInStep .ay 3 (d.beeperAmp p) d.beeper
        rw [e, h.beeper]
        exact i.out3 }
  owed ch := by
    have ha := emit_owed ch t (d.amp p 0 d.toneA.phase) d.toneA.out k
    have hb := emit_owed ch t (d.amp p 1 d.toneB.phase) d.toneB.out
      (VoiceOut.emit t (d.amp p 0 d.toneA.phase) d.toneA.out k).2
    have hc := emit_owed ch t (d.amp p 2 d.toneC.phase) d.toneC.out
      (VoiceOut.emit t (d.amp p 1 d.toneB.phase) d.toneB.out
        (VoiceOut.emit t (d.amp p 0 d.toneA.phase) d.toneA.out k).2).2
    simp only [Ay.on, Ay.emitAll, h.outA, h.outB, h.outC, h.beeper] at ha hb hc ⊢
    omega

theorem Ay.elapse_silent (n : Nat) (c : Ay) : AySilent c (c.elapse n) :=
  ⟨rfl, rfl, rfl, rfl, rfl, fun r => ⟨r.registers, r.kept, r.envStep⟩⟩

/-- The passing of time alone changes no amplitude. -/
theorem Ay.keeps_elapse (p : AyConsts) (n : Nat) (x : Ay × List SinkCall) :
    Keeps (AyInv p) Ay.on x (x.1.elapse n, x.2) where
  inv i := ⟨i.registers, i.kept, i.envStep, i.out0, i.out1, i.out2, i.out3⟩
  owed _ := rfl

theorem AyTone.due_out (reload : Nat) (v : AyTone) : (v.due reload).out = v.out := by
  unfold AyTone.due
  split <;> rfl

theorem Ay.noiseDue_silent (p : AyConsts) (c : Ay) : AySilent c (c.noiseDue p) := by
  unfold Ay.noiseDue
  split
  · exact ⟨rfl, rfl, rfl, rfl, rfl, fun r => ⟨r.registers, r.kept, r.envStep⟩⟩
  · exact .refl c

/-- The envelope step counts to 31 and starts again (R478). -/
theorem Ay.envTick_silent (c : Ay) : AySilent c c.envTick := by
  have h (n : Nat) (b : Bool) (hn : c.envStep ≤ 31 → n ≤ 31) : AySilent c { c with envStep := n, envHold := b } :=
    ⟨rfl, rfl, rfl, rfl, rfl, fun r => ⟨r.registers, r.kept, hn r.envStep⟩⟩
  unfold Ay.envTick
  split
  · exact .refl c
  · extract_lets s
    split
    · rename_i hs
      split
      · exact h s true fun _ => by omega
      · split
        · exact h 0 c.envHold fun _ => Nat.zero_le _
        · exact h s c.envHold fun _ => by omega
    · split
      · exact h 0 c.envHold fun _ => Nat.zero_le _
      · exact h s c.envHold fun _ => by omega

theorem Ay.envDue_silent (p : AyConsts) (c : Ay) : AySilent c (c.envDue p) := by
  unfold Ay.envDue
  split
  · exact c.envTick_silent.trans ⟨rfl, rfl, rfl, rfl, rfl, fun r => ⟨r.registers, r.kept, r.envStep⟩⟩
  · exact .refl c

theorem Ay.due_silent (p : AyConsts) (c : Ay) : AySilent c (c.due p) := by
  have h : AySilent c { c with
      toneA := c.toneA.due (c.toneReload p 0)
      toneB := c.toneB.due (c.toneReload p 1)
      toneC := c.toneC.due (c.toneReload p 2) } :=
    ⟨AyTone.due_out .., AyTone.due_out .., AyTone.due_out .., rfl, rfl, fun r => ⟨r.registers, r.kept, r.envStep⟩⟩
  exact (h.trans (Ay.noiseDue_silent p _)).trans (Ay.envDue_silent p _)

theorem Ay.keeps_runLoop (p : AyConsts) (t : Int) (fuel : Nat) (x : Ay × List SinkCall) :
    Keeps (AyInv p) Ay.on x (Ay.runLoop p t fuel x) := by
  induction fuel generalizing x with
  | zero => exact .refl x
  | succ fuel ih =>
    unfold Ay.runLoop
    extract_lets d
    split
    · exact .refl x
    · exact (Ay.keeps_emitAll p ((Ay.elapse_silent d x.1).trans (Ay.due_silent p _)) _ x.2).trans (ih _)

theorem Ay.keeps_runUntil (p : AyConsts) (t : Int) (x : Ay × List SinkCall) :
    Keeps (AyInv p) Ay.on x (Ay.runUntil p t x) :=
  (Ay.keeps_runLoop p t _ x).trans (Ay.keeps_elapse p _ _)

/-- A register after a write of another or of itself (R471). -/
theorem Ay.reg_set (c : Ay) (hc : c.regs.length = 16) (r : Nat) (v : Byte) {q : Nat} (hq : q < 16) :
    ({ c with regs := c.regs.set r v } : Ay).reg q = if r = q then v else c.reg q := by
  simp only [Ay.reg, List.getD_eq_getElem?_getD, List.getElem?_set]
  split
  · rename_i h
    rw [if_pos (by omega)]
    rfl
  · rfl

theorem Ay.store_silent (p : AyConsts) (r : Nat) (v : Byte) (c : Ay) : AySilent c (c.store p r v) := by
  unfold Ay.store
  extract_lets d
  have h : AySilent c d := by
    refine ⟨rfl, rfl, rfl, rfl, rfl, fun i => ⟨(List.length_set ..).trans i.registers, fun q hq => ?_, i.envStep⟩⟩
    rw [Ay.reg_set c i.registers r _ hq]
    split
    · rename_i e; rw [← e, BitVec.and_assoc, BitVec.and_self]
    · exact i.kept q hq
  split
  · exact h.trans ⟨rfl, rfl, rfl, rfl, rfl, fun i => ⟨i.registers, i.kept, Nat.zero_le _⟩⟩
  · exact h

/-- The beeper's bit, and its report (R491). -/
theorem Ay.keeps_beeper (p : AyConsts) (b : Bool) (t : Int) (x : Ay × List SinkCall) :
    Keeps (AyInv p) Ay.on x
      ({ x.1 with
          beeperBit := b
          beeper := (VoiceOut.emit t (({ x.1 with beeperBit := b } : Ay).beeperAmp p) x.1.beeper x.2).1 },
        (VoiceOut.emit t (({ x.1 with beeperBit := b } : Ay).beeperAmp p) x.1.beeper x.2).2) where
  inv i := ⟨i.registers, i.kept, i.envStep, i.out0, i.out1, i.out2, emit_inStep i.out3.own ..⟩
  owed ch := by
    have := emit_owed ch t (({ x.1 with beeperBit := b } : Ay).beeperAmp p) x.1.beeper x.2
    simp only [Ay.on] at this ⊢
    omega

theorem Ay.keeps_setOutput (p : AyConsts) {voice : Nat} {o : Option Channel}
    (ho : o = none ∨ o = some ⟨.ay, voice⟩) {x : Ay × List SinkCall} (h : AyInv p x.1) :
    Keeps (AyInv p) Ay.on x (Ay.setOutput p voice o x) := by
  simp only [Ay.setOutput]
  split
  all_goals refine ⟨fun i => ?_, fun ch => ?_⟩
  · exact ⟨i.registers, i.kept, i.envStep, set_inStep ho .., i.out1, i.out2, i.out3⟩
  · have := set_owed ho h.out0.own ch x.1.lastTime (x.1.amp p 0 x.1.toneA.phase) x.2
    simp only [Ay.on] at this ⊢
    omega
  · exact ⟨i.registers, i.kept, i.envStep, i.out0, set_inStep ho .., i.out2, i.out3⟩
  · have := set_owed ho h.out1.own ch x.1.lastTime (x.1.amp p 1 x.1.toneB.phase) x.2
    simp only [Ay.on] at this ⊢
    omega
  · exact ⟨i.registers, i.kept, i.envStep, i.out0, i.out1, set_inStep ho .., i.out3⟩
  · have := set_owed ho h.out2.own ch x.1.lastTime (x.1.amp p 2 x.1.toneC.phase) x.2
    simp only [Ay.on] at this ⊢
    omega
  · exact ⟨i.registers, i.kept, i.envStep, i.out0, i.out1, i.out2, set_inStep ho ..⟩
  · have := set_owed ho h.out3.own ch x.1.lastTime (x.1.beeperAmp p) x.2
    simp only [Ay.on] at this ⊢
    omega
  · exact i
  · rfl

/-! ### The POKEY -/

/-- What the four channels last reported to a channel of the sink. -/
def Pokey.on (ch : Channel) (c : Pokey) : Int := c.ch1.out.on ch + c.ch2.out.on ch + c.ch3.out.on ch + c.ch4.out.on ch

/-- The POKEY changes without a report. -/
structure PokeySilent (c d : Pokey) : Prop where
  out1 : d.ch1.out = c.ch1.out := by rfl
  out2 : d.ch2.out = c.ch2.out := by rfl
  out3 : d.ch3.out = c.ch3.out := by rfl
  out4 : d.ch4.out = c.ch4.out := by rfl

theorem PokeySilent.trans {c d e : Pokey} (h : PokeySilent c d) (g : PokeySilent d e) : PokeySilent c e :=
  ⟨g.out1.trans h.out1, g.out2.trans h.out2, g.out3.trans h.out3, g.out4.trans h.out4⟩

/-- After a silent change and a report of the four channels, all are in step. -/
theorem Pokey.keeps_emitAll {c d : Pokey} (h : PokeySilent c d) (t : Int) (k : List SinkCall) :
    Keeps PokeyInv Pokey.on (c, k) (Pokey.emitAll t (d, k)) where
  inv i :=
    { out0 := emit_inStep (h.out1 ▸ i.out0.own) t d.amp1 _
      out1 := emit_inStep (h.out2 ▸ i.out1.own) t d.amp2 _
      out2 := emit_inStep (h.out3 ▸ i.out2.own) t d.amp3 _
      out3 := emit_inStep (h.out4 ▸ i.out3.own) t d.amp4 _ }
  owed ch := by
    simp only [Pokey.emitAll]
    generalize e1 : VoiceOut.emit t d.amp1 d.ch1.out k = o1
    generalize e2 : VoiceOut.emit t d.amp2 d.ch2.out o1.2 = o2
    generalize e3 : VoiceOut.emit t d.amp3 d.ch3.out o2.2 = o3
    generalize e4 : VoiceOut.emit t d.amp4 d.ch4.out o3.2 = o4
    have h1 := emit_owed ch t d.amp1 d.ch1.out k
    have h2 := emit_owed ch t d.amp2 d.ch2.out o1.2
    have h3 := emit_owed ch t d.amp3 d.ch3.out o2.2
    have h4 := emit_owed ch t d.amp4 d.ch4.out o3.2
    rw [e1, h.out1] at h1
    rw [e2, h.out2] at h2
    rw [e3, h.out3] at h3
    rw [e4, h.out4] at h4
    simp only [Pokey.on]
    omega

theorem Pokey.due1_silent (p : PokeyConsts) (c : Pokey) : PokeySilent c (c.due1 p) := by
  unfold Pokey.due1; split <;> exact {}

theorem Pokey.due2_silent (p : PokeyConsts) (c : Pokey) : PokeySilent c (c.due2 p) := by
  unfold Pokey.due2; split <;> exact {}

theorem Pokey.due3_silent (p : PokeyConsts) (c : Pokey) : PokeySilent c (c.due3 p) := by
  unfold Pokey.due3; split <;> exact {}

theorem Pokey.due4_silent (p : PokeyConsts) (c : Pokey) : PokeySilent c (c.due4 p) := by
  unfold Pokey.due4; split <;> exact {}

theorem Pokey.elapse_silent (n : Nat) (c : Pokey) : PokeySilent c (c.elapse n) := {}

theorem Pokey.store_silent (p : PokeyConsts) (r : Nat) (v : Byte) (c : Pokey) : PokeySilent c (c.store p r v) := by
  unfold Pokey.store; split <;> exact {}

theorem Pokey.keeps_runLoop (p : PokeyConsts) (t : Int) (fuel : Nat) (x : Pokey × List SinkCall) :
    Keeps PokeyInv Pokey.on x (Pokey.runLoop p t fuel x) := by
  induction fuel generalizing x with
  | zero => exact .refl x
  | succ fuel ih =>
    unfold Pokey.runLoop
    extract_lets d c
    split
    · exact .refl x
    · have h : PokeySilent x.1 c :=
        ((((x.1.elapse_silent d).trans (Pokey.due1_silent p _)).trans (Pokey.due2_silent p _)).trans
          (Pokey.due3_silent p _)).trans (Pokey.due4_silent p _)
      exact (Pokey.keeps_emitAll h _ x.2).trans (ih _)

theorem Pokey.keeps_runUntil (p : PokeyConsts) (t : Int) (x : Pokey × List SinkCall) :
    Keeps PokeyInv Pokey.on x (Pokey.runUntil p t x) :=
  (Pokey.keeps_runLoop p t _ x).trans ⟨fun i => ⟨i.out0, i.out1, i.out2, i.out3⟩, fun _ => rfl⟩

theorem Pokey.keeps_setOutput {voice : Nat} {o : Option Channel} (ho : o = none ∨ o = some ⟨.pokey, voice⟩)
    {x : Pokey × List SinkCall} (h : PokeyInv x.1) : Keeps PokeyInv Pokey.on x (Pokey.setOutput voice o x) := by
  simp only [Pokey.setOutput]
  split
  all_goals refine ⟨fun i => ?_, fun ch => ?_⟩
  · exact ⟨set_inStep ho .., i.out1, i.out2, i.out3⟩
  · have := set_owed ho h.out0.own ch x.1.lastTime x.1.amp1 x.2
    simp only [Pokey.on] at this ⊢
    omega
  · exact ⟨i.out0, set_inStep ho .., i.out2, i.out3⟩
  · have := set_owed ho h.out1.own ch x.1.lastTime x.1.amp2 x.2
    simp only [Pokey.on] at this ⊢
    omega
  · exact ⟨i.out0, i.out1, set_inStep ho .., i.out3⟩
  · have := set_owed ho h.out2.own ch x.1.lastTime x.1.amp3 x.2
    simp only [Pokey.on] at this ⊢
    omega
  · exact ⟨i.out0, i.out1, i.out2, set_inStep ho ..⟩
  · have := set_owed ho h.out3.own ch x.1.lastTime x.1.amp4 x.2
    simp only [Pokey.on] at this ⊢
    omega
  · exact i
  · rfl

end Sys2Proof.Machine
end

section
/-! PROOFS. Every step keeps the invariant of the chips (O46), and on every channel the deltas sent are the change of the
levels last reported (O47). -/

namespace Sys2Proof.Machine

/-! ### One act, on the whole machine -/

/-- An act keeps the invariant of the chips, and on every channel it sends what the levels last reported change by. -/
structure ChipKeeps (s t : State) : Prop where
  inv : ChipInv s → ChipInv t
  owed : ∀ ch, sinkSum ch t.sink - reported ch t = sinkSum ch s.sink - reported ch s

theorem ChipKeeps.refl (s : State) : ChipKeeps s s := ⟨id, fun _ => rfl⟩

theorem ChipKeeps.trans {s t u : State} (h : ChipKeeps s t) (g : ChipKeeps t u) : ChipKeeps s u :=
  ⟨g.inv ∘ h.inv, fun ch => (g.owed ch).trans (h.owed ch)⟩

/-- What was reported to a channel, chip by chip. -/
theorem reported_eq (ch : Channel) (s : State) : reported ch s = s.nes.on ch + s.ay.on ch + s.pokey.on ch := by
  simp only [reported, Nes.on, Pulse.on, Triangle.on, Noise.on, Dmc.on, Ay.on, Pokey.on]
  omega

/-- The chips, the AY's constants and the sink are all that counts. -/
theorem ChipKeeps.of_eq {s t : State} (hc : t.cfg = s.cfg) (hn : t.nes = s.nes) (ha : t.ay = s.ay)
    (hp : t.pokey = s.pokey) (hk : t.sink = s.sink) : ChipKeeps s t where
  inv i := ⟨by rw [hn]; exact i.nes, by rw [hc, ha]; exact i.ay, by rw [hp]; exact i.pokey⟩
  owed ch := by rw [reported_eq, reported_eq, hn, ha, hp, hk]

theorem chipKeeps_nes {s : State} {n : Nes} {k : List SinkCall} (h : Keeps NesInv Nes.on (s.nes, s.sink) (n, k)) :
    ChipKeeps s { s with nes := n, sink := k } where
  inv i := ⟨h.inv i.nes, i.ay, i.pokey⟩
  owed ch := by
    have := h.owed ch
    simp only [reported_eq] at this ⊢
    omega

theorem chipKeeps_ay {s : State} {c : Ay} {k : List SinkCall}
    (h : Keeps (AyInv s.cfg.ayConsts) Ay.on (s.ay, s.sink) (c, k)) : ChipKeeps s { s with ay := c, sink := k } where
  inv i := ⟨i.nes, h.inv i.ay, i.pokey⟩
  owed ch := by
    have := h.owed ch
    simp only [reported_eq] at this ⊢
    omega

theorem chipKeeps_pokey {s : State} {c : Pokey} {k : List SinkCall}
    (h : Keeps PokeyInv Pokey.on (s.pokey, s.sink) (c, k)) : ChipKeeps s { s with pokey := c, sink := k } where
  inv i := ⟨i.nes, i.ay, h.inv i.pokey⟩
  owed ch := by
    have := h.owed ch
    simp only [reported_eq] at this ⊢
    omega

theorem chipKeeps_warn (text : String) (s : State) : ChipKeeps s (warn text s) := .of_eq rfl rfl rfl rfl rfl

/-- A late call keeps what its operation keeps (U9, R571). -/
theorem chipKeeps_lateCall {act : State → State} {s : State} (h : ChipKeeps s (act s)) : ChipKeeps s (lateCall act s) := by
  unfold lateCall
  split
  · exact h.trans (chipKeeps_warn _ _)
  · exact chipKeeps_warn _ _

/-! ### The operations of the chips -/

theorem chipKeeps_nesAdvance (t : Int) (s : State) : ChipKeeps s (nesAdvance t s) :=
  chipKeeps_nes (Nes.keeps_runUntil ..)

theorem chipKeeps_nesStore (t : Int) (a : Word) (v : Byte) (s : State) : ChipKeeps s (nesStore t a v s) :=
  chipKeeps_nes (Nes.keeps_applyWrite ..)

theorem chipKeeps_nesWrite (t : Int) (a : Word) (v : Byte) (s : State) : ChipKeeps s (nesWrite t a v s) := by
  unfold nesWrite
  split
  · exact chipKeeps_lateCall (chipKeeps_nesStore ..)
  · exact (chipKeeps_nesAdvance t s).trans (chipKeeps_nesStore ..)

theorem chipKeeps_nesStatusRead (s : State) : ChipKeeps s (nesStatusRead s).2 :=
  chipKeeps_nes (Nes.keeps_of_voices s.sink rfl rfl rfl rfl rfl id)

theorem chipKeeps_nesReadStatus (t : Int) (s : State) : ChipKeeps s (nesReadStatus t s).2 := by
  unfold nesReadStatus
  split
  · split
    · exact (chipKeeps_warn _ s).trans (chipKeeps_nesStatusRead _)
    · exact .of_eq rfl rfl rfl rfl rfl
  · exact (chipKeeps_nesAdvance t s).trans (chipKeeps_nesStatusRead _)

theorem chipKeeps_ayAdvance (t : Int) (s : State) : ChipKeeps s (ayAdvance t s) :=
  chipKeeps_ay (Ay.keeps_runUntil ..)

theorem chipKeeps_ayStore (t : Int) (r : Nat) (v : Byte) (s : State) : ChipKeeps s (ayStore t r v s) :=
  chipKeeps_ay (Ay.keeps_emitAll _ (Ay.store_silent ..) t s.sink)

theorem chipKeeps_ayWrite (t : Int) (r : Nat) (v : Byte) (s : State) : ChipKeeps s (ayWrite t r v s) := by
  unfold ayWrite
  split
  · exact .refl s
  · split
    · exact chipKeeps_lateCall (chipKeeps_ayStore ..)
    · exact (chipKeeps_ayAdvance t s).trans (chipKeeps_ayStore ..)

theorem chipKeeps_ayBeeper (t : Int) (v : Byte) (s : State) : ChipKeeps s (ayBeeper t v s) :=
  chipKeeps_ay (Ay.keeps_beeper s.cfg.ayConsts (bit v 4) t (s.ay, s.sink))

/-- The AY changes where no voice hears it: its mode, its latches. -/
theorem chipKeeps_ayUnheard (s : State) (m : AyMode) (l : BitVec 4) (b : Byte) :
    ChipKeeps s { s with ay := { s.ay with mode := m, addrLatch := l, cpcLatch := b } } :=
  chipKeeps_ay (k := s.sink)
    ⟨fun i => ⟨i.registers, i.kept, i.envStep, i.out0, i.out1, i.out2, i.out3⟩, fun _ => rfl⟩

theorem chipKeeps_aySetMode (m : AyMode) (s : State) : ChipKeeps s (aySetMode m s) := chipKeeps_ayUnheard s m _ _

theorem chipKeeps_ayLatch (v : Byte) (s : State) : ChipKeeps s (ayLatch v s) := chipKeeps_ayUnheard s _ _ _

theorem chipKeeps_ayPortCpc (t : Int) (port : Word) (v : Byte) (s : State) : ChipKeeps s (ayPortCpc t port v s) := by
  have hm : ChipKeeps s (aySetMode .cpc s) := chipKeeps_aySetMode _ s
  simp only [ayPortCpc]
  split
  · split
    · exact hm.trans (chipKeeps_ayLatch ..)
    · split
      · exact hm.trans (chipKeeps_ayWrite ..)
      · exact hm
  · split
    · exact chipKeeps_ayUnheard s .cpc _ v
    · exact .refl s

theorem chipKeeps_ayPortWrite (t : Int) (port : Word) (v : Byte) (s : State) : ChipKeeps s (ayPortWrite t port v s) := by
  have hm : ChipKeeps s (aySetMode .spectrum s) := chipKeeps_aySetMode _ s
  unfold ayPortWrite
  split
  · exact hm.trans (chipKeeps_ayBeeper ..)
  · split
    · exact hm.trans (chipKeeps_ayLatch ..)
    · split
      · exact hm.trans (chipKeeps_ayWrite ..)
      · split
        · exact chipKeeps_ayPortCpc ..
        · exact .refl s

theorem chipKeeps_pokeyAdvance (t : Int) (s : State) : ChipKeeps s (pokeyAdvance t s) :=
  chipKeeps_pokey (Pokey.keeps_runUntil ..)

theorem chipKeeps_pokeyStore (t : Int) (r : Nat) (v : Byte) (s : State) : ChipKeeps s (pokeyStore t r v s) :=
  chipKeeps_pokey (Pokey.keeps_emitAll (Pokey.store_silent ..) t s.sink)

theorem chipKeeps_pokeyWrite (t : Int) (a : Word) (v : Byte) (s : State) : ChipKeeps s (pokeyWrite t a v s) := by
  unfold pokeyWrite
  split
  · exact .refl s
  · split
    · exact chipKeeps_lateCall (chipKeeps_pokeyStore ..)
    · exact (chipKeeps_pokeyAdvance t s).trans (chipKeeps_pokeyStore ..)

/-! ### The ends of frames (R454, R488, R512) -/

theorem chipKeeps_nesEndFrame (t : Int) (s : State) : ChipKeeps s (nesEndFrame t s) := by
  have h (u : State) : ChipKeeps u { u with nes := { u.nes with lastTime := u.nes.lastTime - t } } :=
    chipKeeps_nes (Nes.keeps_of_voices u.sink rfl rfl rfl rfl rfl id)
  simp only [nesEndFrame]
  split
  · exact (chipKeeps_nesAdvance t s).trans (h _)
  · exact h s

theorem chipKeeps_ayEndFrame (t : Int) (s : State) : ChipKeeps s (ayEndFrame t s) := by
  have h (u : State) : ChipKeeps u { u with ay := { u.ay with lastTime := u.ay.lastTime - t } } :=
    chipKeeps_ay (k := u.sink)
      ⟨fun i => ⟨i.registers, i.kept, i.envStep, i.out0, i.out1, i.out2, i.out3⟩, fun _ => rfl⟩
  simp only [ayEndFrame]
  split
  · exact (chipKeeps_ayAdvance t s).trans (h _)
  · exact h s

theorem chipKeeps_pokeyEndFrame (t : Int) (s : State) : ChipKeeps s (pokeyEndFrame t s) := by
  have h (u : State) : ChipKeeps u { u with pokey := { u.pokey with lastTime := u.pokey.lastTime - t } } :=
    chipKeeps_pokey (k := u.sink) ⟨fun i => ⟨i.out0, i.out1, i.out2, i.out3⟩, fun _ => rfl⟩
  simp only [pokeyEndFrame]
  split
  · exact (chipKeeps_pokeyAdvance t s).trans (h _)
  · exact h s

/-! ### Acts of the CPU core and of the driver -/

theorem chipKeeps_runCallback (c : Callback) (s : State) : ChipKeeps s (runCallback c s) := by
  rw [runCallback_frame]; exact .of_eq rfl rfl rfl rfl rfl

theorem chipKeeps_memRead (a : Word) (s : State) : ChipKeeps s (memRead a s).2 := by
  unfold memRead
  split
  · exact chipKeeps_nesReadStatus ..
  · exact chipKeeps_runCallback ..
  · exact .refl s

theorem chipKeeps_locWrite (l : PageEntry) (v : Byte) (s : State) : ChipKeeps s (locWrite s l v) := by
  rw [locWrite_frame]; exact .of_eq rfl rfl rfl rfl rfl

theorem chipKeeps_memWrite (a : Word) (v : Byte) (s : State) : ChipKeeps s (memWrite a v s) := by
  unfold memWrite
  split
  · exact chipKeeps_nesWrite ..
  · exact (chipKeeps_pokeyWrite ..).trans (chipKeeps_locWrite ..)
  · rw [bankSelect_frame]; exact .of_eq rfl rfl rfl rfl rfl
  · exact chipKeeps_runCallback ..
  · exact chipKeeps_locWrite ..

theorem chipKeeps_portIn (p : Word) (s : State) : ChipKeeps s (portIn p s).2 := by
  rw [portIn_frame]; exact .of_eq rfl rfl rfl rfl rfl

theorem chipKeeps_portOut (p : Word) (v : Byte) (s : State) : ChipKeeps s (portOut p v s) := by
  unfold portOut
  split
  · exact chipKeeps_ayPortWrite ..
  · exact chipKeeps_runCallback ..
  · exact .refl s

theorem CpuAct.chipKeeps {fam : Family} {s t : State} (a : CpuAct fam s t) : ChipKeeps s t := by
  cases a with
  | mRegs => exact .of_eq rfl rfl rfl rfl rfl
  | zRegs => exact .of_eq rfl rfl rfl rfl rfl
  | read a => exact chipKeeps_memRead a s
  | write a v => exact chipKeeps_memWrite a v s
  | portIn p => exact chipKeeps_portIn p s
  | portOut p v => exact chipKeeps_portOut p v s

theorem DriverAct.chipKeeps {s t : State} (a : DriverAct s t) : ChipKeeps s t := by
  cases a with
  | quiet q => exact .of_eq q.cfg q.nes q.ay q.pokey q.sink
  | cpu a => exact a.chipKeeps
  | chipEndFrame n c =>
    cases c with
    | nesApu => exact chipKeeps_nesEndFrame n s
    | ay => exact chipKeeps_ayEndFrame n s
    | pokey => exact chipKeeps_pokeyEndFrame n s
  | sinkEndFrame n => exact ⟨fun i => ⟨i.nes, i.ay, i.pokey⟩, fun _ => rfl⟩

theorem DriverActs.chipKeeps {s t : State} (a : DriverActs s t) : ChipKeeps s t := by
  induction a with
  | refl => exact .refl s
  | tail _ a ih => exact ih.trans a.chipKeeps

/-! ### Acts of the host -/

/-- Attaching a voice to its own channel keeps what was sent and what was reported together where it reported to its own
channel before (R455). -/
theorem chipKeeps_setOutput {s : State} (i : ChipInv s) {c : Chip} {voice : Nat} {o : Option Channel}
    (ho : o = none ∨ o = some ⟨c, voice⟩) : ChipKeeps s (chipSetOutput c voice o s) := by
  cases c with
  | nesApu => exact chipKeeps_nes (Nes.keeps_setOutput ho i.nes)
  | ay => exact chipKeeps_ay (Ay.keeps_setOutput _ ho i.ay)
  | pokey => exact chipKeeps_pokey (Pokey.keeps_setOutput ho i.pokey)

theorem HostAct.chipKeeps {s t : State} (i : ChipInv s) (a : HostAct s t) : ChipKeeps s t := by
  cases a with
  | driver a => exact a.chipKeeps
  | map c => rw [applyMap_frame]; exact .of_eq rfl rfl rfl rfl rfl
  | ayWrite t r v => exact chipKeeps_ayWrite t r v s
  | setOutput c voice ho => exact chipKeeps_setOutput i ho
  | reset fill => exact .of_eq rfl rfl rfl rfl rfl
  | freshMemory fill rs => exact .of_eq rfl rfl rfl rfl rfl
  | backed a => rw [ensureBacked_frame]; exact .of_eq rfl rfl rfl rfl rfl
  | poke a v => exact chipKeeps_locWrite _ v s

theorem HostActs.chipKeeps {s t : State} (i : ChipInv s) (a : HostActs s t) : ChipKeeps s t := by
  induction a with
  | refl => exact .refl s
  | tail _ a ih => exact ih.trans (a.chipKeeps (ih.inv i))

theorem HostAct.cfg {s t : State} (a : HostAct s t) : t.cfg = s.cfg := by
  cases a with
  | driver a =>
    cases a with
    | quiet q => exact q.cfg
    | cpu a => rw [a.frame]
    | chipEndFrame n c => rw [chipEndFrame_frame]
    | sinkEndFrame n => rfl
  | map c => rw [applyMap_frame]
  | ayWrite t r v => rw [ayWrite_frame]
  | setOutput c voice ho => rw [chipSetOutput_frame]
  | reset fill => rfl
  | freshMemory fill rs => rfl
  | backed a => rw [ensureBacked_frame]
  | poke a v => rw [Machine.poke, locWrite_frame]

theorem HostActs.cfg {s t : State} (a : HostActs s t) : t.cfg = s.cfg := by
  induction a with
  | refl => rfl
  | tail _ a ih => exact a.cfg.trans ih

/-! ### The reset of the chips where a track starts (R66, R531) -/

theorem chipReset_chipInv {s : State} (i : ChipInv s) (c : Chip) : ChipInv (chipReset c s) := by
  cases c with
  | nesApu => exact ⟨nesReset_inv _, i.ay, i.pokey⟩
  | ay => exact ⟨i.nes, ayReset_inv _, i.pokey⟩
  | pokey => exact ⟨i.nes, i.ay, pokeyReset_inv⟩

theorem chipsReset_chipInv {s : State} (i : ChipInv s) : ChipInv (chipsReset s) :=
  List.foldlRecOn s.cfg.chips _ (motive := ChipInv) i fun _ hu c _ => chipReset_chipInv hu c

/-- A chip has reported nothing that counts on a channel of another chip. -/
theorem on_eq_zero {c : Chip} {n : Nat} {v : VoiceOut} (h : reportsToOwn c n v) {ch : Channel} (hc : ch.chip ≠ c) :
    v.on ch = 0 := by
  unfold VoiceOut.on
  rcases h with h | h
  · rw [h]; rfl
  · rw [h]
    refine if_neg fun e => hc ?_
    injection e with e
    rw [← e]

theorem nes_on_eq_zero {n : Nes} (i : NesInv n) {ch : Channel} (hc : ch.chip ≠ .nesApu) : n.on ch = 0 := by
  simp only [Nes.on, Pulse.on, Triangle.on, Noise.on, Dmc.on, on_eq_zero i.out0.own hc, on_eq_zero i.out1.own hc,
    on_eq_zero i.out2.own hc, on_eq_zero i.out3.own hc, on_eq_zero i.out4.own hc, Int.add_zero]

theorem ay_on_eq_zero {p : AyConsts} {c : Ay} (i : AyInv p c) {ch : Channel} (hc : ch.chip ≠ .ay) : c.on ch = 0 := by
  simp only [Ay.on, on_eq_zero i.out0.own hc, on_eq_zero i.out1.own hc, on_eq_zero i.out2.own hc,
    on_eq_zero i.out3.own hc, Int.add_zero]

theorem pokey_on_eq_zero {c : Pokey} (i : PokeyInv c) {ch : Channel} (hc : ch.chip ≠ .pokey) : c.on ch = 0 := by
  simp only [Pokey.on, on_eq_zero i.out0.own hc, on_eq_zero i.out1.own hc, on_eq_zero i.out2.own hc,
    on_eq_zero i.out3.own hc, Int.add_zero]

/-- What the voices of one chip last reported to a channel. -/
def chipOn (ch : Channel) (s : State) : Chip → Int
  | .nesApu => s.nes.on ch
  | .ay => s.ay.on ch
  | .pokey => s.pokey.on ch

/-- Only the chip a channel belongs to reports to it. -/
theorem reported_eq_chipOn {s : State} (i : ChipInv s) (ch : Channel) : reported ch s = chipOn ch s ch.chip := by
  rw [reported_eq]
  cases h : ch.chip with
  | nesApu => rw [ay_on_eq_zero i.ay (by simp [h]), pokey_on_eq_zero i.pokey (by simp [h])]; simp [chipOn]
  | ay => rw [nes_on_eq_zero i.nes (by simp [h]), pokey_on_eq_zero i.pokey (by simp [h])]; simp [chipOn]
  | pokey => rw [nes_on_eq_zero i.nes (by simp [h]), ay_on_eq_zero i.ay (by simp [h])]; simp [chipOn]

theorem chipOn_chipReset (ch : Channel) (c d : Chip) (s : State) :
    chipOn ch (chipReset c s) d = if c = d then 0 else chipOn ch s d := by
  cases c <;> cases d <;> rfl

/-- After the reset of the chips nothing is reported on a channel of one of them. -/
theorem chipOn_chipsReset {s : State} {c : Chip} (ch : Channel) (hc : c ∈ s.cfg.chips) : chipOn ch (chipsReset s) c = 0 := by
  have fold (l : List Chip) (u : State) (h : c ∈ l ∨ chipOn ch u c = 0) :
      chipOn ch (l.foldl (fun s c => chipReset c s) u) c = 0 := by
    induction l generalizing u with
    | nil => exact h.resolve_left (by simp)
    | cons d l ih =>
      refine ih _ ?_
      rw [chipOn_chipReset]
      by_cases hd : d = c
      · exact .inr (if_pos hd)
      · rw [if_neg hd]
        exact h.imp_left fun hm => (List.mem_cons.mp hm).resolve_left (Ne.symm hd)
  exact fold _ s (.inl hc)

/-! ### The statements -/

/-- Settles O46: every act of a step keeps the invariant. -/
theorem everyStepKeepsChipInv : Obligations.EveryStepKeepsChipInv := by
  intro s t i hstep
  by_cases hc : s.control = .host
  · rcases step_hostActs hc hstep with ⟨-, a⟩ | ⟨_, _, _, u, -, -, -, a, b⟩
    · exact (a.chipKeeps i).inv i
    · have hu := chipsReset_chipInv ((a.chipKeeps i).inv i)
      exact (b.chipKeeps hu).inv hu
  · exact (step_driverActs hc hstep).chipKeeps.inv i

/-- Settles O47: every act sends what the levels last reported change by; where a track starts, the reset of the chips
leaves nothing reported on their channels. -/
theorem deltasAddUpToWhatWasReported : Obligations.DeltasAddUpToWhatWasReported := by
  refine ⟨fun s t ch hc hstep => ?_, fun s t ch hc i hn hstep => ?_,
    fun s t ch index image cs hc i hcalls hi hchip hstep => ?_⟩
  · exact (step_driverActs hc hstep).chipKeeps.owed ch
  · rcases step_hostActs hc hstep with ⟨-, a⟩ | ⟨index, image, cs, _, hcalls, hi, -⟩
    · exact (a.chipKeeps i).owed ch
    · exact absurd hi (Nat.not_lt.mpr (hn index image cs hcalls))
  · rcases step_hostActs hc hstep with ⟨hn, -⟩ | ⟨_, _, _, u, -, -, hload, a, b⟩
    · exact absurd hi (Nat.not_lt.mpr (hn index image cs hcalls))
    · have iu := (a.chipKeeps i).inv i
      have ir := chipsReset_chipInv iu
      have hzero : reported ch (chipsReset u) = 0 := by
        rw [reported_eq_chipOn ir, chipOn_chipsReset ch (by rw [a.cfg]; exact hchip)]
      have hsink : (chipsReset u).sink = u.sink := by rw [chipsReset_frame]
      rw [(b.chipKeeps ir).owed ch, hzero, hsink, hload, Int.sub_zero]

end Sys2Proof.Machine
end

section
/-! PROOFS. The memory frame of an instruction (O42): every instruction is a sequence of acts that leave memory as it is
and of stores at the addresses `storesTo` lists. -/

namespace Sys2Proof.Machine

/-! ### Reads after a data write (R72 to R74, R81) -/

theorem resolveRead_congr {s t : State} (hc : t.cfg = s.cfg) (hr : t.readPage = s.readPage) (b : Word) :
    resolveRead t b = resolveRead s b := by
  simp only [resolveRead, pageIndex, pageOffset, hc, hr]

theorem resolveWrite_congr {s t : State} (hc : t.cfg = s.cfg) (hw : t.writePage = s.writePage) (a : Word) :
    resolveWrite t a = resolveWrite s a := by
  simp only [resolveWrite, pageIndex, pageOffset, hc, hw]

/-- A data write that no bank handler answers changes at most the byte at its write location. -/
theorem ptRead_memWrite_of_ne {s : State} {a b : Word} (hb : noBank s.cfg a) (h : resolveRead s b ≠ resolveWrite s a)
    (v : Byte) : ptRead (memWrite a v s) b = ptRead s b := by
  have stored (u : State) (hu : resolveRead u b ≠ resolveWrite u a) : ptRead (ptWrite u a v) b = ptRead u b := by
    rw [ptRead_ptWrite, if_neg fun e => hu e.1]
  unfold memWrite
  split
  · rw [nesWrite_frame]; rfl
  · rw [stored _ (by rw [pokeyWrite_frame]; exact h), pokeyWrite_frame]; rfl
  · rename_i w n r k e; exact absurd e (hb w n r k)
  · rw [runCallback_frame]; rfl
  · exact stored s h

/-! ### Acts on memory -/

/-- Every address resolves and reads as before. -/
structure SameMemory (s t : State) : Prop where
  cfg : t.cfg = s.cfg := by rfl
  readPage : t.readPage = s.readPage := by rfl
  writePage : t.writePage = s.writePage := by rfl
  regions : t.regions = s.regions := by rfl
  unmappedWrite : t.unmappedWrite = s.unmappedWrite := by rfl
  unmappedFill : t.unmappedFill = s.unmappedFill := by rfl

theorem SameMemory.ptRead {s t : State} (h : SameMemory s t) (b : Word) : ptRead t b = ptRead s b :=
  ptRead_congr h.cfg h.readPage h.regions h.unmappedWrite h.unmappedFill b

theorem memRead_sameMemory (a : Word) (s : State) : SameMemory s (memRead a s).2 := by rw [memRead_frame]; exact {}

theorem portIn_sameMemory (p : Word) (s : State) : SameMemory s (portIn p s).2 := by rw [portIn_frame]; exact {}

theorem portOut_sameMemory (p : Word) (v : Byte) (s : State) : SameMemory s (portOut p v s) := by
  rw [portOut_frame]; exact {}

/-- What an instruction that stores to the addresses `as` does to memory, one act at a time: nothing, or a data write at
one of them. -/
inductive StoreAct (as : List Word) : State → State → Prop where
  | same {s t : State} (h : SameMemory s t) : StoreAct as s t
  | write {a : Word} (h : a ∈ as) (v : Byte) (s : State) : StoreAct as s (memWrite a v s)

/-- A sequence of acts on memory. -/
abbrev StoreActs (as : List Word) : State → State → Prop := Relation.ReflTransGen (StoreAct as)

section
variable {as : List Word} {s t u : State}

/-! ### What a sequence of acts keeps -/

theorem StoreActs.cfg (h : StoreActs as s t) : t.cfg = s.cfg := by
  induction h with
  | refl => rfl
  | tail _ act ih =>
    refine Eq.trans ?_ ih
    cases act with
    | same q => exact q.cfg
    | write _ v u => exact memWrite_cfg ..

theorem StoreActs.pages (h : StoreActs as s t) (hb : ∀ a ∈ as, noBank s.cfg a) :
    t.readPage = s.readPage ∧ t.writePage = s.writePage := by
  induction h with
  | refl => exact ⟨rfl, rfl⟩
  | tail g act ih =>
    rw [← ih.1, ← ih.2]
    cases act with
    | same q => exact ⟨q.readPage, q.writePage⟩
    | write ha v u => exact memWrite_pages_of_noBank (by rw [StoreActs.cfg g]; exact hb _ ha) v

/-- An address whose read location is the write location of none of the addresses stored to reads as before. -/
theorem StoreActs.ptRead (h : StoreActs as s t) (hb : ∀ a ∈ as, noBank s.cfg a) {b : Word}
    (hne : ∀ a ∈ as, resolveRead s b ≠ resolveWrite s a) : ptRead t b = ptRead s b := by
  induction h with
  | refl => rfl
  | tail g act ih =>
    refine Eq.trans ?_ ih
    cases act with
    | same q => exact q.ptRead b
    | @write a ha v u =>
      have hc := StoreActs.cfg g
      obtain ⟨hr, hw⟩ := StoreActs.pages g hb
      refine ptRead_memWrite_of_ne (by rw [hc]; exact hb a ha) ?_ v
      rw [resolveRead_congr hc hr, resolveWrite_congr hc hw]
      exact hne a ha

/-! ### Extending a sequence by one operation -/

theorem StoreActs.same (h : StoreActs as s t) (q : SameMemory t u) : StoreActs as s u := h.tail (.same q)

/-- Registers, `pc`, the time and the counter of free values are no part of memory. -/
theorem StoreActs.regs (h : StoreActs as s t)
    (e : u = { t with pc := u.pc, time := u.time, m := u.m, z := u.z, draws := u.draws }) : StoreActs as s u := by
  rw [e]; exact h.same {}

theorem StoreActs.read (h : StoreActs as s t) (a : Word) : StoreActs as s (memRead a t).2 :=
  h.same (memRead_sameMemory ..)

theorem StoreActs.read16 (h : StoreActs as s t) (a : Word) : StoreActs as s (memRead16 a t).2 := (h.read _).read _

theorem StoreActs.write (h : StoreActs as s t) {a : Word} (ha : a ∈ as) (v : Byte) : StoreActs as s (memWrite a v t) :=
  h.tail (.write ha v t)

theorem StoreActs.portIn (h : StoreActs as s t) (p : Word) : StoreActs as s (portIn p t).2 :=
  h.same (portIn_sameMemory ..)

theorem StoreActs.portOut (h : StoreActs as s t) (p : Word) (v : Byte) : StoreActs as s (portOut p v t) :=
  h.same (portOut_sameMemory ..)

theorem StoreActs.pull (h : StoreActs as s t) : StoreActs as s (pull t).2 :=
  (h.regs (u := { t with m := { t.m with sp := t.m.sp + 1 } }) rfl).read _

theorem StoreActs.pop16 (h : StoreActs as s t) : StoreActs as s (pop16 t).2 := (((h.read _).regs rfl).read _).regs rfl

theorem StoreActs.push (h : StoreActs as s t) {sp : Byte} (hsp : t.m.sp = sp) (ha : stackAddr sp ∈ as) (v : Byte) :
    StoreActs as s (push v t) :=
  (h.write (hsp ▸ ha) v).regs rfl

theorem StoreActs.push16 (h : StoreActs as s t) (h1 : t.z.sp - 1 ∈ as) (h2 : t.z.sp - 1 - 1 ∈ as) (v : Word) :
    StoreActs as s (push16 v t) := by
  have hhi := (h.regs (u := { t with z := { t.z with sp := t.z.sp - 1 } }) rfl).write h1 (hi8 v)
  refine (hhi.regs rfl).write ?_ _
  rw [memWrite_z]
  exact h2

theorem beginM_storeActs (len c : Nat) (s : State) : StoreActs as s (beginM len c s) := .single (.same {})

theorem beginZ_storeActs (k : Cost) (s : State) : StoreActs as s (beginZ k s) := .single (.same {})

theorem StoreActs.ea (h : StoreActs as s t) (md : MMode) : StoreActs as s (md.ea t).st := by
  cases md with
  | izx b => exact (h.read _).read _
  | izy b => exact (h.read _).read _
  | _ => exact h

theorem StoreActs.ite {p : Prop} [Decidable p] (h : p → StoreActs as s t) (g : ¬ p → StoreActs as s u) :
    StoreActs as s (if p then t else u) := by
  split
  · exact h ‹_›
  · exact g ‹_›

theorem StoreActs.repeats (h : StoreActs as s t) (again : Bool) (s0 : State) : StoreActs as s (zRepeat again s0 t) :=
  .ite (fun _ => h.same {}) (fun _ => h)

end

/-! ### The shapes of the M6502 -/

/-- `BRK` after its three pushes: the flag I is set and the vector is read (R254). -/
theorem StoreActs.throughVector {as : List Word} {s t : State} (h : StoreActs as s t) :
    StoreActs as s
      (let u := { t with m := { t.m with p := { t.m.p with i := true } } }
       { (memRead16 0xFFFE u).2 with pc := (memRead16 0xFFFE u).1 }) :=
  ((h.regs rfl).read16 _).regs rfl

theorem runMBrk_storeActs (c : Nat) (s : State) :
    StoreActs [stackAddr s.m.sp, stackAddr (s.m.sp - 1), stackAddr (s.m.sp - 1 - 1)] s (runMBrk c s) := by
  have h1 : StoreActs [stackAddr s.m.sp, stackAddr (s.m.sp - 1), stackAddr (s.m.sp - 1 - 1)] s (beginM 1 c s) :=
    beginM_storeActs 1 c s
  have h2 := (h1.push rfl (.head _) (hi8 (s.pc + 2))).push (push_m .. ▸ rfl) (.tail _ (.head _)) (lo8 (s.pc + 2))
  exact (h2.push (by rw [push_m, push_m]; rfl) (.tail _ (.tail _ (.head _))) _).throughVector

/-- An M6502 instruction stores to the addresses `mStores` lists and to no other. -/
theorem mView_run_storeActs (v : MView) (c : Nat) (s : State) :
    StoreActs (mStores v (beginM v.len c s)) s (v.run c s) := by
  cases v with
  | read op f =>
    cases f with
    | imm b => exact (beginM_storeActs 2 c s).regs rfl
    | mem md => exact (((beginM_storeActs md.len c s).ea md).read _).regs rfl
  | store r md => exact ((beginM_storeActs md.len c s).ea md).write (.head _) _
  | modify op md => exact ((((beginM_storeActs md.len c s).ea md).read _).write (.head _) _).regs rfl
  | acc op => exact (beginM_storeActs 1 c s).regs rfl
  | implied op => exact (beginM_storeActs 1 c s).regs rfl
  | pha => exact (beginM_storeActs 1 c s).push rfl (.head _) _
  | php => exact (beginM_storeActs 1 c s).push rfl (.head _) _
  | pla => exact (beginM_storeActs 1 c s).pull.regs rfl
  | plp => exact (beginM_storeActs 1 c s).pull.regs rfl
  | jmp b1 b2 => exact (beginM_storeActs 3 c s).regs rfl
  | jmpInd b1 b2 => exact (((beginM_storeActs 3 c s).read _).read _).regs rfl
  | jsr b1 b2 =>
    exact (((beginM_storeActs 3 c s).push rfl (.head _) _).push (push_m .. ▸ rfl) (.tail _ (.head _)) _).regs rfl
  | rts => exact (beginM_storeActs 1 c s).pull.pull.regs rfl
  | rti => exact ((((beginM_storeActs 1 c s).pull.regs rfl).pull).pull).regs rfl
  | branch k b => exact .ite (fun _ => (beginM_storeActs 2 c s).regs rfl) (fun _ => beginM_storeActs 2 c s)
  | brk => exact runMBrk_storeActs c s
  | halt => exact .ite (fun _ => .single (.same {})) (fun _ => .single (.same {}))

/-! ### The shapes of the Z80 -/

section
variable {as : List Word} (k : Cost) (addr : Z80Regs → Word) (s : State)

theorem zLoad_storeActs (f : Byte → Z80Regs → Z80Regs) : StoreActs as s (zLoad k addr f s) :=
  ((beginZ_storeActs k s).read _).regs rfl

theorem zLoadFlags_storeActs (f : Byte → Byte → Z80Regs → Z80Regs) : StoreActs as s (zLoadFlags k addr f s) :=
  ((beginZ_storeActs k s).read _).regs rfl

theorem zLoad16_storeActs (a : Word) (f : Word → Z80Regs → Z80Regs) : StoreActs as s (zLoad16 k a f s) :=
  (((beginZ_storeActs k s).read _).read _).regs rfl

variable {k addr s}

theorem zStore_storeActs (h : addr (beginZ k s).z ∈ as) (val : Z80Regs → Byte) : StoreActs as s (zStore k addr val s) :=
  (beginZ_storeActs k s).write h _

theorem zStore16_storeActs {a : Word} (h : a ∈ as) (h1 : a + 1 ∈ as) (val : Z80Regs → Word) :
    StoreActs as s (zStore16 k a val s) :=
  ((beginZ_storeActs k s).write h _).write h1 _

theorem zModify_storeActs (h : addr (beginZ k s).z ∈ as) (f : Byte → Byte) : StoreActs as s (zModify k addr f s) :=
  ((beginZ_storeActs k s).read _).write h _

theorem zModifyFlags_storeActs (h : addr (beginZ k s).z ∈ as) (f : Byte → Byte → Z80Regs → Byte × Z80Regs) :
    StoreActs as s (zModifyFlags k addr f s) :=
  (((beginZ_storeActs k s).read _).write h _).regs rfl

end

theorem runZCallCC_storeActs (c : Nat) (k : CC) (lo hi : Byte) (s : State) :
    StoreActs (if k.holds s.z.f then [s.z.sp - 1, s.z.sp - 1 - 1] else []) s (runZCallCC c k lo hi s) := by
  refine .ite (fun hk => ?_) (fun _ => beginZ_storeActs _ s)
  rw [if_pos (show k.holds s.z.f = true from hk)]
  exact ((beginZ_storeActs ⟨3, c, 1⟩ s).push16 (.head _) (.tail _ (.head _)) _).regs rfl

theorem runZExSP_storeActs (c : Nat) (p : HLXY) (s : State) : StoreActs [s.z.sp + 1, s.z.sp] s (runZExSP c p s) := by
  have exchanged (t : State) (ht : StoreActs [t.z.sp + 1, t.z.sp] s t) :=
    ((ht.read16 t.z.sp).write (.head _) (hi8 (p.get t.z))).write (.tail _ (.head _)) (lo8 (p.get t.z))
  exact (exchanged _ (beginZ_storeActs _ s)).regs rfl

theorem runZLdBlock_storeActs (c : Nat) (d : Dir) (rep : Bool) (s : State) :
    StoreActs [s.z.de] s (runZLdBlock c d rep s) :=
  ((((beginZ_storeActs ⟨2, c, 2⟩ s).read _).write (.head _) _).regs rfl).repeats _ _

theorem runZInBlock_storeActs (c : Nat) (d : Dir) (rep : Bool) (s : State) :
    StoreActs [s.z.hl] s (runZInBlock c d rep s) := by
  have hin := (beginZ_storeActs (as := [s.z.hl]) ⟨2, c, 2⟩ s).portIn s.z.bc
  have hst := hin.write (a := (Machine.portIn s.z.bc (beginZ ⟨2, c, 2⟩ s)).2.z.hl) (by rw [portIn_z]; exact .head _)
  exact ((hst _).regs rfl).repeats _ _

/-- A Z80 instruction stores to the addresses `zStores` lists and to no other. -/
theorem zView_run_storeActs (v : ZView) (c : Nat) (s : State) :
    StoreActs (zStores v (beginZ (v.cost c) s)) s (v.run c s) := by
  cases v with
  -- registers and flags alone
  | ldRR _ _ | ldRN _ _ | ldAIR _ | ldIRA _ | ldPN _ _ _ | ldSP _ | exDEHL | exAF | exx | incDecR _ _ | gen _ | arith16 _ _
  | addXY _ _ | incDec16 _ _ | accRot _ | jp _ _ | jpCC _ _ _ | jr _ | jpHL _ | nop | di | ei | im _ =>
    exact .single (.same {})
  | jrCC _ _ | djnz _ | halt => exact .ite (fun _ => .single (.same {})) (fun _ => .single (.same {}))
  -- data reads
  | ldRM _ _ | ldAP _ => exact zLoad_storeActs ..
  | ldANn lo hi => exact zLoad_storeActs _ (fun _ => word lo hi) s _
  | ldHLNn _ _ | ldPNn _ _ _ => exact zLoad16_storeActs ..
  | cpBlock d rep => exact (zLoadFlags_storeActs ..).repeats _ _
  | alu op src =>
    cases src with
    | reg _ | imm _ => exact .single (.same {})
    | mem _ => exact zLoadFlags_storeActs ..
  | bit b tgt =>
    cases tgt with
    | reg _ => exact .single (.same {})
    | mem m => unfold ZView.run runZBit; exact zLoadFlags_storeActs ..
  | pop p => exact (beginZ_storeActs (p.cost ⟨1, c, 1⟩ ⟨2, c, 2⟩) s).pop16.regs rfl
  | ret => exact (beginZ_storeActs ⟨1, c, 1⟩ s).pop16.regs rfl
  | reti | retn => exact (beginZ_storeActs ⟨2, c, 2⟩ s).pop16.regs rfl
  | retCC k => exact .ite (fun _ => (beginZ_storeActs ⟨1, c, 1⟩ s).pop16.regs rfl) (fun _ => beginZ_storeActs _ s)
  -- ports
  | inAN n => exact ((beginZ_storeActs ⟨2, c, 1⟩ s).portIn _).regs rfl
  | inRC r => exact ((beginZ_storeActs ⟨2, c, 2⟩ s).portIn _).regs rfl
  | outNA n => exact (beginZ_storeActs ⟨2, c, 1⟩ s).portOut _ _
  | outCR r => exact (beginZ_storeActs ⟨2, c, 2⟩ s).portOut _ _
  | outBlock d rep => exact ((((beginZ_storeActs ⟨2, c, 2⟩ s).read _).portOut _ _).regs rfl).repeats _ _
  -- stores
  | ldMR m r => unfold ZView.run runZLdMR; exact zStore_storeActs (.head _) _
  | ldMN m n => unfold ZView.run runZLdMN; exact zStore_storeActs (.head _) _
  | ldPA p => unfold ZView.run runZLdPA; exact zStore_storeActs (.head _) _
  | ldNnA lo hi => unfold ZView.run runZLdNnA; exact zStore_storeActs (addr := fun _ => word lo hi) (.head _) _
  | ldNnHL _ _ | ldNnP _ _ _ => exact zStore16_storeActs (.head _) (.tail _ (.head _)) _
  | incDecM op m => unfold ZView.run runZIncDecM; exact zModifyFlags_storeActs (.head _) _
  | rld => unfold ZView.run runZRld; exact zModifyFlags_storeActs (.head _) _
  | rrd => unfold ZView.run runZRrd; exact zModifyFlags_storeActs (.head _) _
  | rot op tgt =>
    cases tgt with
    | reg _ => exact .single (.same {})
    | mem m => unfold ZView.run runZRot; exact zModifyFlags_storeActs (.head _) _
  | setB b tgt =>
    cases tgt with
    | reg _ => exact .single (.same {})
    | mem m => unfold ZView.run runZSet; exact zModify_storeActs (.head _) _
  | resB b tgt =>
    cases tgt with
    | reg _ => exact .single (.same {})
    | mem m => unfold ZView.run runZRes; exact zModify_storeActs (.head _) _
  | push p => exact (beginZ_storeActs (p.cost ⟨1, c, 1⟩ ⟨2, c, 2⟩) s).push16 (.head _) (.tail _ (.head _)) _
  | call lo hi => exact ((beginZ_storeActs ⟨3, c, 1⟩ s).push16 (.head _) (.tail _ (.head _)) _).regs rfl
  | rst y => exact ((beginZ_storeActs ⟨1, c, 1⟩ s).push16 (.head _) (.tail _ (.head _)) _).regs rfl
  | callCC k lo hi => exact runZCallCC_storeActs c k lo hi s
  | exSP p => exact runZExSP_storeActs c p s
  | ldBlock d rep => exact runZLdBlock_storeActs c d rep s
  | inBlock d rep => exact runZInBlock_storeActs c d rep s

/-! ### The statement -/

/-- What an instruction does to memory: stores at the addresses `storesTo` lists, and nothing else. -/
theorem exec_storeActs {i : Instr} {s t : State} (h : exec i s = .next t) : StoreActs (storesTo i s) s t := by
  unfold storesTo
  cases hv : i.view with
  | m v =>
    rw [exec_m hv] at h
    injection h with h
    rw [← h, fetched_m hv]
    exact mView_run_storeActs v _ s
  | z v =>
    rw [exec_z hv] at h
    injection h with h
    rw [← h, fetched_z hv]
    exact zView_run_storeActs v _ s

/-- Settles O42: an instruction is a sequence of stores at the addresses `storesTo` lists, each of which changes at most the
byte at its write location. -/
theorem memoryFrame : Obligations.MemoryFrame := by
  intro i s t h hb
  have acts := exec_storeActs h
  exact ⟨fun b hne => acts.ptRead hb hne, fun hnil b => acts.ptRead hb (by simp [hnil])⟩

end Sys2Proof.Machine
end

section
/-! PROOFS. Mapping calls (O44): the pages of a window, the preconditions, and the entries a call installs. -/

namespace Sys2Proof.Machine

/-! ### Pages and windows (R72, R75) -/

theorem pageSize_dvd (c : Cfg) : c.pageSize ∣ 65536 := Nat.pow_dvd_pow 2 (Nat.le_of_lt_succ c.pageBits.isLt)

theorem pageIndex_lt (s : State) (a : Word) : pageIndex s a < s.cfg.pageCount := by
  obtain ⟨n, hn⟩ := pageSize_dvd s.cfg
  have hp := pageSize_pos s.cfg
  rw [Cfg.pageCount, hn, Nat.mul_div_cancel_left _ hp, pageIndex, Nat.div_lt_iff_lt_mul hp, Nat.mul_comm, ← hn]
  exact a.isLt

/-- The pages of an aligned window are those of the addresses in it. -/
theorem page_in_window_iff {ps start size a : Nat} (hp : 0 < ps) (hs : start % ps = 0) (hz : size % ps = 0) :
    (start / ps ≤ a / ps ∧ a / ps < start / ps + size / ps) ↔ (start ≤ a ∧ a < start + size) := by
  obtain ⟨i, rfl⟩ := Nat.dvd_of_mod_eq_zero hs
  obtain ⟨n, rfl⟩ := Nat.dvd_of_mod_eq_zero hz
  rw [Nat.mul_div_cancel_left _ hp, Nat.mul_div_cancel_left _ hp, Nat.le_div_iff_mul_le hp, Nat.div_lt_iff_lt_mul hp,
    Nat.add_mul, Nat.mul_comm i, Nat.mul_comm n]

/-- The offset of an address in an aligned window, by its page and its offset in the page. -/
theorem page_sub_mul_add_mod {ps start a : Nat} (hs : start % ps = 0) (h : start ≤ a) :
    (a / ps - start / ps) * ps + a % ps = a - start := by
  have hstart : ps * (start / ps) = start := Nat.mul_div_cancel' (Nat.dvd_of_mod_eq_zero hs)
  have hle : ps * (start / ps) ≤ ps * (a / ps) := Nat.mul_le_mul_left _ (Nat.div_le_div_right h)
  have ha := Nat.div_add_mod a ps
  rw [Nat.sub_mul, Nat.mul_comm (a / ps), Nat.mul_comm (start / ps)]
  omega

theorem add_div_of_aligned {ps start size : Nat} (hs : start % ps = 0) :
    (start + size) / ps = start / ps + size / ps :=
  Nat.add_div_of_dvd_right (Nat.dvd_of_mod_eq_zero hs)

/-! ### The preconditions of the mapping calls (R75, R76) -/

theorem windowOk_iff (s : State) (start size : Nat) :
    windowOk s start size = true ↔
      start % s.cfg.pageSize = 0 ∧ size % s.cfg.pageSize = 0 ∧ s.cfg.pageSize ≤ size ∧ start + size ≤ 65536 := by
  simp only [windowOk, Bool.and_eq_true, decide_eq_true_eq, and_assoc]

theorem mapOk_mapCode_iff (s : State) (start size : Nat) (data : PageEntry) (mirror : Option Nat) :
    mapOk s (.mapCode start size data mirror) = true ↔
      start % s.cfg.pageSize = 0 ∧ size % s.cfg.pageSize = 0 ∧ s.cfg.pageSize ≤ size ∧ start + size ≤ 65536 ∧
        mirror.getD size % s.cfg.pageSize = 0 ∧ s.cfg.pageSize ≤ mirror.getD size ∧
        data.offset + min size (mirror.getD size) ≤ regionSize s data.region := by
  simp only [mapOk, Bool.and_eq_true, decide_eq_true_eq, windowOk_iff, and_assoc]

theorem mapOk_mapMem_iff (s : State) (start size : Nat) (w r : PageEntry) :
    mapOk s (.mapMem start size w r) = true ↔
      start % s.cfg.pageSize = 0 ∧ size % s.cfg.pageSize = 0 ∧ s.cfg.pageSize ≤ size ∧ start + size ≤ 65536 ∧
        w.offset + size ≤ regionSize s w.region ∧ r.offset + size ≤ regionSize s r.region := by
  simp only [mapOk, Bool.and_eq_true, decide_eq_true_eq, windowOk_iff, and_assoc]

theorem applyMap_of_ok {s : State} {c : MapCall} (h : mapOk s c = true) : applyMap c s = mapInstall s c := if_pos h

theorem applyMap_of_not_ok {s : State} {c : MapCall} (h : ¬ mapOk s c = true) :
    applyMap c s = { s with refusals := .misalignedMap :: s.refusals, warning := some "bad page mapping" } := if_neg h

/-! ### What a mapping call installs (R75 to R77) -/

/-- The entries of a page table after those of an aligned window are replaced. -/
theorem setPages_window_getElem? {ps start size : Nat} (hs : start % ps = 0) (f : Nat → PageEntry)
    {es : List PageEntry} {i : Nat} (hi : i < es.length) :
    (setPages (start / ps) (size / ps) f 0 es)[i]? =
      if start / ps ≤ i ∧ i < (start + size) / ps then some (f (i - start / ps)) else es[i]? := by
  rw [setPages_getElem?, List.getElem?_eq_getElem hi, add_div_of_aligned hs, Nat.zero_add, Option.map_some]
  split <;> rfl

/-- Settles O44: a call with its preconditions met replaces the entries of its window, any other is refused. -/
theorem mappingCallsInstallOrAreRefused : Obligations.MappingCallsInstallOrAreRefused := by
  refine ⟨fun s start size data mirror => ?_, fun s start size w r => ?_⟩
  all_goals refine ⟨fun hok => ?_, fun hbad => ?_⟩
  · rw [applyMap_of_ok ((mapOk_mapCode_iff ..).mpr hok)]
    exact ⟨mapInstall_frame .., (mapInstall_lengths ..).1, (mapInstall_lengths ..).2,
      fun i hi => setPages_window_getElem? hok.1 _ hi, fun i hi => setPages_window_getElem? hok.1 _ hi⟩
  · exact applyMap_of_not_ok fun h => hbad ((mapOk_mapCode_iff ..).mp h)
  · rw [applyMap_of_ok ((mapOk_mapMem_iff ..).mpr hok)]
    exact ⟨mapInstall_frame .., (mapInstall_lengths ..).1, (mapInstall_lengths ..).2,
      fun i hi => setPages_window_getElem? hok.1 _ hi, fun i hi => setPages_window_getElem? hok.1 _ hi⟩
  · exact applyMap_of_not_ok fun h => hbad ((mapOk_mapMem_iff ..).mp h)

end Sys2Proof.Machine
end

section
/-! PROOFS. Data accesses by handler (O43): a plain store is read back where it lies, a bank handler switches its window, a
callback does what it may. -/

namespace Sys2Proof.Machine

/-! ### Plain stores and loads (R72 to R74, R80, R81) -/

/-- Under the memory invariant the write location of an address is a byte of its region (R42). -/
theorem MemoryInv.resolveWrite_inside {s : State} (h : MemoryInv s) (a : Word) :
    (resolveWrite s a).offset < regionSize s (resolveWrite s a).region := by
  have hi : pageIndex s a < s.writePage.length := h.writeLength ▸ pageIndex_lt s a
  have he := h.writeInside _ (List.getElem_mem hi)
  have hoff : pageOffset s a < s.cfg.pageSize := Nat.mod_lt _ (pageSize_pos s.cfg)
  rw [pageInside] at he
  rw [resolveWrite, List.getD_eq_getElem _ _ hi]
  exact Nat.lt_of_lt_of_le (Nat.add_lt_add_left hoff _) he

/-- R73, R74: a plain store is read back at the addresses whose read location is its write location, unless it lies in a
read-only page. -/
theorem ptRead_memWrite_plain {s : State} {a : Word} (b : Word) (v : Byte) (h : MemoryInv s)
    (hw : writeHandler s.cfg a = none) :
    ptRead (memWrite a v s) b =
      if resolveRead s b = resolveWrite s a ∧ (resolveWrite s a).region ≠ .unmappedRead ∧
          (resolveWrite s a).region ≠ .zeroFill then v
      else ptRead s b := by
  rw [memWrite_plain a v s hw, ptRead_ptWrite]
  simp only [h.resolveWrite_inside a, and_true]

/-- R41: a store to the sink changes no read, where no page read shows the sink. -/
theorem ptRead_memWrite_sink {s : State} {a : Word} (v : Byte) (hw : writeHandler s.cfg a = none)
    (hr : (resolveWrite s a).region = .unmappedWrite) (hn : ∀ b : Word, (resolveRead s b).region ≠ .unmappedWrite)
    (b : Word) : ptRead (memWrite a v s) b = ptRead s b := by
  rw [memWrite_plain a v s hw, ptRead_ptWrite, if_neg]
  rintro ⟨he, -⟩
  exact hn b (he ▸ hr)

/-! ### Resolution in a window that was mapped (R72, R75) -/

theorem resolveRead_of_getD {s t : State} {b : Word} {e : PageEntry} (hc : t.cfg = s.cfg)
    (h : t.readPage.getD (pageIndex s b) ⟨.unmappedRead, 0⟩ = e) :
    resolveRead t b = ⟨e.region, e.offset + pageOffset s b⟩ := by
  rw [← h, resolveRead, pageIndex, pageIndex, pageOffset, pageOffset, hc]

theorem resolveWrite_of_getD {s t : State} {b : Word} {e : PageEntry} (hc : t.cfg = s.cfg)
    (h : t.writePage.getD (pageIndex s b) ⟨.unmappedWrite, 0⟩ = e) :
    resolveWrite t b = ⟨e.region, e.offset + pageOffset s b⟩ := by
  rw [← h, resolveWrite, pageIndex, pageIndex, pageOffset, pageOffset, hc]

/-- The entry of an address after those of an aligned window are replaced. -/
theorem setPages_window_getD {s : State} {start size : Nat} (hs : start % s.cfg.pageSize = 0)
    (hz : size % s.cfg.pageSize = 0) (f : Nat → PageEntry) (d : PageEntry) {es : List PageEntry}
    (hl : es.length = s.cfg.pageCount) (b : Word) :
    (setPages (start / s.cfg.pageSize) (size / s.cfg.pageSize) f 0 es).getD (pageIndex s b) d =
      if start ≤ b.toNat ∧ b.toNat < start + size then f (pageIndex s b - start / s.cfg.pageSize)
      else es.getD (pageIndex s b) d := by
  have hi : pageIndex s b < es.length := hl ▸ pageIndex_lt s b
  rw [List.getD_eq_getElem?_getD, setPages_window_getElem? hs f hi, add_div_of_aligned hs]
  simp only [pageIndex, page_in_window_iff (pageSize_pos s.cfg) hs hz]
  split
  · rfl
  · rw [List.getD_eq_getElem?_getD]

section
variable {s : State} {start size : Nat} {data : PageEntry} {mirror : Option Nat}

/-- An accepted mapping call changes no byte of a region. -/
theorem locRead_mapInstall (s : State) (c : MapCall) (l : PageEntry) : locRead (mapInstall s c) l = locRead s l := by
  rw [mapInstall_frame]; rfl

theorem resolveRead_mapCode (h : MemoryInv s) (hok : mapOk s (.mapCode start size data mirror) = true) (b : Word) :
    resolveRead (mapInstall s (.mapCode start size data mirror)) b =
      if start ≤ b.toNat ∧ b.toNat < start + size then
        ⟨data.region, data.offset +
          (pageIndex s b - start / s.cfg.pageSize) * s.cfg.pageSize % mirror.getD size + pageOffset s b⟩
      else resolveRead s b := by
  obtain ⟨hs, hz, -⟩ := (mapOk_mapCode_iff ..).mp hok
  refine (resolveRead_of_getD rfl (setPages_window_getD hs hz _ _ h.readLength b)).trans ?_
  split <;> rfl

theorem resolveWrite_mapCode (h : MemoryInv s) (hok : mapOk s (.mapCode start size data mirror) = true) {b : Word}
    (hb : start ≤ b.toNat ∧ b.toNat < start + size) :
    (resolveWrite (mapInstall s (.mapCode start size data mirror)) b).region = .unmappedWrite := by
  obtain ⟨hs, hz, -⟩ := (mapOk_mapCode_iff ..).mp hok
  have he := resolveWrite_of_getD (t := mapInstall s (.mapCode start size data mirror)) rfl
    (setPages_window_getD hs hz _ _ h.writeLength b)
  rw [he, if_pos hb]

/-- What addresses read after an accepted `map_code`: the pages of the region in the window, elsewhere as before. -/
theorem ptRead_mapCode (h : MemoryInv s) (hok : mapOk s (.mapCode start size data mirror) = true) (b : Word) :
    ptRead (mapInstall s (.mapCode start size data mirror)) b =
      if start ≤ b.toNat ∧ b.toNat < start + size then
        locRead s ⟨data.region, data.offset +
          (pageIndex s b - start / s.cfg.pageSize) * s.cfg.pageSize % mirror.getD size + pageOffset s b⟩
      else ptRead s b := by
  rw [ptRead, locRead_mapInstall, resolveRead_mapCode h hok, apply_ite (locRead s), ptRead]

/-- Without a mirror the window shows the region byte by byte. -/
theorem ptRead_mapCode_none (h : MemoryInv s) (hok : mapOk s (.mapCode start size data none) = true) {b : Word}
    (hb : start ≤ b.toNat ∧ b.toNat < start + size) :
    ptRead (mapInstall s (.mapCode start size data none)) b =
      locRead s ⟨data.region, data.offset + (b.toNat - start)⟩ := by
  obtain ⟨hs, -⟩ := (mapOk_mapCode_iff ..).mp hok
  have hoff : (pageIndex s b - start / s.cfg.pageSize) * s.cfg.pageSize + pageOffset s b = b.toNat - start :=
    page_sub_mul_add_mod hs hb.1
  rw [ptRead_mapCode h hok, if_pos hb, Option.getD_none, Nat.mod_eq_of_lt (by omega), Nat.add_assoc, hoff]

end

/-! ### Bank handlers (R88, R570, R571) -/

section
variable {s : State} {window size : Nat} (rom : Nat) (missing : MissingBank) (v : Byte)

/-- A bank is mapped if and only if it ends inside the ROM. -/
theorem mapOk_bank_iff (hw : windowOk s window size = true) (first : Nat) :
    mapOk s (.mapCode window size ⟨.region rom, first⟩ none) = true ↔ first + size ≤ regionSize s (.region rom) := by
  obtain ⟨-, hz, hps, -⟩ := (windowOk_iff ..).mp hw
  simp [mapOk, hw, hz, hps]

/-- The page that stands for a missing bank can always be mapped. -/
theorem mapOk_missing (hw : windowOk s window size = true) :
    mapOk s (.mapCode window size ⟨missingRegion missing, 0⟩ (some s.cfg.pageSize)) = true := by
  have hr : regionSize s (missingRegion missing) = s.cfg.pageSize := by cases missing <;> rfl
  simp [mapOk, hw, hr]

theorem bankSelect_present (hw : windowOk s window size = true)
    (hin : v.toNat * size + size ≤ regionSize s (.region rom)) :
    bankSelect window size rom missing v s =
      mapInstall s (.mapCode window size ⟨.region rom, v.toNat * size⟩ none) := by
  obtain ⟨-, -, hps, -⟩ := (windowOk_iff ..).mp hw
  have hp := pageSize_pos s.cfg
  rw [bankSelect, if_pos (by omega), applyMap_of_ok ((mapOk_bank_iff rom hw _).mpr hin)]

theorem bankSelect_straddling (hw : windowOk s window size = true)
    (hfirst : v.toNat * size < regionSize s (.region rom))
    (hlast : regionSize s (.region rom) < v.toNat * size + size) :
    bankSelect window size rom missing v s =
      { s with refusals := .misalignedMap :: s.refusals, warning := some "bad page mapping" } := by
  rw [bankSelect, if_pos hfirst, applyMap_of_not_ok]
  rw [mapOk_bank_iff rom hw]
  omega

theorem bankSelect_missing (hw : windowOk s window size = true)
    (hout : regionSize s (.region rom) ≤ v.toNat * size) :
    bankSelect window size rom missing v s =
      warn "bank data missing"
        (mapInstall s (.mapCode window size ⟨missingRegion missing, 0⟩ (some s.cfg.pageSize))) := by
  rw [bankSelect, if_neg (by omega), applyMap_of_ok (mapOk_missing missing hw)]

theorem ptRead_warn (text : String) (s : State) (b : Word) : ptRead (warn text s) b = ptRead s b := rfl

/-- R88: a bank switch changes what the addresses of its window read, and no other. -/
theorem ptRead_bankSelect_outside (h : MemoryInv s) (hw : windowOk s window size = true) {b : Word}
    (hb : b.toNat < window ∨ window + size ≤ b.toNat) :
    ptRead (bankSelect window size rom missing v s) b = ptRead s b := by
  have hout : ¬ (window ≤ b.toNat ∧ b.toNat < window + size) := by omega
  by_cases hin : v.toNat * size + size ≤ regionSize s (.region rom)
  · rw [bankSelect_present rom missing v hw hin, ptRead_mapCode h ((mapOk_bank_iff rom hw _).mpr hin), if_neg hout]
  by_cases hfirst : v.toNat * size < regionSize s (.region rom)
  · rw [bankSelect_straddling rom missing v hw hfirst (Nat.lt_of_not_le hin)]
    rfl
  · rw [bankSelect_missing rom missing v hw (Nat.le_of_not_lt hfirst), ptRead_warn,
      ptRead_mapCode h (mapOk_missing missing hw), if_neg hout]

/-- R88: the window shows the bank, read-only. -/
theorem bankSelect_present_window (h : MemoryInv s) (hw : windowOk s window size = true)
    (hin : v.toNat * size + size ≤ regionSize s (.region rom)) {b : Word}
    (hb : window ≤ b.toNat ∧ b.toNat < window + size) :
    ptRead (bankSelect window size rom missing v s) b =
        locRead s ⟨.region rom, v.toNat * size + (b.toNat - window)⟩ ∧
      (resolveWrite (bankSelect window size rom missing v s) b).region = .unmappedWrite := by
  have hok := (mapOk_bank_iff rom hw _).mpr hin
  rw [bankSelect_present rom missing v hw hin]
  exact ⟨ptRead_mapCode_none h hok hb, resolveWrite_mapCode h hok hb⟩

/-- R570 (b), R571, U17: the window of a missing bank shows the fill byte or zeros, read-only. -/
theorem bankSelect_missing_window (h : MemoryInv s) (hw : windowOk s window size = true)
    (hout : regionSize s (.region rom) ≤ v.toNat * size) {b : Word}
    (hb : window ≤ b.toNat ∧ b.toNat < window + size) :
    ptRead (bankSelect window size rom missing v s) b = (if missing = .unmapped then s.unmappedFill else 0) ∧
      (resolveWrite (bankSelect window size rom missing v s) b).region = .unmappedWrite := by
  have hok := mapOk_missing (s := s) missing hw
  rw [bankSelect_missing rom missing v hw hout, ptRead_warn, ptRead_mapCode h hok, if_pos hb]
  refine ⟨?_, resolveWrite_mapCode h hok hb⟩
  cases missing <;> rfl

end

/-! ### Callbacks (R165, R579) -/

/-- A data or port access that a callback answers does what the callback does, and nothing else. -/
theorem access_of_callback (c : Callback) (s : State) :
    (∀ (a : Word) (v : Byte), writeHandler s.cfg a = some (.callback c) → memWrite a v s = runCallback c s) ∧
    (∀ (a : Word) (b : Byte), readHandler s.cfg a = some (.callback c b) → memRead a s = (b, runCallback c s)) ∧
    (∀ (port : Word) (v : Byte), s.cfg.portOut = some (.callback c) → portOut port v s = runCallback c s) ∧
    (∀ port : Word, s.cfg.portIn.call = some c → portIn port s = (s.cfg.portIn.byte, runCallback c s)) := by
  refine ⟨fun a v h => ?_, fun a b h => ?_, fun p v h => ?_, fun p h => ?_⟩
  · rw [memWrite, h]
  · rw [memRead, h]
  · rw [portOut, h]
  · rw [portIn, h]

/-! ### The statement -/

/-- Settles O43: plain stores and loads by location, bank handlers by the three places a bank can lie, callbacks by kind. -/
theorem storeThenLoad : Obligations.StoreThenLoad := by
  refine ⟨fun s a b v h hw => ptRead_memWrite_plain b v h hw, fun s a v hw hr hn b => ptRead_memWrite_sink v hw hr hn b,
    fun s a => memRead_plain a s, fun s a => ⟨fun hr => ?_, fun hr => ?_⟩, ?_, fun s c => ?_⟩
  · rw [ptRead, locRead, hr]
  · rw [ptRead, locRead, hr]
  · intro s a v window size rom missing h hbank hs hz hps hfit
    have hw : windowOk s window size = true := (windowOk_iff ..).mpr ⟨hs, hz, hps, hfit⟩
    have e : memWrite a v s = bankSelect window size rom missing v s := by rw [memWrite, hbank]
    rw [e]
    refine ⟨bankSelect_frame .., fun b hb => ptRead_bankSelect_outside rom missing v h hw hb, fun hin => ?_,
      fun hfirst hlast => bankSelect_straddling rom missing v hw hfirst hlast, fun hout => ?_⟩
    · refine ⟨?_, ?_, fun b hlo hhi => bankSelect_present_window rom missing v h hw hin ⟨hlo, hhi⟩⟩
      all_goals rw [bankSelect_present rom missing v hw hin, mapInstall_frame]
    · refine ⟨?_, ?_, fun b hlo hhi => bankSelect_missing_window rom missing v h hw hout ⟨hlo, hhi⟩⟩
      all_goals rw [bankSelect_missing rom missing v hw hout, mapInstall_frame]; rfl
  · cases c <;> exact access_of_callback _ s

end Sys2Proof.Machine
end

section
/-! PROOFS. The opcode maps, row by row: every entry is encoded by the bytes that select it, the bytes without an entry are
the listed ones, and the `CB` maps go by the fields of the opcode byte (O2 to O4). -/

namespace Sys2Proof

/-! ### Opcode maps, row by row (R123, R132 to R136) -/

/-- The opcode bytes with high digit `n`. -/
def opcodeRow (n : Nat) : List Byte := (List.range 16).map fun c => BitVec.ofNat 8 (16 * n + c)

theorem opcodeRow_getElem? (op : Byte) : (opcodeRow (op.toNat / 16))[op.toNat % 16]? = some op := by
  have hlo : op.toNat % 16 < 16 := Nat.mod_lt _ (by decide)
  rw [opcodeRow, List.getElem?_map, List.getElem?_range hlo, Option.map_some, Nat.div_add_mod, BitVec.ofNat_toNat,
    BitVec.setWidth_eq]

theorem high_digit_lt (op : Byte) : op.toNat / 16 < 16 := Nat.div_lt_of_lt_mul op.isLt

/-- Two functions of the opcode byte agree if they agree on each of the sixteen rows. -/
theorem eq_of_rows {β : Type} {f h : Byte → β} (rows : ∀ n < 16, (opcodeRow n).map f = (opcodeRow n).map h) :
    ∀ op, f op = h op :=
  fun op => List.map_inj_left.mp (rows _ (high_digit_lt op)) op (List.mem_of_getElem? (opcodeRow_getElem? op))

/-- The bytes with no entry in a map. -/
theorem eq_none_iff_of_rows {g : Nat → List (Option Instr)} {p : Byte → Prop} [DecidablePred p]
    (rows : ∀ n < 16,
      (opcodeRow n).map (fun op => (gridAt g op).isNone) = (opcodeRow n).map fun op => decide (p op)) (op : Byte) :
    gridAt g op = none ↔ p op := by
  rw [← Option.isNone_iff_eq_none, eq_of_rows rows op, decide_eq_true_iff]

/-- The bytes `bs` begin with the encoding of `i`, of family `fam` and of the length the opcode table gives (R111). -/
structure EncodedBy (fam : Family) (bs : List Byte) (i : Instr) : Prop where
  family : i.family = fam
  isPrefix : encode i <+: bs
  length : (encode i).length = i.row.len

/-- Every entry of a map is encoded by the bytes `bs` that select it, if it is so in each of the sixteen rows. -/
theorem encodedBy_of_rows {fam : Family} {g : Nat → List (Option Instr)} {bs : Byte → List Byte}
    (rows : ∀ n < 16,
      (g n).map (Option.map fun i => (i.family, i.row.len, encode i)) =
        List.zipWith (fun op e => e.map fun i => (fam, (encode i).length, (bs op).take (encode i).length))
          (opcodeRow n) (g n))
    {op : Byte} {i : Instr} (h : gridAt g op = some i) : EncodedBy fam (bs op) i := by
  have hi : (g (op.toNat / 16))[op.toNat % 16]? = some (some i) := by
    rw [gridAt, List.getD_eq_getElem?_getD] at h
    cases e : (g (op.toNat / 16))[op.toNat % 16]? with
    | none => rw [e] at h; cases h
    | some o => rw [e] at h; exact congrArg some h
  have e := congrArg (·[op.toNat % 16]?) (rows _ (high_digit_lt op))
  simp only [List.getElem?_map, List.getElem?_zipWith, opcodeRow_getElem?, hi, Option.map_some, Option.some_inj,
    Prod.mk.injEq] at e
  obtain ⟨hfam, hlen, hbytes⟩ := e
  exact ⟨hfam, hbytes ▸ List.take_prefix .., hlen.symm⟩

section
variable {b1 b2 b3 op : Byte} {i : Instr}

theorem gridM6502_encodedBy (h : gridAt (gridM6502 b1 b2) op = some i) : EncodedBy .m6502 [op, b1, b2, b3] i :=
  encodedBy_of_rows (bs := fun op => [op, b1, b2, b3]) (fun n hn => by interval_cases n <;> rfl) h

theorem gridZ80_encodedBy (h : gridAt (gridZ80 b1 b2) op = some i) : EncodedBy .z80 [op, b1, b2, b3] i :=
  encodedBy_of_rows (bs := fun op => [op, b1, b2, b3]) (fun n hn => by interval_cases n <;> rfl) h

theorem gridCb_encodedBy (h : gridAt gridCb op = some i) : EncodedBy .z80 [0xCB, op, b2, b3] i :=
  encodedBy_of_rows (bs := fun op => [0xCB, op, b2, b3]) (fun n hn => by interval_cases n <;> rfl) h

theorem gridEd_encodedBy (h : gridAt (gridEd b2 b3) op = some i) : EncodedBy .z80 [0xED, op, b2, b3] i :=
  encodedBy_of_rows (bs := fun op => [0xED, op, b2, b3]) (fun n hn => by interval_cases n <;> rfl) h

theorem gridDd_encodedBy (h : gridAt (gridDd b2 b3) op = some i) : EncodedBy .z80 [0xDD, op, b2, b3] i :=
  encodedBy_of_rows (bs := fun op => [0xDD, op, b2, b3]) (fun n hn => by interval_cases n <;> rfl) h

theorem gridFd_encodedBy (h : gridAt (gridFd b2 b3) op = some i) : EncodedBy .z80 [0xFD, op, b2, b3] i :=
  encodedBy_of_rows (bs := fun op => [0xFD, op, b2, b3]) (fun n hn => by interval_cases n <;> rfl) h

theorem gridDdCb_encodedBy (h : gridAt (gridDdCb b2) op = some i) : EncodedBy .z80 [0xDD, 0xCB, b2, op] i :=
  encodedBy_of_rows (bs := fun op => [0xDD, 0xCB, b2, op]) (fun n hn => by interval_cases n <;> rfl) h

theorem gridFdCb_encodedBy (h : gridAt (gridFdCb b2) op = some i) : EncodedBy .z80 [0xFD, 0xCB, b2, op] i :=
  encodedBy_of_rows (bs := fun op => [0xFD, 0xCB, b2, op]) (fun n hn => by interval_cases n <;> rfl) h

end

/-! ### The bytes with no entry (R126, R137) -/

theorem gridM6502_eq_none_iff (b1 b2 : Byte) : ∀ op, gridAt (gridM6502 b1 b2) op = none ↔ op ∈ illegalM6502 :=
  eq_none_iff_of_rows fun n hn => by interval_cases n <;> rfl

theorem gridZ80_eq_none_iff (b1 b2 : Byte) :
    ∀ op, gridAt (gridZ80 b1 b2) op = none ↔ op = 0xCB ∨ op = 0xED ∨ op = 0xDD ∨ op = 0xFD :=
  eq_none_iff_of_rows fun n hn => by interval_cases n <;> rfl

theorem gridEd_eq_none_iff (b2 b3 : Byte) : ∀ op, gridAt (gridEd b2 b3) op = none ↔ op ∉ definedEd :=
  eq_none_iff_of_rows fun n hn => by interval_cases n <;> rfl

theorem gridDd_eq_none_iff (b2 b3 : Byte) : ∀ op, gridAt (gridDd b2 b3) op = none ↔ op ∉ definedIndexed :=
  eq_none_iff_of_rows fun n hn => by interval_cases n <;> rfl

theorem gridFd_eq_none_iff (b2 b3 : Byte) : ∀ op, gridAt (gridFd b2 b3) op = none ↔ op ∉ definedIndexed :=
  eq_none_iff_of_rows fun n hn => by interval_cases n <;> rfl

/-! ### The `CB` groups by their fields (R133, R136) -/

theorem gridCb_view : ∀ op : Byte, (gridAt gridCb op).map Instr.view =
    if op.toNat / 8 = 6 then none
    else some (.z (cbView (op.toNat / 64) (op.toNat / 8 % 8) (cbOperand (op.toNat % 8)))) :=
  eq_of_rows fun n hn => by interval_cases n <;> rfl

theorem gridDdCb_view (d : Byte) : ∀ op : Byte, (gridAt (gridDdCb d) op).map Instr.view =
    if op.toNat % 8 = 6 ∧ op.toNat / 8 ≠ 6 then
      some (.z (cbView (op.toNat / 64) (op.toNat / 8 % 8) (.mem (.idx .ix d))))
    else none :=
  eq_of_rows fun n hn => by interval_cases n <;> rfl

theorem gridFdCb_view (d : Byte) : ∀ op : Byte, (gridAt (gridFdCb d) op).map Instr.view =
    if op.toNat % 8 = 6 ∧ op.toNat / 8 ≠ 6 then
      some (.z (cbView (op.toNat / 64) (op.toNat / 8 % 8) (.mem (.idx .iy d))))
    else none :=
  eq_of_rows fun n hn => by interval_cases n <;> rfl

end Sys2Proof
end

section
/-! PROOFS. The decoder and the encoder (O1 to O5): decode after encode, encode after decode, the illegal bytes and the `CB`
groups. -/

namespace Sys2Proof

/-! ### The ways through the decoder -/

theorem orIllegal_eq_instr {k : Illegal} {o : Option Instr} {i : Instr} : orIllegal k o = .instr i ↔ o = some i := by
  cases o <;> simp [orIllegal]

theorem orIllegal_eq_illegal {k j : Illegal} {o : Option Instr} : orIllegal k o = .illegal j ↔ j = k ∧ o = none := by
  cases o <;> simp [orIllegal, eq_comm]

section
variable {atIdle : Bool} {b0 b1 b2 b3 : Byte}

theorem decode_sentinel : decode .m6502 true 0x22 b1 b2 b3 = .instr .mHaltSentinel := rfl

theorem decode_m6502 (h : ¬ (b0 = 0x22 ∧ atIdle = true)) :
    decode .m6502 atIdle b0 b1 b2 b3 = orIllegal .m6502 (gridAt (gridM6502 b1 b2) b0) := if_neg h

theorem decode_cb : decode .z80 atIdle 0xCB b1 b2 b3 = orIllegal .z80Cb (gridAt gridCb b1) := rfl

theorem decode_ed : decode .z80 atIdle 0xED b1 b2 b3 = orIllegal .z80Ed (gridAt (gridEd b2 b3) b1) := rfl

theorem decode_ddCb : decode .z80 atIdle 0xDD 0xCB b2 b3 = orIllegal .z80IndexCb (gridAt (gridDdCb b2) b3) := rfl

theorem decode_fdCb : decode .z80 atIdle 0xFD 0xCB b2 b3 = orIllegal .z80IndexCb (gridAt (gridFdCb b2) b3) := rfl

theorem decode_dd (h : b1 ≠ 0xCB) :
    decode .z80 atIdle 0xDD b1 b2 b3 = orIllegal .z80Prefix (gridAt (gridDd b2 b3) b1) := if_neg h

theorem decode_fd (h : b1 ≠ 0xCB) :
    decode .z80 atIdle 0xFD b1 b2 b3 = orIllegal .z80Prefix (gridAt (gridFd b2 b3) b1) := if_neg h

theorem decode_unprefixed (h : ¬ (b0 = 0xCB ∨ b0 = 0xED ∨ b0 = 0xDD ∨ b0 = 0xFD)) :
    decode .z80 atIdle b0 b1 b2 b3 = orIllegal .z80Prefix (gridAt (gridZ80 b1 b2) b0) := by
  simp only [not_or] at h
  simp only [decode, h, if_false]

end

/-- The opcode map of the Z80 that the first two bytes select (R132 to R136). -/
theorem z80_map_cases (b0 b1 : Byte) :
    b0 = 0xCB ∨ b0 = 0xED ∨ (b0 = 0xDD ∧ b1 = 0xCB) ∨ (b0 = 0xDD ∧ b1 ≠ 0xCB) ∨ (b0 = 0xFD ∧ b1 = 0xCB) ∨
      (b0 = 0xFD ∧ b1 ≠ 0xCB) ∨ ¬ (b0 = 0xCB ∨ b0 = 0xED ∨ b0 = 0xDD ∨ b0 = 0xFD) := by
  tauto

/-! ### Decode after encode -/

/-- At the idle address the decoder reads `i` from bytes that begin with those listed. -/
def ReadBack (i : Instr) : List Byte → Prop
  | [b0] => ∀ b1 b2 b3, decode i.family true b0 b1 b2 b3 = .instr i
  | [b0, b1] => ∀ b2 b3, decode i.family true b0 b1 b2 b3 = .instr i
  | [b0, b1, b2] => ∀ b3, decode i.family true b0 b1 b2 b3 = .instr i
  | [b0, b1, b2, b3] => decode i.family true b0 b1 b2 b3 = .instr i
  | _ => False

theorem ReadBack.decode {i : Instr} {b0 b1 b2 b3 : Byte} :
    ∀ {bs : List Byte}, ReadBack i bs → bs <+: [b0, b1, b2, b3] → decode i.family true b0 b1 b2 b3 = .instr i
  | [_], h, hp => by
    obtain rfl := by simpa using hp
    exact h ..
  | [_, _], h, hp => by
    obtain ⟨rfl, rfl⟩ := by simpa using hp
    exact h ..
  | [_, _, _], h, hp => by
    obtain ⟨rfl, rfl, rfl⟩ := by simpa using hp
    exact h ..
  | [_, _, _, _], h, hp => by
    obtain ⟨rfl, rfl, rfl, rfl⟩ := by simpa using hp
    exact h

/-- Every constructor's encoding leads to its own entry of the opcode maps; each case is an evaluation of the decoder. -/
theorem readBack_encode (i : Instr) : ReadBack i (encode i) := by
  cases i
  all_goals
    repeat intro _
    with_unfolding_all rfl

theorem wellFormed_iff {fam : Family} {atIdle : Bool} {i : Instr} :
    i.wellFormed fam atIdle = true ↔ i.family = fam ∧ (i = .mHaltSentinel → atIdle = true) := by
  rw [Instr.wellFormed, Instr.check]
  split <;> simp_all

/-- Only the sentinel is read at the idle address and not elsewhere (R144). -/
theorem decode_of_decode_atIdle {fam : Family} {atIdle : Bool} {b0 b1 b2 b3 : Byte} {i : Instr}
    (hidle : i = .mHaltSentinel → atIdle = true) (h : decode fam true b0 b1 b2 b3 = .instr i) :
    decode fam atIdle b0 b1 b2 b3 = .instr i := by
  cases fam with
  | z80 => exact h
  | m6502 =>
    by_cases hb : b0 = 0x22
    · subst hb
      obtain rfl : Instr.mHaltSentinel = i := Decoded.instr.inj (decode_sentinel.symm.trans h)
      rw [hidle rfl, decode_sentinel]
    · rw [decode_m6502 fun hs => hb hs.1] at h ⊢
      exact h

/-- Settles O1: at the idle address by evaluation of each constructor, elsewhere because only the sentinel differs. -/
theorem decodeOfEncodeIsTheInstruction : Obligations.DecodeOfEncodeIsTheInstruction := by
  intro fam atIdle i b0 b1 b2 b3 hwf hprefix
  obtain ⟨rfl, hidle⟩ := wellFormed_iff.mp hwf
  exact decode_of_decode_atIdle hidle ((readBack_encode i).decode hprefix)

/-! ### Encode after decode -/

theorem encodedBy_of_decode {fam : Family} {atIdle : Bool} {b0 b1 b2 b3 : Byte} {i : Instr}
    (h : decode fam atIdle b0 b1 b2 b3 = .instr i) : EncodedBy fam [b0, b1, b2, b3] i := by
  cases fam with
  | m6502 =>
    by_cases hs : b0 = 0x22 ∧ atIdle = true
    · obtain ⟨rfl, rfl⟩ := hs
      obtain rfl : Instr.mHaltSentinel = i := Decoded.instr.inj (decode_sentinel.symm.trans h)
      exact ⟨rfl, ⟨[b1, b2, b3], rfl⟩, rfl⟩
    · rw [decode_m6502 hs] at h
      exact gridM6502_encodedBy (orIllegal_eq_instr.mp h)
  | z80 =>
    rcases z80_map_cases b0 b1 with rfl | rfl | ⟨rfl, rfl⟩ | ⟨rfl, hb⟩ | ⟨rfl, rfl⟩ | ⟨rfl, hb⟩ | hb
    · exact gridCb_encodedBy (orIllegal_eq_instr.mp (decode_cb.symm.trans h))
    · exact gridEd_encodedBy (orIllegal_eq_instr.mp (decode_ed.symm.trans h))
    · exact gridDdCb_encodedBy (orIllegal_eq_instr.mp (decode_ddCb.symm.trans h))
    · exact gridDd_encodedBy (orIllegal_eq_instr.mp ((decode_dd hb).symm.trans h))
    · exact gridFdCb_encodedBy (orIllegal_eq_instr.mp (decode_fdCb.symm.trans h))
    · exact gridFd_encodedBy (orIllegal_eq_instr.mp ((decode_fd hb).symm.trans h))
    · exact gridZ80_encodedBy (orIllegal_eq_instr.mp ((decode_unprefixed hb).symm.trans h))

/-- Away from the idle address no bytes are read as the sentinel: its byte has no entry in the map (R144). -/
theorem atIdle_of_decode_sentinel {fam : Family} {atIdle : Bool} {b0 b1 b2 b3 : Byte}
    (h : decode fam atIdle b0 b1 b2 b3 = .instr .mHaltSentinel) : atIdle = true := by
  obtain ⟨rfl, hprefix, -⟩ := encodedBy_of_decode h
  obtain rfl : 0x22 = b0 := (List.cons_prefix_cons.mp hprefix).1
  by_contra hidle
  have hnone : gridAt (gridM6502 b1 b2) 0x22 = none := (gridM6502_eq_none_iff ..).mpr (by decide)
  have hfam : Instr.mHaltSentinel.family = .m6502 := rfl
  rw [hfam, decode_m6502 fun hs => hidle hs.2, hnone] at h
  cases h

/-- Settles O2, map by map. -/
theorem encodeOfDecodeIsTheBytes : Obligations.EncodeOfDecodeIsTheBytes := by
  intro fam atIdle b0 b1 b2 b3 i h
  obtain ⟨hfam, hprefix, hlen⟩ := encodedBy_of_decode h
  exact ⟨wellFormed_iff.mpr ⟨hfam, fun hi => atIdle_of_decode_sentinel (hi ▸ h)⟩, hprefix, hlen⟩

/-! ### The illegal bytes -/

theorem gridCb_eq_none_iff (op : Byte) : gridAt gridCb op = none ↔ op.toNat / 8 = 6 := by
  rw [← Option.map_eq_none_iff (f := Instr.view), gridCb_view]
  split <;> simp_all

theorem gridDdCb_eq_none_iff (d op : Byte) :
    gridAt (gridDdCb d) op = none ↔ ¬ (op.toNat % 8 = 6 ∧ op.toNat / 8 ≠ 6) := by
  rw [← Option.map_eq_none_iff (f := Instr.view), gridDdCb_view]
  split <;> simp_all

theorem gridFdCb_eq_none_iff (d op : Byte) :
    gridAt (gridFdCb d) op = none ↔ ¬ (op.toNat % 8 = 6 ∧ op.toNat / 8 ≠ 6) := by
  rw [← Option.map_eq_none_iff (f := Instr.view), gridFdCb_view]
  split <;> simp_all

/-- Settles O3: the bytes with no entry, map by map. -/
theorem illegalOpcodesAreTheListedOnes : Obligations.IllegalOpcodesAreTheListedOnes := by
  refine ⟨fun atIdle b0 b1 b2 b3 k => ?_, fun atIdle b0 b1 b2 b3 k => ?_⟩
  · by_cases hs : b0 = 0x22 ∧ atIdle = true
    · obtain ⟨rfl, rfl⟩ := hs
      rw [decode_sentinel]
      simp
    · rw [decode_m6502 hs, orIllegal_eq_illegal, gridM6502_eq_none_iff, and_iff_left hs]
  · rcases z80_map_cases b0 b1 with rfl | rfl | ⟨rfl, rfl⟩ | ⟨rfl, hb⟩ | ⟨rfl, rfl⟩ | ⟨rfl, hb⟩ | hb
    · have hrange : b1.toNat / 8 = 6 ↔ 0x30 ≤ b1.toNat ∧ b1.toNat ≤ 0x37 := by omega
      rw [decode_cb, orIllegal_eq_illegal, gridCb_eq_none_iff, hrange]
      simp
    · rw [decode_ed, orIllegal_eq_illegal, gridEd_eq_none_iff]
      simp
    · rw [decode_ddCb, orIllegal_eq_illegal, gridDdCb_eq_none_iff]
      simp
    · rw [decode_dd hb, orIllegal_eq_illegal, gridDd_eq_none_iff]
      simp_all
    · rw [decode_fdCb, orIllegal_eq_illegal, gridFdCb_eq_none_iff]
      simp
    · rw [decode_fd hb, orIllegal_eq_illegal, gridFd_eq_none_iff]
      simp_all
    · rw [decode_unprefixed hb, orIllegal_eq_illegal, gridZ80_eq_none_iff]
      tauto

/-! ### The `CB` groups -/

theorem exists_instr_of_map_view {k : Illegal} {o : Option Instr} {v : View} (h : o.map Instr.view = some v) :
    ∃ i, orIllegal k o = .instr i ∧ i.view = v := by
  obtain ⟨i, rfl, hv⟩ := Option.map_eq_some_iff.mp h
  exact ⟨i, rfl, hv⟩

/-- Settles O4: the three maps as read by their fields. -/
theorem cbGroupIsReadByItsFields : Obligations.CbGroupIsReadByItsFields := by
  refine ⟨fun atIdle op b2 b3 hy => ?_, fun atIdle d op hz hy => ⟨?_, ?_⟩⟩
  · exact exists_instr_of_map_view ((gridCb_view op).trans (if_neg hy))
  · exact exists_instr_of_map_view ((gridDdCb_view d op).trans (if_pos ⟨hz, hy⟩))
  · exact exists_instr_of_map_view ((gridFdCb_view d op).trans (if_pos ⟨hz, hy⟩))

/-! ### Sample words -/

/-- Settles O5: the encodings of the instructions, and the sentinel's byte elsewhere. -/
theorem sampleWordsDecode : Obligations.SampleWordsDecode := by
  have reads := decodeOfEncodeIsTheInstruction
  exact ⟨reads _ _ _ _ _ _ _ rfl ⟨[0, 0], rfl⟩, reads _ _ _ _ _ _ _ rfl ⟨[0], rfl⟩,
    reads _ _ _ _ _ _ _ rfl ⟨[0, 0, 0], rfl⟩,
    (illegalOpcodesAreTheListedOnes.1 ..).mpr ⟨rfl, by decide, by decide⟩,
    reads _ _ _ _ _ _ _ rfl ⟨[0, 0, 0], rfl⟩, reads _ _ _ _ _ _ _ rfl ⟨[0, 0], rfl⟩,
    reads _ _ _ _ _ _ _ rfl ⟨[], rfl⟩, reads _ _ _ _ _ _ _ rfl ⟨[], rfl⟩⟩

end Sys2Proof
end

section
/-! PROOFS. The effective addresses of the M6502 addressing modes (O17). -/

namespace Sys2Proof.Machine

/-- Settles O17, mode by mode. -/
theorem m6502EffectiveAddresses : Obligations.M6502EffectiveAddresses := by
  intro b1 b2 s
  refine ⟨?_, ?_, ?_, ?_, ?_, ?_, ?_, ?_⟩
  · rw [MMode.ea, zext_eq]
  · rw [MMode.ea, zext_add]
  · rw [MMode.ea, zext_add]
  · rw [MMode.ea, word_eq]
  · rw [MMode.ea, word_eq, indexed_eq]
  · rw [MMode.ea, word_eq, indexed_eq]
  · rw [MMode.ea, zpPointer_eq]
  · simp only [MMode.ea, zpPointer_m]
    simp only [zpPointer_eq, indexed_eq]

end Sys2Proof.Machine
end

section
/-! PROOFS. The dispatch loop: the halts (O16), one pass of the loop inside a slice (O36, O37), the beginning and the end of
a slice (O38), and that no step stops the machine (O39). -/

namespace Sys2Proof.Machine

/-! ### The halts (R159, R160, R263) -/

theorem runMHalt_atIdle {s : State} (h : s.pc = s.cfg.idleAddr) : runMHalt s = haltAtIdle s := if_pos h

theorem runMHalt_elsewhere {s : State} (h : s.pc ≠ s.cfg.idleAddr) : runMHalt s = takeIllegal .m6502 s := if_neg h

theorem runZHalt_atIdle {s : State} (h : s.pc = s.cfg.idleAddr) : runZHalt s = haltAtIdle (countFetches 1 s) := if_pos h

theorem runZHalt_elsewhere {s : State} (h : s.pc ≠ s.cfg.idleAddr) :
    runZHalt s = haltElsewhere (countFetches 1 s) := if_neg h

theorem exec_mHalt {i : Instr} (hv : i.view = .m .halt) (s : State) : exec i s = .next (runMHalt s) := exec_m hv s

theorem exec_zHalt {i : Instr} (hv : i.view = .z .halt) (s : State) : exec i s = .next (runZHalt s) := exec_z hv s

/-- Settles O16: the two halts, each at the idle address and away from it. -/
theorem haltsAtAndAwayFromTheIdleAddress : Obligations.HaltsAtAndAwayFromTheIdleAddress := by
  intro i s
  refine ⟨fun hv hpc => ?_, fun hv hpc => ?_, fun hv hpc => ?_, fun hv hpc => ?_⟩
  · rw [exec_mHalt hv, runMHalt_atIdle hpc, haltAtIdle]
  · rw [exec_mHalt hv, runMHalt_elsewhere hpc]
    rfl
  · rw [exec_zHalt hv, runZHalt_atIdle hpc, refreshed_eq]
    rfl
  · rw [exec_zHalt hv, runZHalt_elsewhere hpc, refreshed_eq]
    rfl

/-! ### One pass of the loop (R152, R153, R158) -/

theorem step_host {s : State} {c : HostCall} {cs : List HostCall} (hc : s.control = .host) (hcalls : s.calls = c :: cs) :
    step s = .next (hostCall c { s with calls := cs }) := by
  have hturn : step s = .next (hostTurn s) := by rw [step, hc]
  rw [hturn, hostTurn, hcalls]

theorem step_slice {s : State} {c : Caller} (hc : s.control = .slice c) : step s = sliceStep c s := by
  rw [step, hc]

theorem sliceStep_haltedAtIdle {s : State} (h : s.phase = .haltedAtIdle) (c : Caller) :
    sliceStep c s = .next (sliceEnd c .haltedAtIdle s) := by
  rw [sliceStep, h]

theorem sliceStep_haltedElsewhere {s : State} (h : s.phase = .haltedElsewhere) (c : Caller) :
    sliceStep c s = .next (sliceEnd c .haltedElsewhere s) := by
  rw [sliceStep, h]

section
variable {s : State} (hi : s.phase ≠ .haltedAtIdle) (he : s.phase ≠ .haltedElsewhere)
include hi he

theorem sliceStep_timeUp (ht : s.endTime ≤ s.time) (c : Caller) : sliceStep c s = .next (sliceEnd c .timeUp s) := by
  unfold sliceStep
  split
  · contradiction
  · contradiction
  · exact if_pos ht

theorem sliceStep_running (ht : s.time < s.endTime) (c : Caller) : sliceStep c s = cpuStep s := by
  unfold sliceStep
  split
  · contradiction
  · contradiction
  · exact if_neg (Int.not_le.mpr ht)

end

theorem cpuStep_instr {s : State} {i : Instr} (hd : decodeAt s = .instr i) : cpuStep s = exec i s := by
  rw [cpuStep, hd, execDecoded]

theorem cpuStep_illegal {s : State} {k : Illegal} (hd : decodeAt s = .illegal k) :
    cpuStep s = .next (takeIllegal k s) := by
  rw [cpuStep, hd, execDecoded]

/-- The illegal-opcode path, with the refresh counter in exact arithmetic. -/
theorem takeIllegal_eq (k : Illegal) (s : State) :
    takeIllegal k s =
      { s with
        errorCount := s.errorCount + 1
        pc := s.pc + BitVec.ofNat 16 (s.cfg.illegal.entry k).len
        time := s.time + (s.cfg.illegal.entry k).cyc
        z := { s.z with r := if k = .m6502 then s.z.r else refreshed (illegalFetches k) s.z.r } } := by
  rw [refreshed_eq]
  cases k <;> rfl

/-- Settles O36: inside a slice the pass of the loop is the instruction decoded at `pc`. -/
theorem stepRunsTheDecodedInstruction : Obligations.StepRunsTheDecodedInstruction := by
  intro s c i hc hi he ht hd
  rw [step_slice hc, sliceStep_running hi he ht, cpuStep_instr hd]

/-- Settles O37: inside a slice the pass of the loop is the illegal-opcode path. -/
theorem illegalOpcodeIsCountedAndSkipped : Obligations.IllegalOpcodeIsCountedAndSkipped := by
  refine ⟨fun s c k hc hi he ht hd => ?_, fun k => by cases k <;> rfl⟩
  rw [step_slice hc, sliceStep_running hi he ht, cpuStep_illegal hd, takeIllegal_eq]
  cases k <;> rfl

/-- Settles O38: the call that begins the slice, and each way the slice ends. -/
theorem runBeginsAndEndsASlice : Obligations.RunBeginsAndEndsASlice := by
  refine ⟨fun s cs bound hc hcalls => ?_, fun s hc => ⟨fun hp ht => ?_, fun hp => ?_, fun hp => ?_⟩⟩
  · rw [step_host hc hcalls]
    rfl
  · have hi : s.phase ≠ .haltedAtIdle := by rcases hp with h | h <;> simp [h]
    have he : s.phase ≠ .haltedElsewhere := by rcases hp with h | h <;> simp [h]
    rw [step_slice hc, sliceStep_timeUp hi he ht]
    rfl
  · rw [step_slice hc, sliceStep_haltedAtIdle hp]
    rfl
  · rw [step_slice hc, sliceStep_haltedElsewhere hp]
    rfl

/-! ### No step stops the machine (R168, R570, R573) -/

theorem cpuStep_next (s : State) : ∃ t, cpuStep s = .next t := by
  unfold cpuStep
  cases decodeAt s with
  | instr i => exact ⟨_, exec_eq_next i s⟩
  | illegal k => exact ⟨_, rfl⟩

theorem sliceStep_next (c : Caller) (s : State) : ∃ t, sliceStep c s = .next t := by
  unfold sliceStep
  split
  · exact ⟨_, rfl⟩
  · exact ⟨_, rfl⟩
  · split
    · exact ⟨_, rfl⟩
    · exact cpuStep_next s

/-- Settles O39: by whoever moves next. -/
theorem everyStepAnswersNext : Obligations.EveryStepAnswersNext := by
  intro s
  unfold step
  cases s.control with
  | host => exact ⟨_, rfl⟩
  | frame target errors => exact ⟨_, rfl⟩
  | slice c => exact sliceStep_next c s

end Sys2Proof.Machine
end

section
/-! PROOFS. The host's calls on the driver and on the core's clock, and the calls that are refused (O60). -/

namespace Sys2Proof.Machine

/-- What a mute mask does to the chips does not depend on the pending calls. -/
theorem chipsMuted_calls (mask : Nat) (cs : List HostCall) (chips : List Chip) (s : State) :
    chips.foldl (chipMuted mask) { s with calls := cs } = { chips.foldl (chipMuted mask) s with calls := cs } :=
  List.foldl_hom (fun u : State => { u with calls := cs }) fun _ c => by cases c <;> rfl

section
variable {s : State} {cs : List HostCall}

/-- A call that is finished between two calls of the host: its result is recorded. -/
theorem finish_host (hc : s.control = .host) (r : HostResult) : finish r s = { s with results := r :: s.results } := by
  rw [finish, ← hc]

/-- A refused call changes the record of refusals alone (R578). -/
theorem finishRefused_host (hc : s.control = .host) (r : CallRefusal) :
    finishRefused r s = { s with refusals := r :: s.refusals, results := .refused r :: s.results } :=
  finish_host (s := refuse r s) hc _

theorem hostCall_setTempo_started (hs : s.started = true) {m : Rat} (hm : 0 < m) :
    hostCall (.setTempo m) s = finish .done { s with tempo := m, playPeriod := periodAt (s.image.period s.cfg) m } := by
  simp [hostCall, hs, not_le.mpr hm]

theorem hostCall_setTempo_badTempo (hs : s.started = true) {m : Rat} (hm : m ≤ 0) :
    hostCall (.setTempo m) s = finishRefused .badTempo s := by
  simp [hostCall, hs, hm]

theorem hostCall_setTempo_noTrack (hs : s.started = false) (m : Rat) :
    hostCall (.setTempo m) s = finishRefused .noTrack s := by
  simp [hostCall, hs]

theorem hostCall_setVoiceMute_started (hs : s.started = true) (mask : Nat) :
    hostCall (.setVoiceMute mask) s = finish .done (s.cfg.chips.foldl (chipMuted mask) { s with voiceMute := mask }) := by
  simp [hostCall, hs, muteAll_eq]

theorem hostCall_setVoiceMute_noTrack (hs : s.started = false) (mask : Nat) :
    hostCall (.setVoiceMute mask) s = finishRefused .noTrack s := by
  simp [hostCall, hs]

theorem hostCall_endFrame_started (hs : s.started = true) {target : Int} (ht : 0 < target) :
    hostCall (.endFrame target) s = { s with control := .frame target s.errorCount } := by
  simp [hostCall, hs, not_le.mpr ht]

theorem hostCall_endFrame_badDuration (hs : s.started = true) {target : Int} (ht : target ≤ 0) :
    hostCall (.endFrame target) s = finishRefused .badDuration s := by
  simp [hostCall, hs, ht]

theorem hostCall_endFrame_noTrack (hs : s.started = false) (target : Int) :
    hostCall (.endFrame target) s = finish (.duration 0) (refuse .noTrack s) := by
  simp [hostCall, hs]

end

/-- The state after a call of `set_voice_mute` is finished (R549). -/
theorem finish_chipsMuted {s : State} (hc : s.control = .host) (cs : List HostCall) (mask : Nat) (chips : List Chip) :
    finish .done (chips.foldl (chipMuted mask) { s with calls := cs, voiceMute := mask }) =
      { chips.foldl (chipMuted mask) { s with voiceMute := mask } with calls := cs, results := .done :: s.results } := by
  rw [chipsMuted_calls mask cs chips { s with voiceMute := mask }, chipsMuted_frame, finish_host (by exact hc)]

/-- Settles O60, call by call. -/
theorem hostCallsDoWhatTheyAreCalledFor : Obligations.HostCallsDoWhatTheyAreCalledFor := by
  intro s cs hc ret no
  have refused (r : CallRefusal) :
      finishRefused r { s with calls := cs } = ret (.refused r) (no r) :=
    finishRefused_host (s := { s with calls := cs }) hc r
  refine ⟨fun hcalls => ?_, fun t hcalls => ?_, fun t hcalls => ?_, fun m hcalls => ⟨fun hs hm => ?_, fun hs hm => ?_,
    fun hs => ?_⟩, fun hcalls => ?_, fun w hcalls => ?_, fun mask hcalls => ⟨fun hs => ?_, fun hs => ?_⟩,
    fun c voice o hv => chipSetOutput_beyond c voice o s hv,
    fun target hcalls => ⟨fun hs ht => ?_, fun hs ht => ?_, fun hs => ?_⟩⟩
  all_goals rw [step_host hc hcalls]
  · exact congrArg _ (finish_host (s := { s with calls := cs }) hc _)
  · exact congrArg _ (finish_host (s := { s with calls := cs, time := t }) hc _)
  · exact congrArg _ (finish_host (s := { s with calls := cs, endTime := t }) hc _)
  · rw [hostCall_setTempo_started (by exact hs) hm]
    exact congrArg _ (finish_host (by exact hc) _)
  · rw [hostCall_setTempo_badTempo (by exact hs) hm, refused]
  · rw [hostCall_setTempo_noTrack (by exact hs), refused]
  · exact congrArg _ (finish_host (s := { s with calls := cs, warning := none }) hc _)
  · exact congrArg _ (finish_host (s := { s with calls := cs, warning := some w }) hc _)
  · rw [hostCall_setVoiceMute_started (by exact hs)]
    exact congrArg _ (finish_chipsMuted hc cs mask _)
  · rw [hostCall_setVoiceMute_noTrack (by exact hs), refused]
  · rw [hostCall_endFrame_started (by exact hs) ht]
  · rw [hostCall_endFrame_badDuration (by exact hs) ht, refused]
  · rw [hostCall_endFrame_noTrack (by exact hs)]
    exact congrArg _ (finish_host (by exact hc) _)

end Sys2Proof.Machine
end


section
/-! PROOFS. The time an instruction takes and where it leaves `pc` (O40): after the fetch every instruction is a sequence of
operations that move neither, but for the `EXTRA` of its shape and for a transfer of control. -/

namespace Sys2Proof.Machine

/-! ### The `EXTRA` of each shape (R125, R140) -/

/-- The most `EXTRA` an M6502 instruction adds. -/
def mMaxExtra (v : MView) (x : ExtraTable) : Nat :=
  match v with
  | .read _ _ => x.pageCross
  | .branch _ _ => x.branchTaken + x.branchCross
  | _ => 0

/-- The most `EXTRA` a Z80 instruction adds. -/
def zMaxExtra (v : ZView) (x : ExtraTable) : Nat :=
  match v with
  | .ldBlock _ _ => x.blockRepeat
  | .cpBlock _ _ => x.blockRepeat
  | .jrCC _ _ => x.jrTaken
  | .djnz _ => x.djnzTaken
  | .callCC _ _ _ => x.callTaken
  | .retCC _ => x.retTaken
  | .inBlock _ _ => x.blockRepeat
  | .outBlock _ _ => x.blockRepeat
  | _ => 0

/-- The most `EXTRA` an instruction adds. -/
def maxExtra (v : View) (x : ExtraTable) : Nat :=
  match v with
  | .m v => mMaxExtra v x
  | .z v => zMaxExtra v x

/-- Row by row of the opcode table (R156): every instruction but the two halts costs at least 2 cycles. -/
theorem two_le_row_cyc (i : Instr) (h : i.view.halts = false) : 2 ≤ i.row.cyc := by
  cases i
  case mHaltSentinel => cases h
  all_goals exact Nat.le_of_ble_eq_true rfl

/-- Row by row of the opcode table (R156): `CYC` and `EXTRA` are at most the largest cost of the family. -/
theorem row_cyc_add_maxExtra_le (i : Instr) : i.row.cyc + maxExtra i.view Config.extraCycles ≤ maxCost i.family := by
  cases i <;> exact Nat.le_of_ble_eq_true rfl

/-! ### From the fetch to the end of the body -/

/-- From `b` to `t` at most `x` cycles pass, and `pc` stays unless the instruction transfers control. -/
structure Spent (transfers : Bool) (x : Nat) (b t : State) : Prop where
  pc : transfers = false → t.pc = b.pc
  atLeast : b.time ≤ t.time
  atMost : t.time ≤ b.time + x

section
variable {tr : Bool} {x : Nat} {b t u : State}

theorem Spent.refl (tr : Bool) (x : Nat) (b : State) : Spent tr x b b := ⟨fun _ => rfl, by omega, by omega⟩

/-- A change of anything but `pc` and the time. -/
theorem Spent.keep (h : Spent tr x b t) (hpc : u.pc = t.pc) (htime : u.time = t.time) : Spent tr x b u :=
  ⟨fun e => hpc.trans (h.pc e), htime ▸ h.atLeast, htime ▸ h.atMost⟩

/-- A change of registers and of the counter of free values. -/
theorem Spent.regs (h : Spent tr x b t) (e : u = { t with m := u.m, z := u.z, draws := u.draws }) : Spent tr x b u := by
  rw [e]; exact h.keep rfl rfl

theorem Spent.read (h : Spent tr x b t) (a : Word) : Spent tr x b (memRead a t).2 :=
  h.keep (memRead_pc ..) (memRead_time ..)

theorem Spent.write (h : Spent tr x b t) (a : Word) (v : Byte) : Spent tr x b (memWrite a v t) :=
  h.keep (memWrite_pc ..) (memWrite_time ..)

theorem Spent.portIn (h : Spent tr x b t) (p : Word) : Spent tr x b (portIn p t).2 :=
  h.keep (portIn_pc ..) (portIn_time ..)

theorem Spent.portOut (h : Spent tr x b t) (p : Word) (v : Byte) : Spent tr x b (portOut p v t) :=
  h.keep (portOut_pc ..) (portOut_time ..)

theorem Spent.read16 (h : Spent tr x b t) (a : Word) : Spent tr x b (memRead16 a t).2 := (h.read _).read _

theorem Spent.write16 (h : Spent tr x b t) (a v : Word) : Spent tr x b (memWrite16 a v t) := (h.write _ _).write _ _

theorem Spent.push (h : Spent tr x b t) (v : Byte) : Spent tr x b (push v t) := h.keep (push_pc ..) (push_time ..)

theorem Spent.pull (h : Spent tr x b t) : Spent tr x b (pull t).2 := h.keep (pull_pc ..) (pull_time ..)

theorem Spent.push16 (h : Spent tr x b t) (v : Word) : Spent tr x b (push16 v t) := h.keep (push16_pc ..) (push16_time ..)

theorem Spent.pop16 (h : Spent tr x b t) : Spent tr x b (pop16 t).2 := h.keep (pop16_pc ..) (pop16_time ..)

theorem Spent.ea (h : Spent tr x b t) (md : MMode) : Spent tr x b (md.ea t).st := by
  cases md with
  | izx _ | izy _ => exact (h.read _).read _
  | _ => exact h

/-- The end of a transfer of control. -/
theorem Spent.jump (h : Spent true x b t) (e : u = { t with pc := u.pc, m := u.m, z := u.z, draws := u.draws }) :
    Spent true x b u := by
  rw [e]; exact ⟨nofun, h.atLeast, h.atMost⟩

/-- `EXTRA` is added once. -/
theorem Spent.charge {n : Nat} (h : Spent tr 0 b t) (hn : n ≤ x) : Spent tr x b (charge n t) := by
  have hl := h.atLeast
  have hm := h.atMost
  refine ⟨h.pc, ?_, ?_⟩ <;> rw [charge_time] <;> omega

theorem Spent.ite {p : Prop} [Decidable p] (h : Spent tr x b t) (g : Spent tr x b u) :
    Spent tr x b (if p then t else u) := by
  split
  · exact h
  · exact g

/-- The end of a block instruction: only one of the repeating form repeats (R308). -/
theorem Spent.repeats {rep again : Bool} {s : State} (h : ∀ tr x, Spent tr x b t) (hrep : again = true → rep = true) :
    Spent rep s.cfg.extra.blockRepeat b (zRepeat again s t) := by
  unfold zRepeat
  split
  · rw [hrep ‹_›]
    exact Spent.charge ((h true 0).jump rfl) le_rfl
  · exact h _ _

end

/-! ### The shapes of the M6502 -/

theorem runMRead_spent (c : Nat) (op : MReadOp) (f : MForm) (s : State) :
    Spent false s.cfg.extra.pageCross (beginM (MView.read op f).len c s) (runMRead c op f s) := by
  cases f with
  | imm v => exact (Spent.refl ..).regs rfl
  | mem md =>
    have h := ((Spent.refl false 0 (beginM md.len c s)).ea md).read (md.ea (beginM md.len c s)).addr
    refine Spent.charge (h.regs rfl) ?_
    split
    · exact le_rfl
    · exact Nat.zero_le _

theorem runMBranch_spent (c : Nat) (k : MCond) (v : Byte) (s : State) :
    Spent true (s.cfg.extra.branchTaken + s.cfg.extra.branchCross) (beginM 2 c s) (runMBranch c k v s) := by
  refine Spent.ite (Spent.charge ((Spent.refl true 0 (beginM 2 c s)).jump rfl) ?_) (Spent.refl ..)
  split
  · exact Nat.le_add_right ..
  · exact le_rfl

theorem runMBrk_spent (c : Nat) (s : State) : Spent true 0 (beginM 1 c s) (runMBrk c s) :=
  ((((((Spent.refl true 0 (beginM 1 c s)).push _).push _).push _).regs rfl).read16 _).jump rfl

/-- What an M6502 instruction other than the halt spends after its fetch. -/
theorem mView_run_spent (v : MView) (h : v ≠ .halt) (c : Nat) (s : State) :
    Spent (View.m v).transfers (mMaxExtra v s.cfg.extra) (beginM v.len c s) (v.run c s) := by
  cases v with
  | read op f => exact runMRead_spent c op f s
  | store r md => exact ((Spent.refl ..).ea md).write _ _
  | modify op md => exact ((((Spent.refl ..).ea md).read _).write _ _).regs rfl
  | acc op | implied op => exact (Spent.refl ..).regs rfl
  | pha | php => exact (Spent.refl ..).push _
  | pla | plp => exact (Spent.refl ..).pull.regs rfl
  | jmp b1 b2 => exact (Spent.refl ..).jump rfl
  | jmpInd b1 b2 => exact (((Spent.refl ..).read _).read _).jump rfl
  | jsr b1 b2 => exact (((Spent.refl ..).push _).push _).jump rfl
  | rts => exact (Spent.refl ..).pull.pull.jump rfl
  | rti => exact ((Spent.refl ..).pull.regs rfl).pull.pull.jump rfl
  | branch k b1 => exact runMBranch_spent c k b1 s
  | brk => exact runMBrk_spent c s
  | halt => exact absurd rfl h

/-! ### The shapes of the Z80 -/

section
variable {tr : Bool} {x : Nat} (k : Cost) (addr : Z80Regs → Word) (s : State)

theorem zLoad_spent (f : Byte → Z80Regs → Z80Regs) : Spent tr x (beginZ k s) (zLoad k addr f s) :=
  ((Spent.refl ..).read _).regs rfl

theorem zLoadFlags_spent (f : Byte → Byte → Z80Regs → Z80Regs) : Spent tr x (beginZ k s) (zLoadFlags k addr f s) :=
  ((Spent.refl ..).read _).regs rfl

theorem zStore_spent (val : Z80Regs → Byte) : Spent tr x (beginZ k s) (zStore k addr val s) := (Spent.refl ..).write _ _

theorem zModify_spent (f : Byte → Byte) : Spent tr x (beginZ k s) (zModify k addr f s) :=
  ((Spent.refl ..).read _).write _ _

theorem zModifyFlags_spent (f : Byte → Byte → Z80Regs → Byte × Z80Regs) :
    Spent tr x (beginZ k s) (zModifyFlags k addr f s) :=
  (((Spent.refl ..).read _).write _ _).regs rfl

theorem zLoad16_spent (a : Word) (f : Word → Z80Regs → Z80Regs) : Spent tr x (beginZ k s) (zLoad16 k a f s) :=
  ((Spent.refl ..).read16 _).regs rfl

theorem zStore16_spent (a : Word) (val : Z80Regs → Word) : Spent tr x (beginZ k s) (zStore16 k a val s) :=
  (Spent.refl ..).write16 _ _

end

theorem runZDjnz_spent (c : Nat) (e : Byte) (s : State) :
    Spent true s.cfg.extra.djnzTaken (beginZ ⟨2, c, 1⟩ s) (runZDjnz c e s) :=
  .ite ((Spent.refl ..).regs rfl) (.charge ((Spent.refl true 0 (beginZ ⟨2, c, 1⟩ s)).jump rfl) le_rfl)

theorem runZExSP_spent (c : Nat) (p : HLXY) (s : State) :
    Spent false 0 (beginZ (p.cost ⟨1, c, 1⟩ ⟨2, c, 2⟩) s) (runZExSP c p s) :=
  ((((Spent.refl false 0 (beginZ (p.cost ⟨1, c, 1⟩ ⟨2, c, 2⟩) s)).read16 _).write _ _).write _ _).regs rfl

section
variable (c : Nat) (d : Dir) (rep : Bool) (s : State)

theorem runZLdBlock_spent : Spent rep s.cfg.extra.blockRepeat (beginZ ⟨2, c, 2⟩ s) (runZLdBlock c d rep s) :=
  .repeats (fun tr x => (((Spent.refl tr x (beginZ ⟨2, c, 2⟩ s)).read _).write _ _).regs rfl) (by simp +contextual)

theorem runZCpBlock_spent : Spent rep s.cfg.extra.blockRepeat (beginZ ⟨2, c, 2⟩ s) (runZCpBlock c d rep s) :=
  .repeats (fun _ _ => zLoadFlags_spent ..) (by simp +contextual)

theorem runZInBlock_spent : Spent rep s.cfg.extra.blockRepeat (beginZ ⟨2, c, 2⟩ s) (runZInBlock c d rep s) :=
  .repeats (fun tr x => (((Spent.refl tr x (beginZ ⟨2, c, 2⟩ s)).portIn _).write _ _).regs rfl) (by simp +contextual)

theorem runZOutBlock_spent : Spent rep s.cfg.extra.blockRepeat (beginZ ⟨2, c, 2⟩ s) (runZOutBlock c d rep s) :=
  .repeats (fun tr x => (((Spent.refl tr x (beginZ ⟨2, c, 2⟩ s)).read _).portOut _ _).regs rfl) (by simp +contextual)

end

/-- What a Z80 instruction other than the halt spends after its fetch. -/
theorem zView_run_spent (v : ZView) (h : v ≠ .halt) (c : Nat) (s : State) :
    Spent (View.z v).transfers (zMaxExtra v s.cfg.extra) (beginZ (v.cost c) s) (v.run c s) := by
  cases v with
  -- registers and flags alone
  | ldRR _ _ | ldRN _ _ | ldAIR _ | ldIRA _ | ldPN _ _ _ | ldSP _ | exDEHL | exAF | exx | incDecR _ _ | gen _ | arith16 _ _
  | addXY _ _ | incDec16 _ _ | accRot _ | nop | di | ei | im _ => exact (Spent.refl ..).regs rfl
  -- data reads
  | ldRM _ _ | ldAP _ => exact zLoad_spent ..
  | ldANn lo hi => exact zLoad_spent _ (fun _ => word lo hi) s _
  | ldHLNn _ _ | ldPNn _ _ _ => exact zLoad16_spent ..
  | alu op src =>
    cases src with
    | reg _ | imm _ => exact (Spent.refl ..).regs rfl
    | mem _ => exact zLoadFlags_spent ..
  | bit n tgt =>
    cases tgt with
    | reg _ => exact (Spent.refl ..).regs rfl
    | mem _ => unfold ZView.run runZBit; exact zLoadFlags_spent ..
  | pop p => exact (Spent.refl ..).pop16.regs rfl
  -- stores
  | ldMR _ _ => unfold ZView.run runZLdMR; exact zStore_spent ..
  | ldMN _ _ => unfold ZView.run runZLdMN; exact zStore_spent ..
  | ldPA _ => unfold ZView.run runZLdPA; exact zStore_spent ..
  | ldNnA lo hi => unfold ZView.run runZLdNnA; exact zStore_spent _ (fun _ => word lo hi) s _
  | ldNnHL _ _ | ldNnP _ _ _ => exact zStore16_spent ..
  | incDecM _ _ => unfold ZView.run runZIncDecM; exact zModifyFlags_spent ..
  | rld => unfold ZView.run runZRld; exact zModifyFlags_spent ..
  | rrd => unfold ZView.run runZRrd; exact zModifyFlags_spent ..
  | rot op tgt =>
    cases tgt with
    | reg _ => exact (Spent.refl ..).regs rfl
    | mem _ => unfold ZView.run runZRot; exact zModifyFlags_spent ..
  | setB _ tgt =>
    cases tgt with
    | reg _ => exact (Spent.refl ..).regs rfl
    | mem _ => unfold ZView.run runZSet; exact zModify_spent ..
  | resB _ tgt =>
    cases tgt with
    | reg _ => exact (Spent.refl ..).regs rfl
    | mem _ => unfold ZView.run runZRes; exact zModify_spent ..
  | push p => exact (Spent.refl ..).push16 _
  | exSP p => exact runZExSP_spent c p s
  -- ports
  | inAN _ | inRC _ => exact ((Spent.refl ..).portIn _).regs rfl
  | outNA _ | outCR _ => exact (Spent.refl ..).portOut _ _
  -- block instructions
  | ldBlock d rep => cases rep <;> exact runZLdBlock_spent c d _ s
  | cpBlock d rep => cases rep <;> exact runZCpBlock_spent c d _ s
  | inBlock d rep => cases rep <;> exact runZInBlock_spent c d _ s
  | outBlock d rep => cases rep <;> exact runZOutBlock_spent c d _ s
  -- transfers of control
  | jp _ _ | jpCC _ _ _ | jr _ | jpHL _ => exact (Spent.refl ..).jump rfl
  | jrCC _ _ => exact .ite (.charge ((Spent.refl true 0 (beginZ ⟨2, c, 1⟩ s)).jump rfl) le_rfl) (Spent.refl ..)
  | djnz e => exact runZDjnz_spent c e s
  | call _ _ | rst _ => exact ((Spent.refl ..).push16 _).jump rfl
  | callCC _ _ _ =>
    exact .ite (.charge (((Spent.refl true 0 (beginZ ⟨3, c, 1⟩ s)).push16 _).jump rfl) le_rfl) (Spent.refl ..)
  | ret | reti | retn => exact (Spent.refl ..).pop16.jump rfl
  | retCC _ =>
    exact .ite (.charge ((Spent.refl true 0 (beginZ ⟨1, c, 1⟩ s)).pop16.jump rfl) le_rfl) (Spent.refl ..)
  | halt => exact absurd rfl h

/-! ### Every instruction -/

/-- The body begins with `pc` past the bytes of the instruction (R153). -/
theorem fetched_pc (i : Instr) (s : State) : (fetched i s).pc = s.pc + BitVec.ofNat 16 i.row.len := by
  unfold fetched
  split <;> rfl

/-- The body begins with `CYC` of the row added (R153). -/
theorem fetched_time (i : Instr) (s : State) : (fetched i s).time = s.time + i.cyc s.cfg := by
  unfold fetched
  split <;> rfl

theorem ne_halt_of_halts_eq_false {w : View} (h : w.halts = false) : w ≠ .m .halt ∧ w ≠ .z .halt := by
  constructor <;> rintro rfl <;> cases h

/-- A halt is among the instructions that do not go on to the next one. -/
theorem halts_eq_false_of_transfers_eq_false {w : View} (h : w.transfers = false) : w.halts = false :=
  halts_eq_false (by rintro rfl; cases h) (by rintro rfl; cases h)

section
variable {i : Instr} {s t : State} (h : exec i s = .next t)
include h

/-- What an instruction other than the two halts spends after its fetch. -/
theorem exec_spent (hv : i.view.halts = false) :
    Spent i.view.transfers (maxExtra i.view s.cfg.extra) (fetched i s) t := by
  obtain ⟨hm, hz⟩ := ne_halt_of_halts_eq_false hv
  cases e : i.view with
  | m v =>
    rw [exec_m e] at h
    injection h with h
    rw [← h, fetched_m e]
    exact mView_run_spent v (fun hh => hm (e.trans (congrArg _ hh))) _ s
  | z v =>
    rw [exec_z e] at h
    injection h with h
    rw [← h, fetched_z e]
    exact zView_run_spent v (fun hh => hz (e.trans (congrArg _ hh))) _ s

theorem exec_time_ge (hv : i.view.halts = false) : s.time + i.cyc s.cfg ≤ t.time := by
  rw [← fetched_time]
  exact (exec_spent h hv).atLeast

/-- An instruction that goes on to the next one leaves `pc` past its bytes (R153). -/
theorem exec_pc (htr : i.view.transfers = false) : t.pc = s.pc + BitVec.ofNat 16 i.row.len := by
  rw [← fetched_pc]
  exact (exec_spent h (halts_eq_false_of_transfers_eq_false htr)).pc htr

end

/-- With the costs of the spec, an instruction of the machine's family costs what its row of the opcode table says. -/
theorem cyc_of_standardCosts {i : Instr} {c : Cfg} (hfam : i.family = c.family) (hstd : c.standardCosts) :
    i.cyc c = i.row.cyc := by
  rw [← cyc_eq i, Instr.cyc, Instr.cyc, hstd.1, hfam]

/-- With the costs of the spec, an instruction costs at most the largest cost of its family (R156). -/
theorem exec_time_le {i : Instr} {s t : State} (h : exec i s = .next t) (hv : i.view.halts = false)
    (hfam : i.family = s.cfg.family) (hstd : s.cfg.standardCosts) : t.time ≤ s.time + maxCost i.family := by
  have hspent := (exec_spent h hv).atMost
  rw [fetched_time, cyc_of_standardCosts hfam hstd, hstd.2.1] at hspent
  have hrow := row_cyc_add_maxExtra_le i
  omega

/-! ### A step inside a slice (R152 to R158, R162) -/

@[simp] theorem takeIllegal_time (k : Illegal) (s : State) :
    (takeIllegal k s).time = s.time + (s.cfg.illegal.entry k).cyc := by
  cases k <;> rfl

@[simp] theorem takeIllegal_endTime (k : Illegal) (s : State) : (takeIllegal k s).endTime = s.endTime := by
  cases k <;> rfl

theorem cpuStep_cases {s t : State} (h : cpuStep s = .next t) :
    (∃ i, decodeAt s = .instr i ∧ exec i s = .next t) ∨ ∃ k, decodeAt s = .illegal k ∧ t = takeIllegal k s := by
  cases hd : decodeAt s with
  | instr i => exact .inl ⟨i, rfl, cpuStep_instr hd ▸ h⟩
  | illegal k =>
    rw [cpuStep_illegal hd] at h
    injection h with h
    exact .inr ⟨k, rfl, h.symm⟩

/-- No instruction lowers the time, the halts included. -/
theorem exec_time_mono {i : Instr} {s t : State} (h : exec i s = .next t) : s.time ≤ t.time := by
  rcases exec_cases h with ⟨hv, -⟩ | ⟨-, rfl | rfl⟩ | ⟨-, rfl | rfl⟩
  · have := exec_time_ge h hv
    omega
  · exact le_rfl
  · rw [takeIllegal_time]
    omega
  · exact le_rfl
  · rw [haltElsewhere_time, countFetches_time]
    omega

theorem cpuStep_time_mono {s t : State} (h : cpuStep s = .next t) : s.time ≤ t.time := by
  rcases cpuStep_cases h with ⟨i, -, h⟩ | ⟨k, -, rfl⟩
  · exact exec_time_mono h
  · rw [takeIllegal_time]
    omega

/-- A step leaves `end_time` unless a callback sets it (R165). -/
theorem cpuStep_endTime {s t : State} (h : cpuStep s = .next t) (hc : noCallback s.cfg) : t.endTime = s.endTime := by
  rcases cpuStep_cases h with ⟨i, -, h⟩ | ⟨k, -, rfl⟩
  · obtain ⟨-, -, -, -, -, -, hend, -⟩ := instructionFrame i s t h
    exact hend hc
  · exact takeIllegal_endTime k s

theorem maxCost_pos (fam : Family) : 0 < maxCost fam := by cases fam <;> decide

/-- A step that began before `end_time` goes on by 2 cycles at least, unless it halts at the idle address, and overshoots by
less than the largest cost of the family. -/
def OvershootBounded (s t : State) : Prop :=
  t.time ≤ s.endTime + (maxCost s.cfg.family - 1) ∧ (t.phase = .haltedAtIdle ∨ s.time + 2 ≤ t.time)

section
variable {s t : State} (ht : s.time < s.endTime)
include ht

/-- So it is where the step costs from 2 cycles to the largest cost of the family (R156). -/
theorem OvershootBounded.of_cost (hlo : s.time + 2 ≤ t.time) (hhi : t.time ≤ s.time + maxCost s.cfg.family) :
    OvershootBounded s t :=
  ⟨by omega, .inr hlo⟩

theorem OvershootBounded.of_haltedAtIdle (hphase : t.phase = .haltedAtIdle) (htime : t.time = s.time) :
    OvershootBounded s t := by
  have hpos := maxCost_pos s.cfg.family
  exact ⟨by omega, .inl hphase⟩

/-- A Z80 HALT elsewhere ends the slice (R160). -/
theorem OvershootBounded.of_haltElsewhere (hfam : s.cfg.family = .z80) :
    OvershootBounded s (haltElsewhere (countFetches 1 s)) := by
  unfold OvershootBounded
  rw [haltElsewhere_time, countFetches_time, countFetches_endTime, hfam]
  simp only [maxCost]
  omega

theorem OvershootBounded.of_illegal {k : Illegal} (hstd : s.cfg.standardCosts)
    (hk : s.cfg.family = .m6502 → k = .m6502) : OvershootBounded s (takeIllegal k s) := by
  have hcyc : 2 ≤ (Config.illegalCosts.entry k).cyc ∧ (Config.illegalCosts.entry k).cyc ≤ maxCost s.cfg.family := by
    cases hfam : s.cfg.family with
    | m6502 => rw [hk hfam]; decide
    | z80 => cases k <;> decide
  obtain ⟨-, -, hill⟩ := hstd
  refine .of_cost ht ?_ ?_ <;> rw [takeIllegal_time, hill] <;> omega

theorem OvershootBounded.of_exec {i : Instr} (h : exec i s = .next t) (hfam : i.family = s.cfg.family)
    (hstd : s.cfg.standardCosts) : OvershootBounded s t := by
  rcases exec_cases h with ⟨hv, -⟩ | ⟨hv, rfl | rfl⟩ | ⟨hv, rfl | rfl⟩
  · have hlo := exec_time_ge h hv
    have hrow := two_le_row_cyc i hv
    rw [cyc_of_standardCosts hfam hstd] at hlo
    exact .of_cost ht (by omega) (hfam ▸ exec_time_le h hv hfam hstd)
  · exact .of_haltedAtIdle ht rfl rfl
  · exact .of_illegal ht hstd fun _ => rfl
  · exact .of_haltedAtIdle ht rfl rfl
  · refine .of_haltElsewhere ht ?_
    rw [← hfam, Instr.family, hv]

theorem cpuStep_overshootBounded (h : cpuStep s = .next t) (hstd : s.cfg.standardCosts) : OvershootBounded s t := by
  rcases cpuStep_cases h with ⟨i, hd, h⟩ | ⟨k, hd, rfl⟩
  · exact .of_exec ht h (encodedBy_of_decode hd).family hstd
  · refine .of_illegal ht hstd fun hfam => ?_
    rw [decodeAt, hfam] at hd
    exact ((illegalOpcodesAreTheListedOnes.1 ..).mp hd).1

end

/-- Settles O40: from what each shape spends after its fetch, and from the ways an instruction can end. -/
theorem instructionTimeAndPc : Obligations.InstructionTimeAndPc := by
  refine ⟨fun i s t h => ⟨exec_time_ge h, exec_time_le h, exec_pc h⟩, cyc_eq, fun s t c hc hi he ht h => ?_⟩
  rw [step_slice hc, sliceStep_running hi he ht] at h
  exact ⟨cpuStep_time_mono h, cpuStep_endTime h, cpuStep_overshootBounded ht h⟩

end Sys2Proof.Machine
end

section
/-! PROOFS. The M6502 loads, stores, instructions on registers and flags alone, and stack instructions (O6, O9, O11, O12):
one equation per shape, said of the state the body finds. -/

namespace Sys2Proof.Machine

/-! ### What the body finds, and the stack in the spec's arithmetic (R30, R153) -/

/-- The fetch writes no register of the M6502. -/
@[simp] theorem fetched_mRegs (i : Instr) (s : State) : (fetched i s).m = s.m := by
  unfold fetched
  split <;> rfl

/-- `Push(v)`: one data write in the stack page, then SP is decremented (R30). -/
theorem push_eq (v : Byte) (t : State) :
    push v t = { memWrite (stackPage t.m.sp) v t with m := { t.m with sp := t.m.sp - 1 } } := by
  rw [push, stackAddr_eq, memWrite_m]

/-- `Pull()`: SP is incremented, then one data read in the stack page (R30). -/
theorem pull_eq (t : State) :
    pull t = memRead (stackPage (t.m.sp + 1)) { t with m := { t.m with sp := t.m.sp + 1 } } := by
  rw [pull, stackAddr_eq]

/-! ### One equation per shape -/

section
variable {i : Instr} (s : State)

/-- A read-class instruction answers: operand, registers, and `EXTRA` if the index crossed a page (R124, R125). -/
theorem exec_mRead {op : MReadOp} {f : MForm} (h : i.view = .m (.read op f)) :
    exec i s = .next
      (let x := mOperand f (fetched i s)
       { x.2 with time := x.2.time + mExtra f (fetched i s), m := op.apply x.1 x.2.m }) := by
  rw [exec_m h, MView.run, runMRead_eq, fetched_m h]

/-- A store answers the state after one data write of its register at the effective address (R185 to R187). -/
theorem exec_mStore {r : MReg} {md : MMode} (h : i.view = .m (.store r md)) :
    exec i s = .next (memWrite (md.ea (fetched i s)).addr (r.get s.m) (md.ea (fetched i s)).st) := by
  have hm : (md.ea (fetched i s)).st.m = s.m := by rw [ea_m, fetched_mRegs]
  rw [fetched_m h, MView.len] at hm ⊢
  rw [exec_m h, MView.run, runMStore, hm]

/-- An instruction on registers and flags alone answers the state with those written. -/
theorem exec_mImplied {op : MImpl} (h : i.view = .m (.implied op)) :
    exec i s = .next { fetched i s with m := mImplied op s.m } := by
  rw [exec_m h, MView.run, runMImplied, implied_eq, fetched_m h]
  rfl

theorem exec_mPha (h : i.view = .m .pha) : exec i s = .next (push s.m.a (fetched i s)) := by
  rw [exec_m h, fetched_m h]
  rfl

theorem exec_mPhp (h : i.view = .m .php) : exec i s = .next (push (statusByte s.m.p) (fetched i s)) := by
  rw [exec_m h, fetched_m h, ← toByte_eq]
  rfl

theorem exec_mPla (h : i.view = .m .pla) :
    exec i s = .next
      (let x := pull (fetched i s)
       { x.2 with m := { x.2.m with a := x.1, p := withNZ x.1 x.2.m.p } }) := by
  rw [exec_m h, MView.run, runMPla, fetched_m h]
  simp only [setNZ_eq, MView.len]

theorem exec_mPlp (h : i.view = .m .plp) :
    exec i s = .next
      (let x := pull (fetched i s)
       { x.2 with m := { x.2.m with p := flagsOf x.1 } }) := by
  rw [exec_m h, MView.run, runMPlp, fetched_m h]
  simp only [ofByte_eq, MView.len]

end

/-! ### The statements -/

/-- Settles O6: the equation of the read class, with what each of the three loads does to the registers. -/
theorem m6502LoadsCompleteWithNZ : Obligations.M6502LoadsCompleteWithNZ := by
  intro i f s
  refine ⟨fun h => ?_, fun h => ?_, fun h => ?_⟩ <;> simp only [exec_mRead s h, MReadOp.apply, setNZ_eq]

/-- Settles O9. -/
theorem m6502StoresWriteOneByte : Obligations.M6502StoresWriteOneByte :=
  fun _ _ s => ⟨exec_mStore s, exec_mStore s, exec_mStore s⟩

/-- Settles O11. -/
theorem m6502RegisterAndFlagInstructions : Obligations.M6502RegisterAndFlagInstructions :=
  fun _ _ s => exec_mImplied s

/-- Settles O12: each instruction is a push or a pull, and those are one data access in the stack page. -/
theorem m6502StackInstructions : Obligations.M6502StackInstructions := by
  intro i s
  refine ⟨fun h => ?_, fun h => ?_, fun h => ?_, fun h => ?_⟩
  · rw [exec_mPha s h, push_eq, fetched_mRegs]
  · rw [exec_mPhp s h, push_eq, fetched_mRegs]
  · simp only [exec_mPla s h, pull_eq, memRead_m, fetched_mRegs]
  · simp only [exec_mPlp s h, pull_eq, memRead_m, fetched_mRegs]

end Sys2Proof.Machine
end

section
/-! PROOFS. The M6502 arithmetic, logic, compares, shifts, and memory increments and decrements (O7, O8, O10): one equation
per shape, and the exact arithmetic of each operation from Sys2Proof.Laws.Flags. -/

namespace Sys2Proof.Machine

section
variable {i : Instr} (s : State)

/-- A modify-class instruction on memory answers one data read and then one data write of the same effective address
(R210, R220, R221, R226 to R229). -/
theorem exec_mModify {op : MModOp} {md : MMode} (h : i.view = .m (.modify op md)) :
    exec i s = .next
      (let e := md.ea (fetched i s)
       let x := memRead e.addr e.st
       let y := mModified op x.1 s.m.p.c
       let w := memWrite e.addr y.1 x.2
       { w with m := { s.m with p := { withNZ y.1 s.m.p with c := y.2 } } }) := by
  have hm : (md.ea (fetched i s)).st.m = s.m := by rw [ea_m, fetched_mRegs]
  rw [fetched_m h, MView.len] at hm ⊢
  rw [exec_m h, MView.run, runMModify]
  simp only [memRead_m, memWrite_m, hm, modify_eq]

/-- A shift of the accumulator answers the state with A and the flags written (R122, R226 to R229). -/
theorem exec_mAcc {op : MModOp} (h : i.view = .m (.acc op)) :
    exec i s = .next
      (let y := mModified op s.m.a s.m.p.c
       { fetched i s with m := { s.m with a := y.1, p := { withNZ y.1 s.m.p with c := y.2 } } }) := by
  have hm : (fetched i s).m = s.m := fetched_mRegs i s
  rw [fetched_m h, MView.len] at hm ⊢
  rw [exec_m h, MView.run, runMAcc]
  simp only [hm, modify_eq]

end

/-! ### The statements -/

/-- Settles O7: the equation of the read class, with the exact sum of `adcM_eq` and the exact difference of `sbcM_eq`. -/
theorem m6502AddAndSubtractInBinary : Obligations.M6502AddAndSubtractInBinary := by
  intro i f s
  constructor <;> intro h <;> rw [exec_mRead s h]
  case left => simp only [MReadOp.apply, adcM_eq]
  case right => simp only [MReadOp.apply, sbcM_eq]

/-- Settles O8: the equation of the read class, with what each of the seven operations does to A and the flags. -/
theorem m6502LogicCompareAndBitTest : Obligations.M6502LogicCompareAndBitTest := by
  intro i f s
  refine ⟨fun h => ?and, fun h => ?ora, fun h => ?eor, fun h => ?cmp, fun h => ?cpx, fun h => ?cpy, fun h => ?bit⟩ <;>
    rw [exec_mRead s h]
  case and | ora | eor => simp only [MReadOp.apply, setNZ_eq]
  case cmp | cpx | cpy => simp only [MReadOp.apply, cmpM_eq]
  case bit => simp only [MReadOp.apply, bitM_eq]

/-- Settles O10. -/
theorem m6502ShiftsIncrementsAndDecrements : Obligations.M6502ShiftsIncrementsAndDecrements :=
  fun _ _ s => ⟨fun _ => exec_mModify s, exec_mAcc s⟩

end Sys2Proof.Machine
end

section
/-! PROOFS. The M6502 jumps, call and returns, the eight branches, and BRK (O13, O14, O15): one equation per shape, said of
the state the body finds. -/

namespace Sys2Proof.Machine

/-! ### The page of an address (R125) -/

/-- Two addresses have the same high byte exactly when they lie in the same page of 256 bytes. -/
theorem hi8_eq_hi8_iff (a b : Word) : hi8 a = hi8 b ↔ a.toNat / 256 = b.toNat / 256 := by
  have ha := a.isLt
  have hb := b.isLt
  rw [hi8_eq, hi8_eq, ← BitVec.toNat_inj, BitVec.toNat_ofNat, BitVec.toNat_ofNat]
  omega

/-! ### One equation per shape -/

section
variable {i : Instr} (s : State)

theorem exec_mJmp {b1 b2 : Byte} (h : i.view = .m (.jmp b1 b2)) :
    exec i s = .next { fetched i s with pc := word b1 b2 } := by
  rw [exec_m h, fetched_m h]
  rfl

/-- The pointer's high byte is read in the page of its low byte (R120). -/
theorem exec_mJmpInd {b1 b2 : Byte} (h : i.view = .m (.jmpInd b1 b2)) :
    exec i s = .next
      (let lo := memRead (word b1 b2) (fetched i s)
       let hi := memRead (word (b1 + 1) b2) lo.2
       { hi.2 with pc := word lo.1 hi.1 }) := by
  rw [exec_m h, fetched_m h]
  rfl

/-- The address pushed is that of the instruction's last byte (R242). -/
theorem exec_mJsr {b1 b2 : Byte} (h : i.view = .m (.jsr b1 b2)) :
    exec i s = .next { push (lo8 (s.pc + 2)) (push (hi8 (s.pc + 2)) (fetched i s)) with pc := word b1 b2 } := by
  rw [exec_m h, fetched_m h]
  rfl

theorem exec_mRts (h : i.view = .m .rts) :
    exec i s = .next
      (let lo := pull (fetched i s)
       let hi := pull lo.2
       { hi.2 with pc := word lo.1 hi.1 + 1 }) := by
  rw [exec_m h, fetched_m h]
  rfl

theorem exec_mRti (h : i.view = .m .rti) :
    exec i s = .next
      (let v := pull (fetched i s)
       let lo := pull { v.2 with m := { v.2.m with p := flagsOf v.1 } }
       let hi := pull lo.2
       { hi.2 with pc := word lo.1 hi.1 }) := by
  rw [exec_m h, fetched_m h]
  simp only [MView.run, runMRti, ofByte_eq, MView.len]

/-- A taken branch adds the displacement to the address of the next instruction, and adds `EXTRA` (R125, R245). -/
theorem exec_mBranch_taken {k : MCond} {b1 : Byte} (h : i.view = .m (.branch k b1)) (hk : k.holds s.m.p = true) :
    exec i s = .next
      (let t := fetched i s
       let target := t.pc + BitVec.ofInt 16 b1.toInt
       { t with
         pc := target
         time := t.time + s.cfg.extra.branchTaken
           + (if target.toNat / 256 = t.pc.toNat / 256 then 0 else s.cfg.extra.branchCross) }) := by
  rw [← fetched_mRegs i s, fetched_m h, MView.len] at hk
  rw [exec_m h, fetched_m h, MView.run, MView.len, runMBranch, if_pos hk]
  simp only [charge, hi8_eq_hi8_iff, sext_eq, Nat.cast_add, Int.add_assoc]

/-- A branch that is not taken goes on past its bytes (R245). -/
theorem exec_mBranch_not_taken {k : MCond} {b1 : Byte} (h : i.view = .m (.branch k b1)) (hk : ¬ k.holds s.m.p = true) :
    exec i s = .next (fetched i s) := by
  rw [← fetched_mRegs i s, fetched_m h, MView.len] at hk
  rw [exec_m h, fetched_m h, MView.run, MView.len, runMBranch, if_neg hk]

/-- The pushes leave the flags, so the byte pushed third is the status byte of the state BRK began in (R254). -/
theorem exec_mBrk (h : i.view = .m .brk) :
    exec i s = .next
      (let w := push (statusByte s.m.p) (push (lo8 (s.pc + 2)) (push (hi8 (s.pc + 2)) (fetched i s)))
       let u := { w with m := { w.m with p := { s.m.p with i := true } } }
       let lo := memRead 0xFFFE u
       let hi := memRead 0xFFFF lo.2
       { hi.2 with pc := word lo.1 hi.1 }) := by
  have hm : (fetched i s).m = s.m := fetched_mRegs i s
  rw [fetched_m h, MView.len] at hm ⊢
  have hvector : (0xFFFE : Word) + 1 = 0xFFFF := rfl
  rw [exec_m h, MView.run, runMBrk]
  simp only [push_m, hm, toByte_eq, memRead16, hvector]

end

/-! ### The statements -/

/-- Settles O13. -/
theorem m6502JumpsCallsAndReturns : Obligations.M6502JumpsCallsAndReturns :=
  fun _ s => ⟨fun _ _ => exec_mJmp s, fun _ _ => exec_mJmpInd s, fun _ _ => exec_mJsr s, exec_mRts s, exec_mRti s⟩

/-- Settles O14: the rule's flag test is the model's condition, flag by flag. -/
theorem m6502BranchesAndTheirCycles : Obligations.M6502BranchesAndTheirCycles := by
  intro i k b1 s h taken t target
  have htaken : taken ↔ k.holds s.m.p = true := by cases k <;> simp [taken, MCond.holds]
  exact ⟨fun hk => exec_mBranch_taken s h (htaken.mp hk), fun hk => exec_mBranch_not_taken s h (mt htaken.mpr hk),
    rfl, rfl, rfl⟩

/-- Settles O15: no push, no flag write and no read of the vector counts an error. -/
theorem m6502BreakGoesThroughItsVector : Obligations.M6502BreakGoesThroughItsVector := by
  intro i s h
  refine ⟨exec_mBrk s h, ?_⟩
  rw [fetched_m h]
  simp only [memRead_errorCount, push_errorCount, beginM_errorCount]

end Sys2Proof.Machine
end

section
/-! PROOFS. The Z80 loads, stores, stack instructions, exchanges, and block transfer and search (O20 to O25): one equation per
shape of run, said of the state the body finds, and the flags in the exact arithmetic of Sys2Proof.Laws.Flags. -/

namespace Sys2Proof.Machine

/-! ### Accesses of two bytes in the spec's arithmetic (R11) -/

/-- The high byte is at the next address, modulo 65536. -/
theorem memRead16_eq (a : Word) (t : State) :
    memRead16 a t =
      (let x := memRead a t
       let y := memRead (BitVec.ofNat 16 (a.toNat + 1)) x.2
       (BitVec.ofNat 16 (x.1.toNat + 256 * y.1.toNat), y.2)) := by
  simp only [memRead16, word_succ, word_eq]

theorem memWrite16_eq (a v : Word) (t : State) :
    memWrite16 a v t =
      memWrite (BitVec.ofNat 16 (a.toNat + 1)) (BitVec.ofNat 8 (v.toNat / 256)) (memWrite a (BitVec.ofNat 8 v.toNat) t) := by
  rw [memWrite16, word_succ, hi8_eq, lo8_eq]

/-! ### One equation per shape of run

Each says of an instruction, whose run is an instance of the shape, what it answers on the state its body finds. -/

section
variable {i : Instr} {v : ZView} (s : State)

theorem exec_zRegs (f : Z80Regs → Z80Regs) (h : i.view = .z v) (hv : ∀ c, v.run c = zRegs (v.cost c) f) :
    exec i s = .next { fetched i s with z := f (fetched i s).z } := by
  rw [exec_z h, hv, fetched_z h]
  rfl

theorem exec_zFlags (f : Byte → Z80Regs → Z80Regs) (h : i.view = .z v) (hv : ∀ c, v.run c = zFlags (v.cost c) f) :
    exec i s = .next
      (let t := fetched i s
       drawn { t with z := f (freeBits t) t.z }) := by
  rw [exec_z h, hv, fetched_z h]
  rfl

/-- The data read writes no register, so the load writes into the registers the body found. -/
theorem exec_zLoad (addr : Z80Regs → Word) (f : Byte → Z80Regs → Z80Regs) (h : i.view = .z v)
    (hv : ∀ c, v.run c = zLoad (v.cost c) addr f) :
    exec i s = .next
      (let t := fetched i s
       let x := memRead (addr t.z) t
       { x.2 with z := f x.1 t.z }) := by
  rw [exec_z h, hv, fetched_z h]
  simp only [zLoad, memRead_z]

theorem exec_zStore (addr : Z80Regs → Word) (val : Z80Regs → Byte) (h : i.view = .z v)
    (hv : ∀ c, v.run c = zStore (v.cost c) addr val) :
    exec i s = .next (memWrite (addr (fetched i s).z) (val (fetched i s).z) (fetched i s)) := by
  rw [exec_z h, hv, fetched_z h]
  rfl

theorem exec_zLoad16 (a : Word) (f : Word → Z80Regs → Z80Regs) (h : i.view = .z v)
    (hv : ∀ c, v.run c = zLoad16 (v.cost c) a f) :
    exec i s = .next
      (let x := memRead16 a (fetched i s)
       { x.2 with z := f x.1 (fetched i s).z }) := by
  rw [exec_z h, hv, fetched_z h]
  simp only [zLoad16, memRead16_z]

theorem exec_zStore16 (a : Word) (val : Z80Regs → Word) (h : i.view = .z v)
    (hv : ∀ c, v.run c = zStore16 (v.cost c) a val) :
    exec i s = .next (memWrite16 a (val (fetched i s).z) (fetched i s)) := by
  rw [exec_z h, hv, fetched_z h]
  rfl

/-! ### The stack instructions and `EX (SP)`, which have a run of their own -/

theorem exec_zPush {p : StackPair} (h : i.view = .z (.push p)) :
    exec i s = .next (push16 (p.get (fetched i s).z) (fetched i s)) := by
  rw [exec_z h, fetched_z h]
  rfl

theorem exec_zPop {p : StackPair} (h : i.view = .z (.pop p)) :
    exec i s = .next
      (let t := fetched i s
       let x := pop16 t
       { x.2 with z := p.set x.1 { t.z with sp := t.z.sp + 2 } }) := by
  rw [exec_z h, fetched_z h]
  simp only [ZView.run, runZPop, ZView.cost, pop16_z]

/-- Neither the reads nor the writes move SP (R305, R306). -/
theorem exec_zExSP {p : HLXY} (h : i.view = .z (.exSP p)) :
    exec i s = .next
      (let t := fetched i s
       let lo := memRead t.z.sp t
       let hi := memRead (t.z.sp + 1) lo.2
       let u := memWrite t.z.sp (lo8 (p.get t.z)) (memWrite (t.z.sp + 1) (hi8 (p.get t.z)) hi.2)
       { u with z := p.set (word lo.1 hi.1) t.z }) := by
  rw [exec_z h, fetched_z h]
  simp only [ZView.run, runZExSP, ZView.cost, memRead16, memWrite_z, memRead_z]

/-! ### Block transfer and search -/

/-- What a transfer writes to the registers and the flags (R307, R309). -/
theorem drawn_ldBlockRegs (d : Dir) (w : State) (z : Z80Regs) :
    drawn { w with z := ldBlockRegs d (freeBits w) z } =
      withFlags (free35 w { z.f with h := false, n := false, pv := decide ((z.bc - 1).toNat ≠ 0) })
        { w with z := { z with hl := stepped d z.hl, de := stepped d z.de, bc := z.bc - 1 } } := by
  rw [ldBlockRegs, ldBlockFlagsZ, undef35_eq, bne_zero16, move_eq, move_eq]
  rfl

theorem ldBlockRegs_bc (d : Dir) (u : Byte) (z : Z80Regs) : (ldBlockRegs d u z).bc = z.bc - 1 := rfl

/-- What a comparison writes to the registers and the flags (R311, R313, R366). -/
theorem drawn_cpBlockRegs (d : Dir) (m : Byte) (w : State) (z : Z80Regs) :
    drawn { w with z := cpBlockRegs d (freeBits w) m z } =
      withFlags
        (free35 w { withSZ (z.a - m) z.f with
          h := decide (z.a.toNat % 16 < m.toNat % 16)
          pv := decide ((z.bc - 1).toNat ≠ 0)
          n := true })
        { w with z := { z with hl := stepped d z.hl, bc := z.bc - 1 } } := by
  rw [cpBlockRegs, cpBlockFlagsZ, undef35_eq, setSZ_eq, bne_zero16, move_eq]
  rfl

theorem cpBlockRegs_bc (d : Dir) (u m : Byte) (z : Z80Regs) : (cpBlockRegs d u m z).bc = z.bc - 1 := rfl

/-- The zero flag after a comparison tells whether the byte is the same as A. -/
theorem cpBlockRegs_zero (d : Dir) (u m : Byte) (z : Z80Regs) : (cpBlockRegs d u m z).f.z = decide (z.a = m) := by
  have hz : (cpBlockRegs d u m z).f.z = (z.a - m == 0) := rfl
  rw [hz, Bool.eq_iff_iff, beq_iff_eq, decide_eq_true_eq]
  exact sub_eq_zero

/-- The free value is drawn after both accesses (R307 to R310). -/
theorem exec_zLdBlock {d : Dir} {rep : Bool} (h : i.view = .z (.ldBlock d rep)) :
    exec i s = .next
      (let t := fetched i s
       let x := memRead t.z.hl t
       let w := memWrite t.z.de x.1 x.2
       let z := ldBlockRegs d (freeBits w) t.z
       repeats (rep && z.bc != 0) s (drawn { w with z := z })) := by
  rw [exec_z h, fetched_z h]
  simp only [ZView.run, runZLdBlock, ZView.cost, memWrite_z, memRead_z, zRepeat_eq, drawn_z]

theorem exec_zCpBlock {d : Dir} {rep : Bool} (h : i.view = .z (.cpBlock d rep)) :
    exec i s = .next
      (let t := fetched i s
       let x := memRead t.z.hl t
       let z := cpBlockRegs d (freeBits x.2) x.1 t.z
       repeats (rep && z.bc != 0 && !z.f.z) s (drawn { x.2 with z := z })) := by
  rw [exec_z h, fetched_z h]
  simp only [ZView.run, runZCpBlock, zLoadFlags, ZView.cost, memRead_z, zRepeat_eq, drawn_z]

end

/-! ### The statements -/

/-- Settles O20: register moves and one-byte loads; only `LD A,I` and `LD A,R` draw a free value. -/
theorem z80EightBitLoads : Obligations.Z80EightBitLoads := by
  intro i s
  refine ⟨fun r q h => ?ldRR, fun r n h => ?ldRN, fun r m h => ?ldRM, fun p h => ?ldAP, fun lo hi h => ?ldANn,
    fun h => ?ldI, fun h => ?ldR, fun k h => ?ldAIR⟩
  case ldRR => exact exec_zRegs s (fun z => r.set (q.get z) z) h fun _ => rfl
  case ldRN => exact exec_zRegs s (r.set n) h fun _ => rfl
  case ldRM => exact exec_zLoad s m.addr r.set h fun _ => rfl
  case ldAP => exact exec_zLoad s p.get (R8.set .a) h fun _ => rfl
  case ldANn => rw [exec_zLoad s (fun _ => word lo hi) (fun b z => { z with a := b }) h fun _ => rfl, word_eq]
  case ldI => exact exec_zRegs s (fun z => IR.i.set z.a z) h fun _ => rfl
  case ldR => exact exec_zRegs s (fun z => IR.r.set z.a z) h fun _ => rfl
  case ldAIR =>
    rw [exec_zFlags s (fun u z => { z with a := k.get z, f := irFlagsZ u (k.get z) z.iff2 z.f }) h fun _ => rfl]
    simp only [irFlagsZ_eq]
    cases k <;> rfl

/-- Settles O21: the loads of a pair from memory are one read of two bytes. -/
theorem z80SixteenBitLoads : Obligations.Z80SixteenBitLoads := by
  intro i s
  refine ⟨fun p lo hi h => ?ldPN, fun lo hi h => ?ldHLNn, fun p lo hi h => ?ldPNn, fun p h => ?ldSP⟩
  case ldPN => rw [exec_zRegs s (p.set (word lo hi)) h fun _ => rfl, word_eq]
  case ldHLNn => rw [exec_zLoad16 s (word lo hi) (fun w z => { z with hl := w }) h fun _ => rfl, memRead16_eq, word_eq]
  case ldPNn => rw [exec_zLoad16 s (word lo hi) p.set h fun _ => rfl, memRead16_eq, word_eq]
  case ldSP => exact exec_zRegs s (fun z => { z with sp := p.get z }) h fun _ => rfl

/-- Settles O22: one write of a byte or of two bytes, on the state the body finds. -/
theorem z80Stores : Obligations.Z80Stores := by
  intro i s
  refine ⟨fun m r h => ?ldMR, fun m n h => ?ldMN, fun p h => ?ldPA, fun lo hi h => ?ldNnA, fun lo hi h => ?ldNnHL,
    fun p lo hi h => ?ldNnP⟩
  case ldMR => exact exec_zStore s m.addr r.get h fun _ => rfl
  case ldMN => exact exec_zStore s m.addr (fun _ => n) h fun _ => rfl
  case ldPA => exact exec_zStore s p.get Z80Regs.a h fun _ => rfl
  case ldNnA => rw [exec_zStore s (fun _ => word lo hi) Z80Regs.a h fun _ => rfl, word_eq]
  case ldNnHL => rw [exec_zStore16 s (word lo hi) Z80Regs.hl h fun _ => rfl, memWrite16_eq, word_eq]
  case ldNnP => rw [exec_zStore16 s (word lo hi) p.get h fun _ => rfl, memWrite16_eq, word_eq]

/-- Settles O23: the exchanges of registers alone access no memory. -/
theorem z80PushPopAndExchanges : Obligations.Z80PushPopAndExchanges := by
  intro i s
  refine ⟨fun p => exec_zPush s, fun p => exec_zPop s, fun h => ?exDEHL, fun h => ?exAF, fun h => ?exx,
    fun p h => ?exSP⟩
  case exDEHL => exact exec_zRegs s (fun z => { z with de := z.hl, hl := z.de }) h fun _ => rfl
  case exAF =>
    exact exec_zRegs s (fun z => { z with a := z.aAlt, f := z.fAlt, aAlt := z.a, fAlt := z.f }) h fun _ => rfl
  case exx =>
    exact exec_zRegs s (fun z => { z with
      bc := z.bcAlt, de := z.deAlt, hl := z.hlAlt, bcAlt := z.bc, deAlt := z.de, hlAlt := z.hl }) h fun _ => rfl
  case exSP => simp only [exec_zExSP s h, hi8_eq, lo8_eq, word_eq]

/-- Settles O24: the repeat tests BC after its decrement. -/
theorem z80BlockTransfer : Obligations.Z80BlockTransfer := by
  intro i d rep s h
  simp only [exec_zLdBlock s h, drawn_ldBlockRegs, ldBlockRegs_bc, bne_zero16, word_pred]

/-- Settles O25: the repeat tests the zero flag, which tells whether the byte differs from A. -/
theorem z80BlockSearch : Obligations.Z80BlockSearch := by
  intro i d rep s h
  simp only [exec_zCpBlock s h, drawn_cpBlockRegs, cpBlockRegs_bc, cpBlockRegs_zero, bne_zero16, ← decide_not,
    word_pred, byte_sub]

end Sys2Proof.Machine
end

section
/-! PROOFS. The Z80 arithmetic and logic of bytes and words, the rotates and shifts, the digit rotates, and the bit
instructions (O26 to O31): one equation per shape of run that ends in flags, and the exact arithmetic of each operation from
Sys2Proof.Laws.Flags. -/

namespace Sys2Proof.Machine

/-! ### Digits of a byte (R359, R360) -/

/-- A digit above a digit is the byte of the two. -/
theorem digits_or (q r : Nat) (hr : r < 16) :
    (BitVec.ofNat 8 (q * 16) ||| BitVec.ofNat 8 r : Byte) = BitVec.ofNat 8 (q * 16 + r) := by
  rw [← BitVec.ofNat_or, Nat.mul_comm, ← Nat.two_pow_add_eq_or_of_lt (i := 4) hr]

theorem and_0F (v : Byte) : v &&& 0x0F = BitVec.ofNat 8 (v.toNat % 16) := by revert v; decide

theorem and_F0 (v : Byte) : v &&& 0xF0 = BitVec.ofNat 8 (v.toNat / 16 * 16) := by revert v; decide

theorem shr_four (v : Byte) : v >>> 4 = BitVec.ofNat 8 (v.toNat / 16) := by revert v; decide

theorem shl_four (v : Byte) : v <<< 4 = BitVec.ofNat 8 (v.toNat % 16 * 16) := by revert v; decide

theorem shl_four_and_0F (v : Byte) : (v &&& 0x0F) <<< 4 = BitVec.ofNat 8 (v.toNat % 16 * 16) := by revert v; decide

theorem high_digit_lt (v : Byte) : v.toNat / 16 < 16 := by have := v.isLt; omega

theorem low_digit_lt (v : Byte) : v.toNat % 16 < 16 := Nat.mod_lt _ (by decide)

/-- `RLD` puts the high digit of the memory byte into A, `RRD` the low one. -/
theorem digitA_high (a v : Byte) : digitA a (v >>> 4) = BitVec.ofNat 8 (a.toNat / 16 * 16 + v.toNat / 16) := by
  rw [digitA, and_F0, shr_four, digits_or _ _ (high_digit_lt v)]

theorem digitA_low (a v : Byte) : digitA a (v &&& 0x0F) = BitVec.ofNat 8 (a.toNat / 16 * 16 + v.toNat % 16) := by
  rw [digitA, and_F0, and_0F, digits_or _ _ (low_digit_lt v)]

/-- The byte `RLD` writes back. -/
theorem rld_byte (a v : Byte) : (v <<< 4) ||| (a &&& 0x0F) = BitVec.ofNat 8 (v.toNat % 16 * 16 + a.toNat % 16) := by
  rw [shl_four, and_0F, digits_or _ _ (low_digit_lt a)]

/-- The byte `RRD` writes back. -/
theorem rrd_byte (a v : Byte) : ((a &&& 0x0F) <<< 4) ||| (v >>> 4) = BitVec.ofNat 8 (a.toNat % 16 * 16 + v.toNat / 16) := by
  rw [shl_four_and_0F, shr_four, digits_or _ _ (high_digit_lt v)]

/-- The complement of a byte in the spec's arithmetic (R336). -/
theorem cpl_eq (a : Byte) : a ^^^ 0xFF = BitVec.ofNat 8 (255 - a.toNat) := by
  rw [← xor_ff, BitVec.ofNat_toNat, BitVec.setWidth_eq]

/-! ### One equation per shape of run -/

section
variable {i : Instr} {v : ZView} (s : State)

/-- The free value is drawn after the read (R35). -/
theorem exec_zLoadFlags (addr : Z80Regs → Word) (f : Byte → Byte → Z80Regs → Z80Regs) (h : i.view = .z v)
    (hv : ∀ c, v.run c = zLoadFlags (v.cost c) addr f) :
    exec i s = .next
      (let t := fetched i s
       let x := memRead (addr t.z) t
       drawn { x.2 with z := f (freeBits x.2) x.1 x.2.z }) := by
  rw [exec_z h, hv, fetched_z h]
  rfl

/-- The byte is written back to the address it was read from (R90). -/
theorem exec_zModify (addr : Z80Regs → Word) (f : Byte → Byte) (h : i.view = .z v)
    (hv : ∀ c, v.run c = zModify (v.cost c) addr f) :
    exec i s = .next
      (let t := fetched i s
       let x := memRead (addr t.z) t
       memWrite (addr t.z) (f x.1) x.2) := by
  rw [exec_z h, hv, fetched_z h]
  rfl

theorem exec_zModifyFlags (addr : Z80Regs → Word) (f : Byte → Byte → Z80Regs → Byte × Z80Regs) (h : i.view = .z v)
    (hv : ∀ c, v.run c = zModifyFlags (v.cost c) addr f) :
    exec i s = .next
      (let t := fetched i s
       let x := memRead (addr t.z) t
       let y := f (freeBits x.2) x.1 x.2.z
       drawn { memWrite (addr t.z) y.1 x.2 with z := y.2 }) := by
  rw [exec_z h, hv, fetched_z h]
  rfl

/-- An accumulator operation, whatever its operand form (R321 to R328). -/
theorem exec_zAlu {op : ZAlu} {src : ZSrc} (h : i.view = .z (.alu op src)) :
    exec i s = .next
      (let x := zOperand src (fetched i s)
       drawn { x.2 with z := op.apply (freeBits x.2) x.1 x.2.z }) := by
  rw [exec_z h, ZView.run, runZAlu_eq, fetched_z h]

/-- A data write leaves the registers, so the flags are all that is written after it. -/
theorem drawn_memWrite_flags (a : Word) (b : Byte) (f : ZFlags) (u : State) :
    drawn { memWrite a b u with z := { u.z with f := f } } = withFlags f (memWrite a b u) := by
  rw [withFlags, memWrite_z]
  rfl

/-- INC and DEC of a byte of memory (R330, R331, R333, R334). -/
theorem exec_zIncDecM {op : IncDec} {m : ZMem} (h : i.view = .z (.incDecM op m)) :
    exec i s = .next
      (let t := fetched i s
       let x := memRead (m.addr t.z) t
       let y := zStepped op x.2 x.1
       withFlags y.2 (memWrite (m.addr t.z) y.1 x.2)) := by
  rw [exec_zModifyFlags s m.addr (fun u v z => ((op.byte u v z.f).1, { z with f := (op.byte u v z.f).2 })) h fun _ => rfl]
  simp only [stepByte_eq, drawn_memWrite_flags]

/-- A sum or difference of HL and a pair (R340 to R342). -/
theorem exec_zArith16 {op : ZArith16} {p : RP} (h : i.view = .z (.arith16 op p)) :
    exec i s = .next
      (let t := fetched i s
       let y := op.calc (freeBits t) t.z.hl (p.get t.z) t.z.f
       drawn { t with z := { t.z with hl := y.1, f := y.2 } }) :=
  exec_zFlags s (fun u z =>
    { z with hl := (op.calc u z.hl (p.get z) z.f).1, f := (op.calc u z.hl (p.get z) z.f).2 }) h fun _ => rfl

/-- A rotate or shift, on a register or on a byte of memory (R352 to R358). -/
theorem exec_zRot {op : ZRot} {tgt : ZTgt} (h : i.view = .z (.rot op tgt)) :
    exec i s = .next
      (let x := zTarget tgt (fetched i s)
       let y := zRotated op x.1 x.2.z.f.c
       withFlags (zShifted x.2 y.1 y.2) (zWriteBack tgt y.1 x.2)) := by
  cases tgt with
  | reg r =>
    rw [exec_zFlags s (fun u z =>
      { r.set (rotFlagsZ op u (r.get z) z.f).1 z with f := (rotFlagsZ op u (r.get z) z.f).2 }) h fun _ => rfl]
    simp only [rotFlagsZ_eq op _ _ _ rfl]
    rfl
  | mem m =>
    rw [exec_zModifyFlags s m.addr (fun u v z =>
      ((rotFlagsZ op u v z.f).1, { z with f := (rotFlagsZ op u v z.f).2 })) h fun _ => rfl]
    simp only [rotFlagsZ_eq op _ _ _ rfl, drawn_memWrite_flags]
    simp only [zTarget, zWriteBack, memRead_z]

/-- `BIT`, on a register or on a byte of memory (R361 to R363). -/
theorem exec_zBit {b : Nat} {tgt : ZTgt} (h : i.view = .z (.bit b tgt)) :
    exec i s = .next
      (let x := zTarget tgt (fetched i s)
       withFlags (bitZ (freeBits x.2) x.1 b x.2.z.f) x.2) := by
  cases tgt with
  | reg r => exact exec_zFlags s (fun u z => { z with f := bitZ u (r.get z) b z.f }) h fun _ => rfl
  | mem m => exact exec_zLoadFlags s m.addr (fun u v z => { z with f := bitZ u v b z.f }) h fun _ => rfl

/-- `SET` and `RES`, on a register or on a byte of memory (R364, R365): `f` is what is done to the byte. -/
theorem exec_zTargetMap (shape : ZTgt → ZView) (f : Byte → Byte) {tgt : ZTgt} (h : i.view = .z (shape tgt))
    (hr : ∀ r c, (shape (.reg r)).run c = zRegs ((shape (.reg r)).cost c) fun z => r.set (f (r.get z)) z)
    (hm : ∀ m c, (shape (.mem m)).run c = zModify ((shape (.mem m)).cost c) m.addr f) :
    exec i s = .next
      (let x := zTarget tgt (fetched i s)
       zWriteBack tgt (f x.1) x.2) := by
  cases tgt with
  | reg r => exact exec_zRegs s (fun z => r.set (f (r.get z)) z) h (hr r)
  | mem m =>
    rw [exec_zModify s m.addr f h (hm m)]
    simp only [zTarget, zWriteBack, memRead_z]

theorem exec_zSetB {b : Nat} {tgt : ZTgt} (h : i.view = .z (.setB b tgt)) :
    exec i s = .next
      (let x := zTarget tgt (fetched i s)
       zWriteBack tgt (setBitZ b x.1) x.2) :=
  exec_zTargetMap s (.setB b) (setBitZ b) h (fun _ _ => rfl) fun _ _ => rfl

theorem exec_zResB {b : Nat} {tgt : ZTgt} (h : i.view = .z (.resB b tgt)) :
    exec i s = .next
      (let x := zTarget tgt (fetched i s)
       zWriteBack tgt (resBitZ b x.1) x.2) :=
  exec_zTargetMap s (.resB b) (resBitZ b) h (fun _ _ => rfl) fun _ _ => rfl

end

/-! ### The statements -/

/-- Settles O26: the equation of the accumulator operations with the exact sum of `add8_eq` and the exact difference of
`sub8_eq`; the operand's read leaves the registers. -/
theorem z80AddSubtractCompareAndNegate : Obligations.Z80AddSubtractCompareAndNegate := by
  intro i s
  refine ⟨fun src h => ?add, fun src h => ?adc, fun src h => ?sub, fun src h => ?sbc, fun src h => ?cp, fun h => ?neg⟩
  case add | adc =>
    rw [exec_zAlu s h, ← zOperand_z src (fetched i s)]
    simp only [ZAlu.apply, add8_eq]
    rfl
  case sub | sbc | cp =>
    rw [exec_zAlu s h, ← zOperand_z src (fetched i s)]
    simp only [ZAlu.apply, sub8_eq]
    rfl
  case neg =>
    simp only [exec_zFlags s ZGen.neg.apply h fun _ => rfl, ZGen.apply, sub8_eq]
    rfl

/-- Settles O27: the logic operations by `logicZ_eq`, `DAA` by `daaZ_eq`; the other three write flags alone, but for A
under `CPL`. -/
theorem z80LogicAndGeneral : Obligations.Z80LogicAndGeneral := by
  intro i s
  refine ⟨fun src h => ?and, fun src h => ?or, fun src h => ?xor, fun h => ?daa, fun h => ?cpl, fun h => ?ccf,
    fun h => ?scf⟩
  case and | or | xor =>
    rw [exec_zAlu s h, ← zOperand_z src (fetched i s)]
    simp only [ZAlu.apply, logicZ_eq]
    rfl
  case daa =>
    simp only [exec_zFlags s ZGen.daa.apply h fun _ => rfl, ZGen.apply, daaZ_eq]
    rfl
  case cpl =>
    simp only [exec_zFlags s ZGen.cpl.apply h fun _ => rfl, ZGen.apply, cplZ, undef35_eq, cpl_eq]
    rfl
  case ccf => exact exec_zFlags s ZGen.ccf.apply h fun _ => rfl
  case scf => exact exec_zFlags s ZGen.scf.apply h fun _ => rfl

/-- Settles O28. -/
theorem z80ByteIncrementsAndDecrements : Obligations.Z80ByteIncrementsAndDecrements := by
  intro i op s
  refine ⟨fun r h => ?register, fun m h => exec_zIncDecM s h⟩
  case register =>
    rw [exec_zFlags s (fun u z => { r.set (op.byte u (r.get z) z.f).1 z with f := (op.byte u (r.get z) z.f).2 }) h
      fun _ => rfl]
    simp only [stepByte_eq]
    rfl

/-- Settles O29: each sum or difference is the exact one of `add16_eq`, `adc16_eq` or `sbc16_eq`. -/
theorem z80SixteenBitArithmetic : Obligations.Z80SixteenBitArithmetic := by
  intro i s
  refine ⟨fun p h => ?add, fun x p h => ?addXY, fun p h => ?adc, fun p h => ?sbc, fun p h => ?inc, fun p h => ?dec⟩
  case add | adc | sbc =>
    rw [exec_zArith16 s h]
    simp only [ZArith16.calc, add16_eq, adc16_eq, sbc16_eq]
    rfl
  case addXY =>
    rw [exec_zFlags s (fun u z =>
      { x.set (add16 u (x.get z) (p.get x z) z.f).1 z with f := (add16 u (x.get z) (p.get x z) z.f).2 }) h fun _ => rfl]
    simp only [add16_eq]
    rfl
  case inc => simp only [exec_zRegs s (fun z => p.set (p.get z + 1) z) h fun _ => rfl, word_succ]
  case dec => simp only [exec_zRegs s (fun z => p.set (p.get z - 1) z) h fun _ => rfl, word_pred]

/-- Settles O30: the operand's read leaves the carry a rotate uses. -/
theorem z80RotatesAndShifts : Obligations.Z80RotatesAndShifts := by
  intro i s
  refine ⟨fun op h => ?accumulator, fun op tgt h => ?target⟩
  case accumulator =>
    rw [exec_zFlags s (fun u z => { z with a := (accRotZ op u z.a z.f).1, f := (accRotZ op u z.a z.f).2 }) h fun _ => rfl]
    simp only [accRotZ_eq]
    rfl
  case target => simp only [exec_zRot s h, zTarget_z]

/-- Settles O31: RLD and RRD move digits of a byte; BIT, SET and RES act on one bit, whose number is below 8. -/
theorem z80DigitRotatesAndBitInstructions : Obligations.Z80DigitRotatesAndBitInstructions := by
  intro i s
  refine ⟨fun h => ?rld, fun h => ?rrd, fun b tgt h => ?bit, fun b tgt h => ?set, fun b tgt h => ?res⟩
  case rld =>
    rw [exec_zModifyFlags s Z80Regs.hl (fun u v z => ((v <<< 4) ||| (z.a &&& 0x0F),
      { z with a := digitA z.a (v >>> 4), f := inFlagsZ u (digitA z.a (v >>> 4)) z.f })) h fun _ => rfl]
    simp only [inFlagsZ_eq, digitA_high, rld_byte]
    simp only [memRead_z]
    rfl
  case rrd =>
    rw [exec_zModifyFlags s Z80Regs.hl (fun u v z => (((z.a &&& 0x0F) <<< 4) ||| (v >>> 4),
      { z with a := digitA z.a (v &&& 0x0F), f := inFlagsZ u (digitA z.a (v &&& 0x0F)) z.f })) h fun _ => rfl]
    simp only [inFlagsZ_eq, digitA_low, rrd_byte]
    simp only [memRead_z]
    rfl
  case bit => simp only [exec_zBit s h, bitZ_eq, zTarget_z]
  case set => simp only [exec_zSetB s h, setBitZ_eq b (view_setB_lt h)]
  case res => simp only [exec_zResB s h, resBitZ_eq b (view_resB_lt h)]

end Sys2Proof.Machine
end

section
/-! PROOFS. The Z80 jumps, calls, returns and restarts, the CPU control instructions, and input and output (O32 to O35): each
run is a body on the state the fetch leaves; a conditional transfer does its body where its condition holds, and else nothing. -/

namespace Sys2Proof.Machine

theorem byte_eq_zero_iff (v : Byte) : v = 0 ↔ v.toNat = 0 := by
  rw [← beq_iff_eq, beq_zero8, decide_eq_true_eq]

/-! ### What the fetch leaves of the registers (R153, R171) -/

/-- What does not depend on R is after the fetch what it was before. -/
theorem fetched_zReads {α : Type} (g : Z80Regs → α) (hg : ∀ z r, g { z with r := r } = g z) (i : Instr) (s : State) :
    g (fetched i s).z = g s.z := by
  unfold fetched
  split
  · rfl
  · exact hg _ _

@[simp] theorem fetched_zF (i : Instr) (s : State) : (fetched i s).z.f = s.z.f :=
  fetched_zReads Z80Regs.f (fun _ _ => rfl) i s
@[simp] theorem fetched_zA (i : Instr) (s : State) : (fetched i s).z.a = s.z.a :=
  fetched_zReads Z80Regs.a (fun _ _ => rfl) i s
@[simp] theorem fetched_zBC (i : Instr) (s : State) : (fetched i s).z.bc = s.z.bc :=
  fetched_zReads Z80Regs.bc (fun _ _ => rfl) i s
@[simp] theorem fetched_zIff2 (i : Instr) (s : State) : (fetched i s).z.iff2 = s.z.iff2 :=
  fetched_zReads Z80Regs.iff2 (fun _ _ => rfl) i s
@[simp] theorem fetched_r8 (r : R8) (i : Instr) (s : State) : r.get (fetched i s).z = r.get s.z :=
  fetched_zReads r.get (fun _ _ => by cases r <;> rfl) i s
@[simp] theorem fetched_hlxy (p : HLXY) (i : Instr) (s : State) : p.get (fetched i s).z = p.get s.z :=
  fetched_zReads p.get (fun _ _ => by cases p <;> rfl) i s

/-! ### One equation per shape of run -/

section
variable {i : Instr} {v : ZView} (s : State)

/-- A run whose body starts from the fetch answers that body on the state the fetch leaves. -/
theorem exec_zBody (body : State → State) (h : i.view = .z v) (hv : ∀ c, v.run c s = body (beginZ (v.cost c) s)) :
    exec i s = .next (body (fetched i s)) := by
  rw [exec_z h, hv, fetched_z h]

/-- A conditional transfer tests the flags of the state it began in, which the fetch leaves (R380). -/
theorem exec_zConditional {k : CC} (taken : State → State) (h : i.view = .z v)
    (hv : ∀ c, v.run c s =
      if k.holds (beginZ (v.cost c) s).z.f then taken (beginZ (v.cost c) s) else beginZ (v.cost c) s) :
    (conditionHolds k s.z.f → exec i s = .next (taken (fetched i s))) ∧
    (¬ conditionHolds k s.z.f → exec i s = .next (fetched i s)) := by
  have hrun : exec i s = .next (if k.holds (fetched i s).z.f then taken (fetched i s) else fetched i s) :=
    exec_zBody s (fun t => if k.holds t.z.f then taken t else t) h hv
  rw [hrun, fetched_zF, ← holds_iff]
  exact ⟨fun hk => by rw [if_pos hk], fun hk => by rw [if_neg hk]⟩

/-! ### Jumps -/

/-- Where the condition fails `pc` stays past the bytes (R382). -/
theorem exec_zJpCC {k : CC} {lo hi : Byte} (h : i.view = .z (.jpCC k lo hi)) :
    (conditionHolds k s.z.f → exec i s = .next { fetched i s with pc := word lo hi }) ∧
    (¬ conditionHolds k s.z.f → exec i s = .next (fetched i s)) :=
  exec_zConditional s (fun t => { t with pc := word lo hi }) h fun c =>
    apply_ite (fun a => { beginZ ⟨3, c, 1⟩ s with pc := a }) _ _ _

theorem exec_zJrCC {k : CC} {e : Byte} (h : i.view = .z (.jrCC k e)) :
    (conditionHolds k s.z.f → exec i s = .next
      (let t := fetched i s
       { t with pc := t.pc + sext e, time := t.time + s.cfg.extra.jrTaken })) ∧
    (¬ conditionHolds k s.z.f → exec i s = .next (fetched i s)) :=
  exec_zConditional s (fun t => { t with pc := t.pc + sext e, time := t.time + s.cfg.extra.jrTaken }) h fun _ => rfl

/-- The decrement comes first, and the jump depends on its result (R387). -/
theorem exec_zDjnz {e : Byte} (h : i.view = .z (.djnz e)) :
    exec i s = .next
      (let t := fetched i s
       let b := R8.b.get s.z - 1
       let u := { t with z := R8.b.set b t.z }
       if b = 0 then u else { u with pc := t.pc + sext e, time := t.time + s.cfg.extra.djnzTaken }) := by
  rw [exec_z h, fetched_z h]
  simp only [ZView.run, runZDjnz, zRegs, ZView.cost, r8_get_set, if_true]
  rfl

/-! ### Calls, returns and restarts -/

/-- `CALL` and `RST`: the address of the next instruction is pushed (R388, R394). -/
theorem exec_zCalled (target : Word) (h : i.view = .z v)
    (hv : ∀ c, v.run c s = { push16 (beginZ (v.cost c) s).pc (beginZ (v.cost c) s) with pc := target }) :
    exec i s = .next { push16 (fetched i s).pc (fetched i s) with pc := target } :=
  exec_zBody s (fun t => { push16 t.pc t with pc := target }) h hv

/-- `RET` and `RETI` (R390, R392). -/
theorem exec_zReturned (h : i.view = .z v)
    (hv : ∀ c, v.run c s = { (pop16 (beginZ (v.cost c) s)).2 with pc := (pop16 (beginZ (v.cost c) s)).1 }) :
    exec i s = .next
      (let x := pop16 (fetched i s)
       { x.2 with pc := x.1 }) :=
  exec_zBody s (fun t => { (pop16 t).2 with pc := (pop16 t).1 }) h hv

theorem exec_zCallCC {k : CC} {lo hi : Byte} (h : i.view = .z (.callCC k lo hi)) :
    (conditionHolds k s.z.f → exec i s = .next
      (let t := fetched i s
       charge s.cfg.extra.callTaken { push16 t.pc t with pc := word lo hi })) ∧
    (¬ conditionHolds k s.z.f → exec i s = .next (fetched i s)) :=
  exec_zConditional s (fun t => charge s.cfg.extra.callTaken { push16 t.pc t with pc := word lo hi }) h fun _ => rfl

theorem exec_zRetCC {k : CC} (h : i.view = .z (.retCC k)) :
    (conditionHolds k s.z.f → exec i s = .next
      (let x := pop16 (fetched i s)
       charge s.cfg.extra.retTaken { x.2 with pc := x.1 })) ∧
    (¬ conditionHolds k s.z.f → exec i s = .next (fetched i s)) :=
  exec_zConditional s (fun t => charge s.cfg.extra.retTaken { (pop16 t).2 with pc := (pop16 t).1 }) h fun _ => rfl

/-- The pops leave the interrupt flip-flops, so IFF1 takes the IFF2 the instruction began with (R393). -/
theorem exec_zRetn (h : i.view = .z .retn) :
    exec i s = .next
      (let x := pop16 (fetched i s)
       { x.2 with pc := x.1, z := { x.2.z with iff1 := s.z.iff2 } }) := by
  have hiff2 : (pop16 (fetched i s)).2.z.iff2 = s.z.iff2 := by rw [pop16_z, fetched_zIff2]
  rw [← hiff2, fetched_z h, exec_z h]
  rfl

/-! ### Ports -/

/-- The port read leaves the accumulator, which is the high byte of the port (R400). -/
theorem exec_zInAN {n : Byte} (h : i.view = .z (.inAN n)) :
    exec i s = .next
      (let t := fetched i s
       let x := portIn (word n s.z.a) t
       { x.2 with z := { t.z with a := x.1 } }) := by
  rw [← fetched_zA i s, fetched_z h, exec_z h]
  simp only [ZView.run, runZInAN, portIn_z, ZView.cost]

/-- The free value is drawn after the port is read (R401). -/
theorem exec_zInRC {r : R8} (h : i.view = .z (.inRC r)) :
    exec i s = .next
      (let t := fetched i s
       let x := portIn s.z.bc t
       withFlags (zLoaded x.2 x.1) { x.2 with z := r.set x.1 t.z }) := by
  rw [← fetched_zBC i s, fetched_z h, exec_z h]
  simp only [ZView.run, runZInRC, inFlagsZ_eq, ZView.cost]
  simp only [portIn_z]
  rfl

theorem exec_zOutNA {n : Byte} (h : i.view = .z (.outNA n)) :
    exec i s = .next (portOut (word n s.z.a) s.z.a (fetched i s)) := by
  rw [← fetched_zA i s, exec_zBody s (fun t => portOut (word n t.z.a) t.z.a t) h fun _ => rfl]

theorem exec_zOutCR {r : R8} (h : i.view = .z (.outCR r)) :
    exec i s = .next (portOut s.z.bc (r.get s.z) (fetched i s)) := by
  rw [← fetched_zBC i s, ← fetched_r8 r i s, exec_zBody s (fun t => portOut t.z.bc (r.get t.z) t) h fun _ => rfl]

/-! ### Block input and output -/

/-- What a block input or output writes to the registers and the flags (R402, R408). -/
theorem drawn_ioBlockRegs (d : Dir) (w : State) (z : Z80Regs) :
    drawn { w with z := ioBlockRegs d (freeBits w) z } =
      (let b := R8.b.get z - 1
       withFlags
        (free35 w { z.f with
          s := freeFlag w 7
          z := decide (b.toNat = 0)
          h := freeFlag w 4
          pv := freeFlag w 2
          n := true })
        { w with z := { R8.b.set b z with hl := stepped d z.hl } }) := by
  rw [ioBlockRegs, ioBlockFlagsZ, undef35_eq, move_eq, beq_zero8]
  rfl

theorem ioBlockRegs_b (d : Dir) (u : Byte) (z : Z80Regs) : R8.b.get (ioBlockRegs d u z) = R8.b.get z - 1 :=
  hi8_setHi _ _

/-- The port is read with B before its decrement; the free value is drawn after both accesses (R402 to R405). -/
theorem exec_zInBlock {d : Dir} {rep : Bool} (h : i.view = .z (.inBlock d rep)) :
    exec i s = .next
      (let t := fetched i s
       let x := portIn t.z.bc t
       let w := memWrite t.z.hl x.1 x.2
       let z := ioBlockRegs d (freeBits w) t.z
       repeats (rep && R8.b.get z != 0) s (drawn { w with z := z })) := by
  rw [exec_z h, fetched_z h]
  simp only [ZView.run, runZInBlock, ZView.cost, memWrite_z, portIn_z, zRepeat_eq, drawn_z]

/-- The port is written with B after its decrement (R408 to R411). -/
theorem exec_zOutBlock {d : Dir} {rep : Bool} (h : i.view = .z (.outBlock d rep)) :
    exec i s = .next
      (let t := fetched i s
       let x := memRead t.z.hl t
       let w := portOut (R8.b.set (R8.b.get t.z - 1) t.z).bc x.1 x.2
       let z := ioBlockRegs d (freeBits w) t.z
       repeats (rep && R8.b.get z != 0) s (drawn { w with z := z })) := by
  rw [exec_z h, fetched_z h]
  simp only [ZView.run, runZOutBlock, ZView.cost, portOut_z, memRead_z, zRepeat_eq, drawn_z]
  rfl

end

/-! ### The statements -/

/-- Settles O32: the rule's signed displacement and its byte arithmetic are those of the model. -/
theorem z80JumpsAndTheirCycles : Obligations.Z80JumpsAndTheirCycles := by
  intro i s
  refine ⟨fun lo hi h => ?jp, fun k lo hi h => ?jpCC, fun p h => ?jpHL, fun e h => ?jr, fun k e h => ?jrCC,
    fun e h => ?djnz, rfl, rfl, rfl⟩
  case jp => rw [exec_zBody s (fun t => { t with pc := word lo hi }) h fun _ => rfl, word_eq]
  case jpCC => simpa only [word_eq] using exec_zJpCC s h
  case jpHL => rw [exec_zBody s (fun t => { t with pc := p.get t.z }) h fun _ => rfl, fetched_hlxy]
  case jr => rw [exec_zBody s (fun t => { t with pc := t.pc + sext e }) h fun _ => rfl, word_add_sext]
  case jrCC => simpa only [word_add_sext] using exec_zJrCC s h
  case djnz =>
    simp only [exec_zDjnz s h, byte_eq_zero_iff, byte_pred, word_add_sext]
    exact ⟨fun hb => by rw [if_neg hb], fun hb => by rw [if_pos hb]⟩

/-- Settles O33: the stack accesses take no time, so `EXTRA` is added to the time of the fetch; a restart
number is below 8. -/
theorem z80CallsReturnsAndRestarts : Obligations.Z80CallsReturnsAndRestarts := by
  intro i s
  refine ⟨fun lo hi h => ?call, fun k lo hi h => ?callCC, fun h => exec_zReturned s h fun _ => rfl,
    fun k h => ?retCC, fun h => exec_zReturned s h fun _ => rfl, exec_zRetn s, fun y h => ?rst, rfl, rfl⟩
  case call => rw [exec_zCalled s (word lo hi) h fun _ => rfl, word_eq]
  case callCC => simpa only [charge, push16_time, word_eq] using exec_zCallCC s h
  case retCC => simpa only [charge, pop16_time] using exec_zRetCC s h
  case rst => exact ⟨Nat.le_of_lt_succ (view_rst_lt h), exec_zCalled s _ h fun _ => rfl⟩

/-- Settles O34: a port number is a word of two bytes, and a port read with no callback answers the state it found. -/
theorem z80ControlAndPorts : Obligations.Z80ControlAndPorts := by
  intro i s
  refine ⟨fun h => exec_zRegs s id h fun _ => rfl,
    fun h => exec_zRegs s (fun z => { z with iff1 := false, iff2 := false }) h fun _ => rfl,
    fun h => exec_zRegs s (fun z => { z with iff1 := true, iff2 := true }) h fun _ => rfl,
    fun k h => exec_zRegs s (fun z => { z with im := k }) h fun _ => rfl,
    fun n h => ?inAN, fun r => exec_zInRC s, fun n h => ?outNA, fun r => exec_zOutCR s,
    fun port => ⟨rfl, fun hcall => ?noCallback⟩, rfl, rfl⟩
  case inAN => rw [exec_zInAN s h, word_eq, Nat.add_comm]
  case outNA => rw [exec_zOutNA s h, word_eq, Nat.add_comm]
  case noCallback => rw [portIn, hcall]

/-- Settles O35: the repeat tests B after its decrement. -/
theorem z80BlockInputAndOutput : Obligations.Z80BlockInputAndOutput := by
  intro i d rep s
  refine ⟨fun h => ?input, fun h => ?output⟩
  case input => simp only [exec_zInBlock s h, drawn_ioBlockRegs, ioBlockRegs_b, bne_zero8, byte_pred]
  case output => simp only [exec_zOutBlock s h, drawn_ioBlockRegs, ioBlockRegs_b, bne_zero8, byte_pred]

end Sys2Proof.Machine
end

section
/-! PROOFS. The passing of a chip's time (O54): a voice and a chip that run to a time in two pieces reach what they reach
at once. The voices of the NESAPU share one timer (R425); the loops of the three chips are one loop from due time to due
time (R424, R474, R503). -/

namespace Sys2Proof.Machine

/-! ### The timer (R425) -/

section
variable {α β : Type} {tick : Int → α → α} {period : α → Nat} {stop due : Int} {x : α}

theorem runTimer_of_le (n : Nat) (h : stop ≤ due) : runTimer tick period stop n due x = (due, x) := by
  cases n with
  | zero => rfl
  | succ n => exact if_neg (Int.not_lt.mpr h)

theorem runTimer_succ_of_lt (n : Nat) (h : due < stop) :
    runTimer tick period stop (n + 1) due x =
      runTimer tick period stop n (due + period (tick due x)) (tick due x) := if_pos h

/-- A timer on `α` moves one on `β` along if its ticks and periods are those of the other. -/
theorem runTimer_map {tick' : Int → β → β} {period' : β → Nat} (f : α → β)
    (htick : ∀ t x, tick' t (f x) = f (tick t x)) (hperiod : ∀ x, period' (f x) = period x) (n : Nat) :
    runTimer tick' period' stop n due (f x) =
      ((runTimer tick period stop n due x).1, f (runTimer tick period stop n due x).2) := by
  induction n generalizing due x with
  | zero => rfl
  | succ n ih =>
    by_cases h : due < stop
    · rw [runTimer_succ_of_lt n h, runTimer_succ_of_lt n h, htick, hperiod, ih]
    · rw [runTimer_of_le _ (Int.not_lt.mp h), runTimer_of_le _ (Int.not_lt.mp h)]

variable (hpos : ∀ x, 0 < period x)
include hpos

/-- Each tick takes a cycle at least, so more fuel than there are cycles changes nothing. -/
theorem runTimer_fuel {n k : Nat} (hn : stop ≤ due + n) (hk : stop ≤ due + k) :
    runTimer tick period stop n due x = runTimer tick period stop k due x := by
  induction n generalizing k due x with
  | zero =>
    have hle : stop ≤ due := by omega
    rw [runTimer_of_le _ hle, runTimer_of_le _ hle]
  | succ n ih =>
    by_cases h : due < stop
    · obtain ⟨k, rfl⟩ : ∃ j, k = j + 1 := ⟨k - 1, by omega⟩
      have := hpos (tick due x)
      rw [runTimer_succ_of_lt n h, runTimer_succ_of_lt k h]
      exact ih (by omega) (by omega)
    · rw [runTimer_of_le _ (Int.not_lt.mp h), runTimer_of_le _ (Int.not_lt.mp h)]

theorem le_runTimer_due {n : Nat} (hn : stop ≤ due + n) : stop ≤ (runTimer tick period stop n due x).1 := by
  induction n generalizing due x with
  | zero => exact hn.trans (Int.le_of_eq (Int.add_zero due))
  | succ n ih =>
    by_cases h : due < stop
    · have := hpos (tick due x)
      rw [runTimer_succ_of_lt n h]
      exact ih (by omega)
    · rw [runTimer_of_le _ (Int.not_lt.mp h)]
      exact Int.not_lt.mp h

/-- A timer run to `m` and then on to `stop` is the timer run to `stop`. -/
theorem runTimer_runTimer {m : Int} {n k l : Nat} (hm : m ≤ stop) (hn : m ≤ due + n) (hk : stop ≤ due + k)
    (hl : stop ≤ m + l) :
    runTimer tick period stop l (runTimer tick period m n due x).1 (runTimer tick period m n due x).2 =
      runTimer tick period stop k due x := by
  induction n generalizing k due x with
  | zero =>
    have hle : m ≤ due := by omega
    rw [runTimer_of_le _ hle]
    exact runTimer_fuel hpos (by omega) hk
  | succ n ih =>
    by_cases h : due < m
    · obtain ⟨k, rfl⟩ : ∃ j, k = j + 1 := ⟨k - 1, by omega⟩
      have := hpos (tick due x)
      rw [runTimer_succ_of_lt n h, runTimer_succ_of_lt k (by omega)]
      exact ih (by omega) (by omega)
    · rw [runTimer_of_le _ (Int.not_lt.mp h)]
      exact runTimer_fuel hpos (by omega) hk

end

/-! ### A voice with a timer (R425) -/

/-- What `AdvanceVoice` asks of a voice: a tick with its report, a period that is never 0, and a delay that neither looks
at; nor does what becomes of the voice depend on the calls made on the sink so far. -/
structure VoiceTimer (α : Type) where
  tick : Int → α × List SinkCall → α × List SinkCall
  period : α → Nat
  delay : α → Nat
  setDelay : Nat → α → α
  period_pos : ∀ p, 0 < period p
  tick_setDelay : ∀ d t x, tick t (setDelay d x.1, x.2) = (setDelay d (tick t x).1, (tick t x).2)
  tick_state : ∀ t x, (tick t (x.1, [])).1 = (tick t x).1
  period_setDelay : ∀ d p, period (setDelay d p) = period p
  delay_setDelay : ∀ d p, delay (setDelay d p) = d
  setDelay_setDelay : ∀ d e p, setDelay d (setDelay e p) = setDelay d p

namespace VoiceTimer
variable {α : Type} (v : VoiceTimer α)

/-- The timer of the voice from its first due time on. -/
def run (fr stop : Int) (x : α × List SinkCall) : Int × α × List SinkCall :=
  runTimer v.tick (fun y => v.period y.1) stop ((stop - fr).toNat + 1) (fr + v.delay x.1) x

/-- `AdvanceVoice` of the voice. -/
def advance (fr stop : Int) (x : α × List SinkCall) : α × List SinkCall :=
  let r := v.run fr stop x
  (v.setDelay (r.1 - stop).toNat r.2.1, r.2.2)

/-- The delay a voice is left with leads the timer on to where it was. -/
theorem run_advance {fr m stop : Int} (hfr : fr ≤ m) (hm : m ≤ stop) (x : α × List SinkCall) :
    v.run m stop (v.advance fr m x) =
      ((v.run fr stop x).1, v.setDelay ((v.run fr m x).1 - m).toNat (v.run fr stop x).2.1, (v.run fr stop x).2.2) := by
  have hpos : ∀ y : α × List SinkCall, 0 < v.period y.1 := fun y => v.period_pos y.1
  have hle : m ≤ (v.run fr m x).1 := le_runTimer_due hpos (by omega)
  have hdue : m + (v.delay (v.advance fr m x).1 : Int) = (v.run fr m x).1 := by
    simp only [advance, v.delay_setDelay]
    omega
  have hgo : v.run fr stop x =
      runTimer v.tick (fun y => v.period y.1) stop ((stop - m).toNat + 1) (v.run fr m x).1 (v.run fr m x).2 :=
    (runTimer_runTimer hpos hm (by omega) (by omega) (by omega)).symm
  rw [hgo]
  conv_lhs => unfold run
  rw [hdue]
  exact runTimer_map (fun y : α × List SinkCall => (v.setDelay ((v.run fr m x).1 - m).toNat y.1, y.2))
    (v.tick_setDelay _) (fun y => v.period_setDelay _ y.1) _

/-- A voice advanced to `m` and then on to `stop` is the voice advanced to `stop`. -/
theorem advance_advance {fr m stop : Int} (hfr : fr ≤ m) (hm : m ≤ stop) (x : α × List SinkCall) :
    v.advance m stop (v.advance fr m x) = v.advance fr stop x := by
  have hrun := v.run_advance hfr hm x
  generalize v.advance fr m x = y at hrun ⊢
  simp only [advance, hrun, v.setDelay_setDelay]

/-- What becomes of the voice does not depend on the sink. -/
theorem advance_state (fr stop : Int) (x : α × List SinkCall) :
    (v.advance fr stop x).1 = (v.advance fr stop (x.1, [])).1 := by
  have hrun (y : α × List SinkCall) : ((v.run fr stop y).1, (v.run fr stop y).2.1) =
      runTimer (fun t p => (v.tick t (p, [])).1) v.period stop ((stop - fr).toNat + 1) (fr + v.delay y.1) y.1 :=
    (runTimer_map Prod.fst v.tick_state (fun _ => rfl) _).symm
  obtain ⟨hdue, hvoice⟩ := Prod.mk.inj ((hrun x).trans (hrun (x.1, [])).symm)
  simp only [advance, hdue, hvoice]

theorem advance_advance_state {fr m stop : Int} (hfr : fr ≤ m) (hm : m ≤ stop) (p : α) :
    (v.advance m stop ((v.advance fr m (p, [])).1, [])).1 = (v.advance fr stop (p, [])).1 := by
  rw [← v.advance_state, v.advance_advance hfr hm]

end VoiceTimer

/-! ### The voices of the NESAPU (R449 to R453) -/

/-- What a report makes of a voice does not depend on the sink. -/
theorem VoiceOut.emit_state (t a : Int) (v : VoiceOut) (k l : List SinkCall) :
    (VoiceOut.emit t a v k).1 = (VoiceOut.emit t a v l).1 := by
  unfold VoiceOut.emit
  split
  · rfl
  · split <;> rfl

section
variable (t : Int) (k l : List SinkCall)

theorem Pulse.emit_state (first : Bool) (p : Pulse) : (Pulse.emit first t (p, k)).1 = (Pulse.emit first t (p, l)).1 :=
  congrArg (fun o => { p with out := o }) (VoiceOut.emit_state t _ _ k l)

theorem Triangle.emit_state (c : Triangle) : (Triangle.emit t (c, k)).1 = (Triangle.emit t (c, l)).1 :=
  congrArg (fun o => { c with out := o }) (VoiceOut.emit_state t _ _ k l)

theorem Noise.emit_state (c : Noise) : (Noise.emit t (c, k)).1 = (Noise.emit t (c, l)).1 :=
  congrArg (fun o => { c with out := o }) (VoiceOut.emit_state t _ _ k l)

theorem Dmc.emit_state (c : Dmc) : (Dmc.emit t (c, k)).1 = (Dmc.emit t (c, l)).1 :=
  congrArg (fun o => { c with out := o }) (VoiceOut.emit_state t _ _ k l)

end

section
variable (d : Nat)

theorem Triangle.tick_setDelay (c : Triangle) : Triangle.tick { c with delay := d } = { c.tick with delay := d } := by
  unfold Triangle.tick
  split <;> rfl

theorem Dmc.step_setDelay (c : Dmc) : Dmc.step { c with delay := d } = { c.step with delay := d } := by
  unfold Dmc.step
  split
  · rfl
  · split
    · split <;> rfl
    · split <;> rfl

theorem Dmc.fill_setDelay (rd : Word → Byte) (c : Dmc) :
    Dmc.fill rd { c with delay := d } = { Dmc.fill rd c with delay := d } := by
  unfold Dmc.fill
  dsimp only
  split
  · split
    · split
      · rfl
      · split <;> rfl
    · rfl
  · rfl

theorem Dmc.tick_setDelay (rd : Word → Byte) (c : Dmc) :
    Dmc.tick rd { c with delay := d } = { Dmc.tick rd c with delay := d } := by
  unfold Dmc.tick
  rw [Dmc.step_setDelay]
  dsimp only
  split
  · split
    · rfl
    · exact Dmc.fill_setDelay d rd { c.step with bitsLeft := 8, silence := false, shift := _, buffer := none }
  · rfl

end

/-- The timer of a pulse. -/
def Pulse.timer (first : Bool) : VoiceTimer Pulse where
  tick t x := Pulse.emit first t (x.1.tick, x.2)
  period := Pulse.timerPeriod
  delay := Pulse.delay
  setDelay d p := { p with delay := d }
  period_pos _ := Nat.mul_pos (Nat.succ_pos _) (by decide)
  tick_setDelay _ _ _ := rfl
  tick_state t x := Pulse.emit_state t _ _ first x.1.tick
  period_setDelay _ _ := rfl
  delay_setDelay _ _ := rfl
  setDelay_setDelay _ _ _ := rfl

/-- The timer of the triangle. -/
def Triangle.timer : VoiceTimer Triangle where
  tick t x := Triangle.emit t (x.1.tick, x.2)
  period := Triangle.timerPeriod
  delay := Triangle.delay
  setDelay d c := { c with delay := d }
  period_pos _ := Nat.succ_pos _
  tick_setDelay d t x := by rw [Triangle.tick_setDelay]; rfl
  tick_state t x := Triangle.emit_state t _ _ x.1.tick
  period_setDelay _ _ := rfl
  delay_setDelay _ _ := rfl
  setDelay_setDelay _ _ _ := rfl

/-- The timer of the noise channel. -/
def Noise.timer : VoiceTimer Noise where
  tick t x := Noise.emit t (x.1.tick, x.2)
  period := Noise.timerPeriod
  delay := Noise.delay
  setDelay d c := { c with delay := d }
  period_pos c := by
    unfold Noise.timerPeriod
    generalize c.periodIndex = i
    revert i
    decide
  tick_setDelay _ _ _ := rfl
  tick_state t x := Noise.emit_state t _ _ x.1.tick
  period_setDelay _ _ := rfl
  delay_setDelay _ _ := rfl
  setDelay_setDelay _ _ _ := rfl

/-- The timer of the DMC. -/
def Dmc.timer (rd : Word → Byte) : VoiceTimer Dmc where
  tick t x := Dmc.emit t (x.1.tick rd, x.2)
  period := Dmc.timerPeriod
  delay := Dmc.delay
  setDelay d c := { c with delay := d }
  period_pos c := by
    unfold Dmc.timerPeriod
    generalize c.rateIndex = i
    revert i
    decide
  tick_setDelay d t x := by rw [Dmc.tick_setDelay]; rfl
  tick_state t x := Dmc.emit_state t _ _ (x.1.tick rd)
  period_setDelay _ _ := rfl
  delay_setDelay _ _ := rfl
  setDelay_setDelay _ _ _ := rfl

section
variable (fr stop : Int)

theorem Pulse.advance_eq (first : Bool) : Pulse.advance first fr stop = (Pulse.timer first).advance fr stop := rfl
theorem Triangle.advance_eq : Triangle.advance fr stop = Triangle.timer.advance fr stop := rfl
theorem Noise.advance_eq : Noise.advance fr stop = Noise.timer.advance fr stop := rfl
theorem Dmc.advance_eq (rd : Word → Byte) : Dmc.advance rd fr stop = (Dmc.timer rd).advance fr stop := rfl

end

/-! ### The loop of a chip (R424, R474, R503) -/

/-- What the loop of a chip asks of it: its time, the cycles to its next due time, the passing of cycles none of which
is beyond that, and the tick at a due time, after which nothing more is due at once. -/
structure EventClock (α : Type) where
  time : α → Int
  next : α → Nat
  elapse : Nat → α → α
  tick : α → α
  time_elapse : ∀ d x, time (elapse d x) = time x + d
  next_elapse : ∀ d x, next (elapse d x) = next x - d
  elapse_elapse : ∀ d e x, elapse d (elapse e x) = elapse (e + d) x
  time_tick : ∀ x, time (tick x) = time x
  next_tick_pos : ∀ x, 0 < next (tick x)

namespace EventClock
variable {α : Type} (c : EventClock α) {t m : Int} {x : α}

/-- Run to `t`, from due time to due time; the number is fuel. -/
def run (t : Int) : Nat → α → α
  | 0, x => c.elapse (t - c.time x).toNat x
  | n + 1, x =>
    if t ≤ c.time x + c.next x then c.elapse (t - c.time x).toNat x
    else run t n (c.tick (c.elapse (c.next x) x))

theorem run_of_le (n : Nat) (h : t ≤ c.time x + c.next x) : c.run t n x = c.elapse (t - c.time x).toNat x := by
  cases n with
  | zero => rfl
  | succ n => exact if_pos h

theorem run_succ_of_lt (n : Nat) (h : c.time x + c.next x < t) :
    c.run t (n + 1) x = c.run t n (c.tick (c.elapse (c.next x) x)) := if_neg (Int.not_le.mpr h)

theorem time_tick_elapse (x : α) : c.time (c.tick (c.elapse (c.next x) x)) = c.time x + c.next x := by
  rw [c.time_tick, c.time_elapse]

/-- After the first tick each pass takes a cycle at least, so more fuel than there are cycles changes nothing. -/
theorem run_fuel {n k : Nat} (hn : t ≤ c.time x + c.next x + n) (hk : t ≤ c.time x + c.next x + k) :
    c.run t n x = c.run t k x := by
  induction n generalizing k x with
  | zero =>
    have hle : t ≤ c.time x + c.next x := by omega
    rw [c.run_of_le _ hle, c.run_of_le _ hle]
  | succ n ih =>
    by_cases h : c.time x + c.next x < t
    · obtain ⟨k, rfl⟩ : ∃ j, k = j + 1 := ⟨k - 1, by omega⟩
      have := c.next_tick_pos (c.elapse (c.next x) x)
      rw [c.run_succ_of_lt n h, c.run_succ_of_lt k h]
      exact ih (by rw [c.time_tick_elapse]; omega) (by rw [c.time_tick_elapse]; omega)
    · rw [c.run_of_le _ (Int.not_lt.mp h), c.run_of_le _ (Int.not_lt.mp h)]

theorem time_run {n : Nat} (h : c.time x ≤ t) (hn : t ≤ c.time x + c.next x + n) : c.time (c.run t n x) = t := by
  induction n generalizing x with
  | zero =>
    rw [c.run_of_le _ (by omega), c.time_elapse]
    omega
  | succ n ih =>
    by_cases hlt : c.time x + c.next x < t
    · have := c.next_tick_pos (c.elapse (c.next x) x)
      rw [c.run_succ_of_lt n hlt]
      exact ih (by rw [c.time_tick_elapse]; omega) (by rw [c.time_tick_elapse]; omega)
    · rw [c.run_of_le _ (Int.not_lt.mp hlt), c.time_elapse]
      omega

/-- A stop before the next due time is not seen by the run that goes on. -/
theorem run_elapse {n k d : Nat} (hd : d ≤ c.next x) (h : c.time x + d ≤ t) (hn : t ≤ c.time x + d + n)
    (hk : t ≤ c.time x + c.next x + k) : c.run t n (c.elapse d x) = c.run t k x := by
  by_cases hlt : c.time x + c.next x < t
  · obtain ⟨k, rfl⟩ : ∃ j, k = j + 1 := ⟨k - 1, by omega⟩
    obtain ⟨n, rfl⟩ : ∃ j, n = j + 1 := ⟨n - 1, by omega⟩
    have hrest : d + (c.next x - d) = c.next x := by omega
    have := c.next_tick_pos (c.elapse (c.next x) x)
    rw [c.run_succ_of_lt k hlt, c.run_succ_of_lt n (by rw [c.time_elapse, c.next_elapse]; omega), c.next_elapse,
      c.elapse_elapse, hrest]
    exact c.run_fuel (by rw [c.time_tick_elapse]; omega) (by rw [c.time_tick_elapse]; omega)
  · have hrest : d + (t - (c.time x + d)).toNat = (t - c.time x).toNat := by omega
    rw [c.run_of_le k (Int.not_lt.mp hlt), c.run_of_le n (by rw [c.time_elapse, c.next_elapse]; omega),
      c.time_elapse, c.elapse_elapse, hrest]

/-- A chip run to `m` and then on to `t` is the chip run to `t`. -/
theorem run_run {n k l : Nat} (hxm : c.time x ≤ m) (hmt : m ≤ t) (hn : m ≤ c.time x + c.next x + n)
    (hk : t ≤ c.time x + c.next x + k) (hl : t ≤ m + l) : c.run t l (c.run m n x) = c.run t k x := by
  induction n generalizing k x with
  | zero =>
    have hle : m ≤ c.time x + c.next x := by omega
    rw [c.run_of_le _ hle]
    exact c.run_elapse (by omega) (by omega) (by omega) hk
  | succ n ih =>
    by_cases h : c.time x + c.next x < m
    · obtain ⟨k, rfl⟩ : ∃ j, k = j + 1 := ⟨k - 1, by omega⟩
      have := c.next_tick_pos (c.elapse (c.next x) x)
      rw [c.run_succ_of_lt n h, c.run_succ_of_lt k (by omega)]
      exact ih (by rw [c.time_tick_elapse]; omega) (by rw [c.time_tick_elapse]; omega)
        (by rw [c.time_tick_elapse]; omega)
    · rw [c.run_of_le _ (Int.not_lt.mp h)]
      exact c.run_elapse (by omega) (by omega) (by omega) hk

/-- Run to `t` with fuel for every cycle up to it. -/
def runUntil (t : Int) (x : α) : α := c.run t (t - c.time x).toNat x

theorem time_runUntil (h : c.time x ≤ t) : c.time (c.runUntil t x) = t := c.time_run h (by omega)

theorem runUntil_runUntil (hxm : c.time x ≤ m) (hmt : m ≤ t) : c.runUntil t (c.runUntil m x) = c.runUntil t x := by
  have hm := c.time_runUntil hxm
  unfold runUntil at hm ⊢
  rw [hm]
  exact c.run_run hxm hmt (by omega) (by omega) (by omega)

end EventClock

/-! ### The AY (R474) -/

theorem Ay.elapse_elapse (d e : Nat) (c : Ay) : (c.elapse e).elapse d = c.elapse (e + d) := by
  simp only [Ay.elapse, Nat.sub_sub, Nat.cast_add, Int.add_assoc]

theorem Ay.nextDelay_elapse (d : Nat) (c : Ay) : (c.elapse d).nextDelay = c.nextDelay - d := by
  simp only [Ay.nextDelay, Ay.elapse, Nat.sub_min_sub_right]

theorem AyTone.due_delay_pos {reload : Nat} (h : 0 < reload) (v : AyTone) : 0 < (v.due reload).delay := by
  unfold AyTone.due
  split
  · exact h
  · omega

section
variable (p : AyConsts) (c : Ay)

theorem Ay.noiseDue_frame :
    c.noiseDue p = { c with noiseLfsr := (c.noiseDue p).noiseLfsr, noiseDelay := (c.noiseDue p).noiseDelay } := by
  unfold Ay.noiseDue
  split <;> rfl

theorem Ay.envTick_frame : c.envTick = { c with envStep := c.envTick.envStep, envHold := c.envTick.envHold } := by
  unfold Ay.envTick
  split
  · rfl
  · dsimp only
    split
    · split
      · rfl
      · split <;> rfl
    · split <;> rfl

theorem Ay.envDue_frame :
    c.envDue p = { c with
      envStep := (c.envDue p).envStep
      envHold := (c.envDue p).envHold
      envDelay := (c.envDue p).envDelay } := by
  unfold Ay.envDue
  split
  · rw [Ay.envTick_frame]
  · rfl

theorem Ay.due_lastTime : (c.due p).lastTime = c.lastTime := by
  rw [Ay.due, Ay.envDue_frame, Ay.noiseDue_frame]

/-- A register period counts as 1 if it is 0, so no timer reloads 0 (R475). -/
theorem Ay.due_nextDelay_pos (hp : 0 < p.tick) : 0 < (c.due p).nextDelay := by
  have htone (d : Ay) (i : Nat) : 0 < d.toneReload p i := Nat.mul_pos (by omega) hp
  have hnoise (d : Ay) : 0 < (d.noiseDue p).noiseDelay := by
    unfold Ay.noiseDue
    split
    · exact Nat.mul_pos (by omega) hp
    · omega
  have henv (d : Ay) : 0 < (d.envDue p).envDelay := by
    unfold Ay.envDue
    split
    · exact Nat.mul_pos (by omega) hp
    · omega
  simp only [Ay.nextDelay, Nat.lt_min]
  refine ⟨?a, ?b, ?c, ?noise, ?env⟩
  case env => exact henv _
  case noise => rw [Ay.due, Ay.envDue_frame]; exact hnoise _
  all_goals
    rw [Ay.due, Ay.envDue_frame, Ay.noiseDue_frame]
    exact AyTone.due_delay_pos (htone c _) _

end

theorem Ay.emitAll_lastTime (p : AyConsts) (t : Int) (x : Ay × List SinkCall) :
    (Ay.emitAll p t x).1.lastTime = x.1.lastTime := rfl

theorem Ay.emitAll_nextDelay (p : AyConsts) (t : Int) (x : Ay × List SinkCall) :
    (Ay.emitAll p t x).1.nextDelay = x.1.nextDelay := rfl

/-- The AY and the sink by the clock of its five timers. -/
def Ay.clock (p : AyConsts) (hp : 0 < p.tick) : EventClock (Ay × List SinkCall) where
  time x := x.1.lastTime
  next x := x.1.nextDelay
  elapse d x := (x.1.elapse d, x.2)
  tick x := Ay.emitAll p (x.1.due p).lastTime (x.1.due p, x.2)
  time_elapse _ _ := rfl
  next_elapse d x := x.1.nextDelay_elapse d
  elapse_elapse d e x := congrArg (·, x.2) (x.1.elapse_elapse d e)
  time_tick x := by rw [Ay.emitAll_lastTime, Ay.due_lastTime]
  next_tick_pos x := by rw [Ay.emitAll_nextDelay]; exact Ay.due_nextDelay_pos p x.1 hp

theorem Ay.runLoop_succ_of_lt (p : AyConsts) {t : Int} (n : Nat) {x : Ay × List SinkCall}
    (h : x.1.lastTime + x.1.nextDelay < t) :
    Ay.runLoop p t (n + 1) x = Ay.runLoop p t n
      (Ay.emitAll p ((x.1.elapse x.1.nextDelay).due p).lastTime ((x.1.elapse x.1.nextDelay).due p, x.2)) :=
  if_neg (Int.not_le.mpr h)

theorem Ay.runLoop_eq (p : AyConsts) (hp : 0 < p.tick) (t : Int) (n : Nat) (x : Ay × List SinkCall) :
    ((Ay.runLoop p t n x).1.elapse (t - (Ay.runLoop p t n x).1.lastTime).toNat, (Ay.runLoop p t n x).2) =
      (Ay.clock p hp).run t n x := by
  induction n generalizing x with
  | zero => rfl
  | succ n ih =>
    by_cases h : t ≤ x.1.lastTime + x.1.nextDelay
    · have hstop : Ay.runLoop p t (n + 1) x = x := if_pos h
      rw [hstop, (Ay.clock p hp).run_of_le (n + 1) h]
      rfl
    · rw [Ay.runLoop_succ_of_lt p n (Int.not_le.mp h), ih, (Ay.clock p hp).run_succ_of_lt n (Int.not_le.mp h)]
      simp only [Ay.clock]

theorem Ay.runUntil_eq (p : AyConsts) (hp : 0 < p.tick) (t : Int) (x : Ay × List SinkCall) :
    Ay.runUntil p t x = (Ay.clock p hp).runUntil t x :=
  (Ay.runLoop_eq p hp t _ x).trans <| (Ay.clock p hp).run_fuel
    (by simp only [Ay.clock]; omega) (by simp only [Ay.clock]; omega)

/-! ### The POKEY (R503) -/

theorem Pokey.elapse_elapse (d e : Nat) (c : Pokey) : (c.elapse e).elapse d = c.elapse (e + d) := by
  simp only [Pokey.elapse, Nat.sub_sub, Nat.add_assoc, Nat.cast_add, Int.add_assoc]

theorem Pokey.nextDelay_elapse (d : Nat) (c : Pokey) : (c.elapse d).nextDelay = c.nextDelay - d := by
  simp only [Pokey.nextDelay, Pokey.elapse, Nat.sub_min_sub_right]

theorem Pokey.emitAll_lastTime (t : Int) (x : Pokey × List SinkCall) :
    (Pokey.emitAll t x).1.lastTime = x.1.lastTime := rfl

theorem Pokey.emitAll_nextDelay (t : Int) (x : Pokey × List SinkCall) :
    (Pokey.emitAll t x).1.nextDelay = x.1.nextDelay := rfl

/-- Every channel whose delay is 0 underflows, in order (R503). -/
abbrev Pokey.due (p : PokeyConsts) (c : Pokey) : Pokey := (((c.due1 p).due2 p).due3 p).due4 p

section
variable (p : PokeyConsts) (c : Pokey)

theorem Pokey.due1_frame : c.due1 p = { c with ch1 := (c.due1 p).ch1 } := by
  unfold Pokey.due1
  split <;> rfl

theorem Pokey.due2_frame : c.due2 p = { c with ch2 := (c.due2 p).ch2 } := by
  unfold Pokey.due2
  split <;> rfl

theorem Pokey.due3_frame : c.due3 p = { c with ch3 := (c.due3 p).ch3, hp1 := (c.due3 p).hp1 } := by
  unfold Pokey.due3
  split <;> rfl

theorem Pokey.due4_frame : c.due4 p = { c with ch4 := (c.due4 p).ch4, hp2 := (c.due4 p).hp2 } := by
  unfold Pokey.due4
  split <;> rfl

theorem Pokey.due_lastTime : (c.due p).lastTime = c.lastTime := by
  rw [Pokey.due, Pokey.due4_frame, Pokey.due3_frame, Pokey.due2_frame, Pokey.due1_frame]

variable (h64 : 0 < p.div64k) (h15 : 0 < p.div15k)
include h64 h15

theorem Pokey.baseDiv_pos : 0 < c.baseDiv p := by
  unfold Pokey.baseDiv
  split
  · exact h15
  · exact h64

theorem Pokey.lowPeriod_pos (audf : Byte) (fast : Bool) : 0 < c.lowPeriod p audf fast := by
  unfold Pokey.lowPeriod
  split
  · omega
  · exact Nat.mul_pos (Nat.succ_pos _) (c.baseDiv_pos p h64 h15)

theorem Pokey.highPeriod_pos (audf lo : Byte) (join fast : Bool) : 0 < c.highPeriod p audf lo join fast := by
  unfold Pokey.highPeriod
  split
  · exact Nat.mul_pos (Nat.succ_pos _) (c.baseDiv_pos p h64 h15)
  · split
    · omega
    · exact Nat.mul_pos (Nat.succ_pos _) (c.baseDiv_pos p h64 h15)

omit h64 h15 in
theorem Pokey.nextDelay_pos {c : Pokey} (h1 : 0 < c.ch1.delay) (h2 : 0 < c.ch2.delay) (h3 : 0 < c.ch3.delay)
    (h4 : 0 < c.ch4.delay) : 0 < c.nextDelay :=
  Nat.lt_min.mpr ⟨h1, Nat.lt_min.mpr ⟨h2, Nat.lt_min.mpr ⟨h3, h4⟩⟩⟩

/-- No divider reloads 0 (R502). -/
theorem Pokey.due_nextDelay_pos : 0 < (c.due p).nextDelay := by
  have h1 (d : Pokey) : 0 < (d.due1 p).ch1.delay := by
    unfold Pokey.due1
    split
    · exact d.lowPeriod_pos p h64 h15 _ _
    · omega
  have h2 (d : Pokey) : 0 < (d.due2 p).ch2.delay := by
    unfold Pokey.due2
    split
    · exact d.highPeriod_pos p h64 h15 _ _ _ _
    · omega
  have h3 (d : Pokey) : 0 < (d.due3 p).ch3.delay := by
    unfold Pokey.due3
    split
    · exact d.lowPeriod_pos p h64 h15 _ _
    · omega
  have h4 (d : Pokey) : 0 < (d.due4 p).ch4.delay := by
    unfold Pokey.due4
    split
    · exact d.highPeriod_pos p h64 h15 _ _ _ _
    · omega
  refine Pokey.nextDelay_pos ?_ ?_ ?_ ?_ <;> rw [Pokey.due]
  · rw [Pokey.due4_frame, Pokey.due3_frame, Pokey.due2_frame]; exact h1 _
  · rw [Pokey.due4_frame, Pokey.due3_frame]; exact h2 _
  · rw [Pokey.due4_frame]; exact h3 _
  · exact h4 _

/-- The POKEY and the sink by the clock of its four dividers. -/
def Pokey.clock : EventClock (Pokey × List SinkCall) where
  time x := x.1.lastTime
  next x := x.1.nextDelay
  elapse d x := (x.1.elapse d, x.2)
  tick x := Pokey.emitAll (x.1.due p).lastTime (x.1.due p, x.2)
  time_elapse _ _ := rfl
  next_elapse d x := x.1.nextDelay_elapse d
  elapse_elapse d e x := congrArg (·, x.2) (x.1.elapse_elapse d e)
  time_tick x := by rw [Pokey.emitAll_lastTime, Pokey.due_lastTime]
  next_tick_pos x := by rw [Pokey.emitAll_nextDelay]; exact Pokey.due_nextDelay_pos p x.1 h64 h15

omit h64 h15 in
theorem Pokey.runLoop_succ_of_lt {t : Int} (n : Nat) {x : Pokey × List SinkCall}
    (h : x.1.lastTime + x.1.nextDelay < t) :
    Pokey.runLoop p t (n + 1) x = Pokey.runLoop p t n
      (Pokey.emitAll ((x.1.elapse x.1.nextDelay).due p).lastTime ((x.1.elapse x.1.nextDelay).due p, x.2)) :=
  if_neg (Int.not_le.mpr h)

theorem Pokey.runLoop_eq (t : Int) (n : Nat) (x : Pokey × List SinkCall) :
    ((Pokey.runLoop p t n x).1.elapse (t - (Pokey.runLoop p t n x).1.lastTime).toNat, (Pokey.runLoop p t n x).2) =
      (Pokey.clock p h64 h15).run t n x := by
  induction n generalizing x with
  | zero => rfl
  | succ n ih =>
    by_cases h : t ≤ x.1.lastTime + x.1.nextDelay
    · have hstop : Pokey.runLoop p t (n + 1) x = x := if_pos h
      rw [hstop, (Pokey.clock p h64 h15).run_of_le (n + 1) h]
      rfl
    · rw [Pokey.runLoop_succ_of_lt p n (Int.not_le.mp h), ih,
        (Pokey.clock p h64 h15).run_succ_of_lt n (Int.not_le.mp h)]
      simp only [Pokey.clock]

theorem Pokey.runUntil_eq (t : Int) (x : Pokey × List SinkCall) :
    Pokey.runUntil p t x = (Pokey.clock p h64 h15).runUntil t x :=
  (Pokey.runLoop_eq p h64 h15 t _ x).trans <| (Pokey.clock p h64 h15).run_fuel
    (by simp only [Pokey.clock]; omega) (by simp only [Pokey.clock]; omega)

end

/-! ### The NESAPU (R424, R444) -/

/-- The NESAPU with other voices. -/
def Nes.withVoices (n : Nes) (p1 p2 : Pulse) (tr : Triangle) (no : Noise) (dm : Dmc) : Nes :=
  { n with pulse1 := p1, pulse2 := p2, triangle := tr, noise := no, dmc := dm }

theorem Nes.withVoices_congr (n : Nes) {p1 q1 p2 q2 : Pulse} {tr ur : Triangle} {no mo : Noise} {dm em : Dmc}
    (h1 : p1 = q1) (h2 : p2 = q2) (h3 : tr = ur) (h4 : no = mo) (h5 : dm = em) :
    n.withVoices p1 p2 tr no dm = n.withVoices q1 q2 ur mo em := by
  rw [h1, h2, h3, h4, h5]

/-- What the passing of time makes of the voices, whatever the sink (R424). -/
theorem Nes.advance_state (rd : Word → Byte) (fr stop : Int) (x : Nes × List SinkCall) :
    (Nes.advance rd fr stop x).1 = x.1.withVoices
      (Pulse.advance true fr stop (x.1.pulse1, [])).1 (Pulse.advance false fr stop (x.1.pulse2, [])).1
      (Triangle.advance fr stop (x.1.triangle, [])).1 (Noise.advance fr stop (x.1.noise, [])).1
      (Dmc.advance rd fr stop (x.1.dmc, [])).1 :=
  x.1.withVoices_congr ((Pulse.timer true).advance_state fr stop _) ((Pulse.timer false).advance_state fr stop _)
    (Triangle.timer.advance_state fr stop _) (Noise.timer.advance_state fr stop _)
    ((Dmc.timer rd).advance_state fr stop _)

/-- What a report of all voices makes of them, whatever the sink (R423). -/
theorem Nes.emitAll_state (t : Int) (x : Nes × List SinkCall) :
    (Nes.emitAll t x).1 = x.1.withVoices (Pulse.emit true t (x.1.pulse1, [])).1 (Pulse.emit false t (x.1.pulse2, [])).1
      (Triangle.emit t (x.1.triangle, [])).1 (Noise.emit t (x.1.noise, [])).1 (Dmc.emit t (x.1.dmc, [])).1 := by
  simp only [Nes.emitAll, Nes.emitPulse1, Nes.emitPulse2, Nes.emitTriangle, Nes.emitNoise, Nes.emitDmc]
  exact x.1.withVoices_congr (Pulse.emit_state ..) (Pulse.emit_state ..) (Triangle.emit_state ..) (Noise.emit_state ..)
    (Dmc.emit_state ..)

section
variable (p : NesConsts) (tf : Int) (x : Nes × List SinkCall)

theorem Nes.frameTick_state : (Nes.frameTick p tf x).1 = (Nes.frameTick p tf (x.1, [])).1 := by
  unfold Nes.frameTick
  rw [Nes.emitAll_state, Nes.emitAll_state]

theorem Nes.frameTick_lastTime : (Nes.frameTick p tf x).1.lastTime = x.1.lastTime := by
  unfold Nes.frameTick
  extract_lets s n0 n1 n2 n3
  have h1 : n1.lastTime = x.1.lastTime := by unfold n1; split <;> rfl
  have h2 : n2.lastTime = n1.lastTime := by unfold n2; split <;> rfl
  exact h2.trans h1

/-- The sequencer reloads a whole step at least (R444). -/
theorem Nes.frameTick_frameDelay_pos (hp : 0 < p.frameStepPeriod) : 0 < (Nes.frameTick p tf x).1.frameDelay :=
  Nat.lt_of_lt_of_le hp (Nat.le_add_right _ _)

end

/-- The passing of `d` cycles: the voices advance, the sequencer's delay goes down (R424). -/
def Nes.elapse (rd : Word → Byte) (d : Nat) (n : Nes) : Nes :=
  { (Nes.advance rd n.lastTime (n.lastTime + d) (n, [])).1 with
    frameDelay := n.frameDelay - d
    lastTime := n.lastTime + d }

theorem Nes.elapse_elapse (rd : Word → Byte) (d e : Nat) (n : Nes) :
    (n.elapse rd e).elapse rd d = n.elapse rd (e + d) := by
  have hfr : n.lastTime ≤ n.lastTime + e := by omega
  have hm : n.lastTime + e ≤ n.lastTime + e + d := by omega
  simp only [Nes.elapse, Nes.advance_state, Nes.withVoices, Nat.cast_add, Nat.sub_sub, ← Int.add_assoc,
    Pulse.advance_eq, Triangle.advance_eq, Noise.advance_eq, Dmc.advance_eq,
    VoiceTimer.advance_advance_state _ hfr hm]

/-- The NESAPU, whatever the sink, by the clock of its frame sequencer. -/
def Nes.clock (p : NesConsts) (rd : Word → Byte) (hp : 0 < p.frameStepPeriod) : EventClock Nes where
  time := Nes.lastTime
  next := Nes.frameDelay
  elapse := Nes.elapse rd
  tick n := (Nes.frameTick p n.lastTime (n, [])).1
  time_elapse _ _ := rfl
  next_elapse _ _ := rfl
  elapse_elapse := Nes.elapse_elapse rd
  time_tick _ := Nes.frameTick_lastTime ..
  next_tick_pos _ := Nes.frameTick_frameDelay_pos _ _ _ hp

section
variable (p : NesConsts) (rd : Word → Byte) {t : Int}

/-- The NESAPU in the middle of a pass of its loop, at the time `stop` (R424). -/
def Nes.advanced (stop : Int) (x : Nes × List SinkCall) : Nes × List SinkCall :=
  let y := Nes.advance rd x.1.lastTime stop x
  ({ y.1 with frameDelay := y.1.frameDelay - (stop - y.1.lastTime).toNat, lastTime := stop }, y.2)

theorem Nes.advanced_state {stop : Int} {x : Nes × List SinkCall} (h : x.1.lastTime ≤ stop) :
    (Nes.advanced rd stop x).1 = x.1.elapse rd (stop - x.1.lastTime).toNat := by
  have hstop : x.1.lastTime + ((stop - x.1.lastTime).toNat : Int) = stop := by omega
  simp only [Nes.advanced, Nes.elapse, Nes.advance_state, Nes.withVoices, hstop]

theorem Nes.runLoop_succ_of_le (n : Nat) {x : Nes × List SinkCall} (h : t ≤ x.1.lastTime + x.1.frameDelay) :
    Nes.runLoop p rd t (n + 1) x = Nes.advanced rd t x := by
  have hmin : min t (x.1.lastTime + x.1.frameDelay) = t := min_eq_left h
  simp only [Nes.runLoop, hmin, if_true, Nes.advanced]

theorem Nes.runLoop_succ_of_lt (n : Nat) {x : Nes × List SinkCall} (h : x.1.lastTime + x.1.frameDelay < t) :
    Nes.runLoop p rd t (n + 1) x =
      Nes.runLoop p rd t n (Nes.frameTick p (x.1.lastTime + x.1.frameDelay)
        (Nes.advanced rd (x.1.lastTime + x.1.frameDelay) x)) := by
  have hmin : min t (x.1.lastTime + x.1.frameDelay) = x.1.lastTime + x.1.frameDelay := min_eq_right h.le
  simp only [Nes.runLoop, hmin, if_neg h.ne, Nes.advanced]

theorem Nes.runLoop_state (hp : 0 < p.frameStepPeriod) (n : Nat) (x : Nes × List SinkCall) (h : x.1.lastTime ≤ t)
    (hn : t ≤ x.1.lastTime + x.1.frameDelay + n) :
    (Nes.runLoop p rd t (n + 1) x).1 = (Nes.clock p rd hp).run t n x.1 := by
  induction n generalizing x with
  | zero =>
    have hle : t ≤ x.1.lastTime + x.1.frameDelay := by omega
    rw [Nes.runLoop_succ_of_le p rd 0 hle, Nes.advanced_state rd h]
    rfl
  | succ n ih =>
    by_cases hlt : x.1.lastTime + x.1.frameDelay < t
    · have hstate : (Nes.frameTick p (x.1.lastTime + x.1.frameDelay)
          (Nes.advanced rd (x.1.lastTime + x.1.frameDelay) x)).1 =
          (Nes.clock p rd hp).tick ((Nes.clock p rd hp).elapse x.1.frameDelay x.1) := by
        have hd : (x.1.lastTime + x.1.frameDelay - x.1.lastTime).toNat = x.1.frameDelay := by omega
        rw [Nes.frameTick_state, Nes.advanced_state rd (by omega), hd]
        rfl
      have htime := (Nes.clock p rd hp).time_tick_elapse x.1
      have hpos := (Nes.clock p rd hp).next_tick_pos ((Nes.clock p rd hp).elapse x.1.frameDelay x.1)
      simp only [Nes.clock] at hstate htime hpos
      rw [← hstate] at htime hpos
      rw [Nes.runLoop_succ_of_lt p rd _ hlt, ih _ (by omega) (by omega), hstate]
      exact ((Nes.clock p rd hp).run_succ_of_lt n hlt).symm
    · rw [Nes.runLoop_succ_of_le p rd _ (Int.not_lt.mp hlt), (Nes.clock p rd hp).run_of_le _ (Int.not_lt.mp hlt),
        Nes.advanced_state rd h]
      rfl

theorem Nes.runUntil_state (hp : 0 < p.frameStepPeriod) (x : Nes × List SinkCall) (h : x.1.lastTime ≤ t) :
    (Nes.runUntil p rd t x).1 = (Nes.clock p rd hp).runUntil t x.1 :=
  (Nes.runLoop_state p rd hp _ x h (by omega)).trans <| (Nes.clock p rd hp).run_fuel
    (by simp only [Nes.clock]; omega) (by simp only [Nes.clock]; omega)

end

/-! ### The statement -/

/-- Settles O54: each voice by the timer they share, each chip by the loop they share; of the NESAPU the state alone. -/
theorem chipTimeRunsInPieces : Obligations.ChipTimeRunsInPieces := by
  refine ⟨?pulse, ?triangle, ?noise, ?dmc, ?ay, ?pokey, ?nes⟩
  case pulse => exact fun first _ _ _ x h1 h2 => (Pulse.timer first).advance_advance h1 h2 x
  case triangle => exact fun _ _ _ x h1 h2 => Triangle.timer.advance_advance h1 h2 x
  case noise => exact fun _ _ _ x h1 h2 => Noise.timer.advance_advance h1 h2 x
  case dmc => exact fun rd _ _ _ x h1 h2 => (Dmc.timer rd).advance_advance h1 h2 x
  case ay =>
    intro p m t x hp h1 h2
    simp only [Ay.runUntil_eq p hp]
    exact ⟨(Ay.clock p hp).runUntil_runUntil h1 h2, (Ay.clock p hp).time_runUntil (h1.trans h2)⟩
  case pokey =>
    intro p m t x h64 h15 h1 h2
    simp only [Pokey.runUntil_eq p h64 h15]
    exact ⟨(Pokey.clock p h64 h15).runUntil_runUntil h1 h2, (Pokey.clock p h64 h15).time_runUntil (h1.trans h2)⟩
  case nes =>
    intro p rd m t x hp h1 h2
    have hm := Nes.runUntil_state p rd hp x h1
    have htime : (Nes.runUntil p rd m x).1.lastTime = m := by
      rw [hm]
      exact (Nes.clock p rd hp).time_runUntil h1
    rw [Nes.runUntil_state p rd hp _ (htime.trans_le h2), hm, Nes.runUntil_state p rd hp x (h1.trans h2)]
    exact ⟨(Nes.clock p rd hp).runUntil_runUntil h1 h2, (Nes.clock p rd hp).time_runUntil (h1.trans h2)⟩

end Sys2Proof.Machine
end

section
/-! PROOFS. The registers of the NESAPU (O50, O51): what each write stores in the spec's exact arithmetic, the row of
each address in the table of R426, and the status read, on time and late (U9). -/

namespace Sys2Proof.Machine

/-! ### The register writes in exact arithmetic (R427 to R440, R442) -/

section
variable (v : Byte)

theorem Pulse.write0_eq (p : Pulse) : p.write0 v = pulseWritten 0 v p := by
  simp only [Pulse.write0, pulseWritten, bit_eq, extract_eq, Nat.reducePow, Nat.div_one]

theorem Pulse.write1_eq (p : Pulse) : p.write1 v = pulseWritten 1 v p := by
  simp only [Pulse.write1, pulseWritten, bit_eq, extract_eq, Nat.reducePow, Nat.div_one]

theorem Pulse.write2_eq (p : Pulse) : p.write2 v = pulseWritten 2 v p := by
  simp only [Pulse.write2, pulseWritten, periodLow_eq]

theorem Pulse.write3_eq (p : Pulse) : p.write3 v = pulseWritten 3 v p := by
  simp only [Pulse.write3, pulseWritten, periodHigh_eq, lengthEntry_eq]

theorem Triangle.write0_eq (c : Triangle) : c.write0 v = triangleWritten 0 v c := by
  simp only [Triangle.write0, triangleWritten, bit_eq, extract_eq, Nat.reducePow, Nat.div_one]

theorem Triangle.write2_eq (c : Triangle) : c.write2 v = triangleWritten 2 v c := by
  simp only [Triangle.write2, triangleWritten, periodLow_eq]

theorem Triangle.write3_eq (c : Triangle) : c.write3 v = triangleWritten 3 v c := by
  simp only [Triangle.write3, triangleWritten, periodHigh_eq, lengthEntry_eq]

theorem Noise.write0_eq (c : Noise) : c.write0 v = noiseWritten 0 v c := by
  simp only [Noise.write0, noiseWritten, bit_eq, extract_eq, Nat.reducePow, Nat.div_one]

theorem Noise.write2_eq (c : Noise) : c.write2 v = noiseWritten 2 v c := by
  simp only [Noise.write2, noiseWritten, bit_eq, extract_eq, Nat.reducePow, Nat.div_one]

theorem Noise.write3_eq (c : Noise) : c.write3 v = noiseWritten 3 v c := by
  simp only [Noise.write3, noiseWritten, lengthEntry_eq]

theorem Dmc.write0_eq (c : Dmc) : c.write0 v = dmcWritten 0 v c := by
  simp only [Dmc.write0, dmcWritten, bit_eq, extract_eq, Nat.reducePow, Nat.div_one, Bool.if_false_right,
    Bool.decide_eq_true]

theorem Dmc.write1_eq (c : Dmc) : c.write1 v = dmcWritten 1 v c := by
  simp only [Dmc.write1, dmcWritten, extract_eq, Nat.reducePow, Nat.div_one]

end

/-! ### The table of R426, one equation per voice -/

section
variable (p : NesConsts) (rd : Word → Byte) (t : Int) (v : Byte) (x : Nes × List SinkCall)

theorem Nes.applyWrite_pulse1 {k : Nat} (hk : k < 4) :
    Nes.applyWrite p rd t (0x4000 + k) v x =
      Nes.emitPulse1 t ({ x.1 with pulse1 := pulseWritten k v x.1.pulse1 }, x.2) := by
  interval_cases k
  · rw [← Pulse.write0_eq]; rfl
  · rw [← Pulse.write1_eq]; rfl
  · rw [← Pulse.write2_eq]; rfl
  · rw [← Pulse.write3_eq]; rfl

theorem Nes.applyWrite_pulse2 {k : Nat} (hk : k < 4) :
    Nes.applyWrite p rd t (0x4004 + k) v x =
      Nes.emitPulse2 t ({ x.1 with pulse2 := pulseWritten k v x.1.pulse2 }, x.2) := by
  interval_cases k
  · rw [← Pulse.write0_eq]; rfl
  · rw [← Pulse.write1_eq]; rfl
  · rw [← Pulse.write2_eq]; rfl
  · rw [← Pulse.write3_eq]; rfl

theorem Nes.applyWrite_triangle {k : Nat} (hk : k ∈ [0, 2, 3]) :
    Nes.applyWrite p rd t (0x4008 + k) v x =
      Nes.emitTriangle t ({ x.1 with triangle := triangleWritten k v x.1.triangle }, x.2) := by
  simp only [List.mem_cons, List.not_mem_nil, or_false] at hk
  obtain rfl | rfl | rfl := hk
  · rw [← Triangle.write0_eq]; rfl
  · rw [← Triangle.write2_eq]; rfl
  · rw [← Triangle.write3_eq]; rfl

theorem Nes.applyWrite_noise {k : Nat} (hk : k ∈ [0, 2, 3]) :
    Nes.applyWrite p rd t (0x400C + k) v x =
      Nes.emitNoise t ({ x.1 with noise := noiseWritten k v x.1.noise }, x.2) := by
  simp only [List.mem_cons, List.not_mem_nil, or_false] at hk
  obtain rfl | rfl | rfl := hk
  · rw [← Noise.write0_eq]; rfl
  · rw [← Noise.write2_eq]; rfl
  · rw [← Noise.write3_eq]; rfl

theorem Nes.applyWrite_dmc {k : Nat} (hk : k < 2) :
    Nes.applyWrite p rd t (0x4010 + k) v x = Nes.emitDmc t ({ x.1 with dmc := dmcWritten k v x.1.dmc }, x.2) := by
  interval_cases k
  · rw [← Dmc.write0_eq]; rfl
  · rw [← Dmc.write1_eq]; rfl

theorem Nes.applyWrite_dmcSample {k : Nat} (hk : k ∈ [2, 3]) :
    Nes.applyWrite p rd t (0x4010 + k) v x = ({ x.1 with dmc := dmcWritten k v x.1.dmc }, x.2) := by
  simp only [List.mem_cons, List.not_mem_nil, or_false] at hk
  obtain rfl | rfl := hk <;> rfl

theorem Nes.applyWrite_enable :
    Nes.applyWrite p rd t 0x4015 v x = Nes.emitAll t (x.1.writeEnable rd v, x.2) := rfl

theorem Nes.applyWrite_frame : Nes.applyWrite p rd t 0x4017 v x = (x.1.writeFrame p v, x.2) := rfl

theorem Nes.applyWrite_none {a : Nat} (h : a ∈ [0x4009, 0x400D, 0x4014, 0x4016] ∨ a < 0x4000 ∨ 0x4017 < a) :
    Nes.applyWrite p rd t a v x = x := by
  unfold Nes.applyWrite
  split
  case h_21 => rfl
  all_goals exact absurd h (by decide)

end

/-! ### Writes on time and late (R424, R571, R622, U9) -/

section
variable (t : Int) (a : Word) (v : Byte) (s : State)

/-- A write not before the chip's time: the chip runs to it, and the row of the address is done. -/
theorem nesWrite_onTime (h : s.nes.lastTime ≤ t) :
    nesWrite t a v s =
      (let y := Nes.applyWrite s.cfg.nesConsts (ptRead s) t a.toNat v
        (Nes.runUntil s.cfg.nesConsts (ptRead s) t (s.nes, s.sink))
       { s with nes := y.1, sink := y.2 }) :=
  if_neg (Int.not_lt.mpr h)

theorem nesAdvance_now : nesAdvance s.nes.lastTime s = s := by
  rw [nesAdvance, nes_runUntil_now]

theorem nesWrite_late (h : t < s.nes.lastTime) :
    nesWrite t a v s = lateCall (nesWrite s.nes.lastTime a v) s := by
  have hnow : nesWrite s.nes.lastTime a v s = nesStore s.nes.lastTime a v s := by
    rw [nesWrite, if_neg (Int.lt_irrefl _), nesAdvance_now]
  rw [nesWrite, if_pos h, lateCall, lateCall, hnow]

theorem ptRead_nesWrite (b : Word) : ptRead (nesWrite t a v s) b = ptRead s b := by
  rw [nesWrite_frame]
  rfl

end

/-! ### Machines with one range of handled addresses (R80, R81) -/

theorem writeHandler_of_range {c : Cfg} {r : WriteRange} (h : c.writeRanges = [r]) (a : Word) :
    writeHandler c a = if r.lo ≤ a.toNat ∧ a.toNat ≤ r.hi then some r.handler else none := by
  rw [writeHandler, h, List.find?_singleton, ← Bool.decide_and]
  simp only [decide_eq_true_eq]
  split <;> rfl

theorem readHandler_of_range {c : Cfg} {r : ReadRange} (h : c.readRanges = [r]) (a : Word) :
    readHandler c a = if r.lo ≤ a.toNat ∧ a.toNat ≤ r.hi then some r.handler else none := by
  rw [readHandler, h, List.find?_singleton, ← Bool.decide_and]
  simp only [decide_eq_true_eq]
  split <;> rfl

/-! ### The status byte (R441) -/

theorem byteOfBits_toNat (b7 b6 b5 b4 b3 b2 b1 b0 : Bool) :
    (byteOfBits b7 b6 b5 b4 b3 b2 b1 b0).toNat =
      128 * b7.toNat + 64 * b6.toNat + 32 * b5.toNat + 16 * b4.toNat + 8 * b3.toNat + 4 * b2.toNat + 2 * b1.toNat
        + b0.toNat := by
  have h7 := b7.toNat_le
  have h6 := b6.toNat_le
  have h5 := b5.toNat_le
  have h4 := b4.toNat_le
  have h3 := b3.toNat_le
  have h2 := b2.toNat_le
  have h1 := b1.toNat_le
  have h0 := b0.toNat_le
  rw [byteOfBits, BitVec.toNat_ofNat]
  omega

theorem Nes.status_toNat (n : Nes) :
    n.status.toNat =
      (decide (0 < n.pulse1.length)).toNat + 2 * (decide (0 < n.pulse2.length)).toNat
        + 4 * (decide (0 < n.triangle.length)).toNat + 8 * (decide (0 < n.noise.length)).toNat
        + 16 * (decide (0 < n.dmc.bytesLeft)).toNat + 64 * n.frameIrqFlag.toNat + 128 * n.dmc.irqFlag.toNat := by
  rw [Nes.status, byteOfBits_toNat, Bool.toNat_false]
  omega

/-! ### The statements -/

/-- Settles O50: each address by its row of the table of R426, on time; a late write by what it is at the chip's
time. -/
theorem nesRegisterWrites : Obligations.NesRegisterWrites := by
  refine ⟨fun s t a v => ⟨fun hlate => ⟨fun hc => ?atChipTime, fun hc => ?ignored⟩, fun h => ?onTime⟩,
    fun s a v hr => ⟨fun hlo hhi => ?chip, fun hout => ?memory⟩⟩
  case atChipTime => rw [nesWrite_late t a v s hlate, lateCall, hc]; rfl
  case ignored => rw [nesWrite_late t a v s hlate, lateCall, hc]; rfl
  case onTime =>
    rw [nesWrite_onTime t a v s h]
    refine ⟨fun k hk ha => ?pulse1, fun k hk ha => ?pulse2, fun k hk ha => ?triangle, fun k hk ha => ?noise,
      fun k hk ha => ?dmc, fun k hk ha => ?dmcSample, fun ha => ?enable, fun ha => ?frame, fun ha => ?none⟩
    case pulse1 => rw [ha, Nes.applyWrite_pulse1 _ _ _ _ _ hk]; rfl
    case pulse2 => rw [ha, Nes.applyWrite_pulse2 _ _ _ _ _ hk]; rfl
    case triangle => rw [ha, Nes.applyWrite_triangle _ _ _ _ _ hk]; rfl
    case noise => rw [ha, Nes.applyWrite_noise _ _ _ _ _ hk]; rfl
    case dmc => rw [ha, Nes.applyWrite_dmc _ _ _ _ _ hk]; rfl
    case dmcSample => rw [ha, Nes.applyWrite_dmcSample _ _ _ _ _ hk]
    case enable =>
      rw [ha, Nes.applyWrite_enable]
      simp only [Nes.writeEnable, bit_eq, enable_eq]
    case frame =>
      rw [ha, Nes.applyWrite_frame]
      simp only [Nes.writeFrame, bit_eq]
      cases bitOf v 6 <;> rfl
    case none => rw [Nes.applyWrite_none _ _ _ _ _ ha]
  case chip =>
    have hw : memWrite a v s = nesWrite s.time a v s := by
      rw [memWrite, writeHandler_of_range hr, if_pos ⟨hlo, hhi⟩]
    exact ⟨hw, fun b => by rw [hw, ptRead_nesWrite]⟩
  case memory => exact memWrite_plain a v s ((writeHandler_of_range hr a).trans (if_neg (by dsimp only; omega)))

end Sys2Proof.Machine

namespace Sys2Proof

open Machine in
/-- Settles O51: the one handled address is `0x4015`, and the status byte is read off the chip at the time of the
read. -/
theorem nesStatusRead : Obligations.NesStatusRead := by
  intro s a hr
  have hstatus : memRead 0x4015 s = nesReadStatus s.time s := by
    rw [memRead, readHandler_of_range hr]
    rfl
  refine ⟨fun ha => ?elsewhere, ?onTime, ?atChipTime, ?ignored⟩
  case elsewhere =>
    have hne : a.toNat ≠ 0x4015 := fun h => ha (BitVec.eq_of_toNat_eq h)
    exact memRead_plain a s ((readHandler_of_range hr a).trans (if_neg (by dsimp only; omega)))
  case onTime =>
    rintro rfl h
    rw [hstatus, nesReadStatus, if_neg (Int.not_lt.mpr h)]
    exact ⟨rfl, Nes.status_toNat _⟩
  case atChipTime =>
    rintro rfl hlate hc
    rw [hstatus, nesReadStatus, if_pos hlate, hc]
    exact ⟨rfl, Nes.status_toNat _⟩
  case ignored =>
    rintro rfl hlate hc
    rw [hstatus, nesReadStatus, if_pos hlate, hc]
    rfl

end Sys2Proof
end

section
/-! PROOFS. The registers of the AY and the Z80's port writes (O52), and the registers of the POKEY (O53): what each
write stores in the spec's exact arithmetic, on time and late (U9, R571). -/

namespace Sys2Proof.Machine

/-! ### Masked ports and bytes (R490) -/

theorem toNat_hi8 (w : Word) : (hi8 w).toNat = w.toNat / 256 := by
  have := w.isLt
  rw [hi8_eq, BitVec.toNat_ofNat]
  omega

theorem toNat_lo8 (w : Word) : (lo8 w).toNat = w.toNat % 256 := by
  rw [lo8_eq, BitVec.toNat_ofNat]

/-- Words are equal if their bytes are. -/
theorem word_eq_iff (a b : Word) : a = b ↔ lo8 a = lo8 b ∧ hi8 a = hi8 b := by
  refine ⟨fun h => ⟨congrArg lo8 h, congrArg hi8 h⟩, fun ⟨hl, hh⟩ => ?_⟩
  rw [← word_lo8_hi8 a, hl, hh, word_lo8_hi8]

theorem lo8_and (a b : Word) : lo8 (a &&& b) = lo8 a &&& lo8 b := BitVec.extractLsb'_and ..

theorem hi8_and (a b : Word) : hi8 (a &&& b) = hi8 a &&& hi8 b := BitVec.extractLsb'_and ..

theorem hi8_eq_iff (w : Word) (b : Byte) : hi8 w = b ↔ w.toNat / 256 = b.toNat := by
  rw [← BitVec.toNat_inj, toNat_hi8]

/-- The beeper's ports: any with low byte `0xFE`. -/
theorem port_isBeeper (port : Word) : port &&& 0x00FF = 0x00FE ↔ port.toNat % 256 = 0xFE := by
  have hl (b : Byte) : b &&& lo8 0x00FF = lo8 0x00FE ↔ b.toNat = 0xFE := by revert b; decide
  have hh (b : Byte) : b &&& hi8 0x00FF = hi8 0x00FE := by revert b; decide
  rw [word_eq_iff, lo8_and, hi8_and, hl, toNat_lo8, and_iff_left (hh _)]

/-- The ports of the register latch: low byte `0xFD`, bit 8 not decoded. -/
theorem port_isLatch (port : Word) :
    port &&& 0xFEFF = 0xFEFD ↔ port.toNat % 256 = 0xFD ∧ (port.toNat / 256 = 0xFF ∨ port.toNat / 256 = 0xFE) := by
  have hl (b : Byte) : b &&& lo8 0xFEFF = lo8 0xFEFD ↔ b.toNat = 0xFD := by revert b; decide
  have hh (b : Byte) : b &&& hi8 0xFEFF = hi8 0xFEFD ↔ b.toNat = 0xFF ∨ b.toNat = 0xFE := by revert b; decide
  rw [word_eq_iff, lo8_and, hi8_and, hl, hh, toNat_lo8, toNat_hi8]

/-- The ports of a register write: low byte `0xFD`, bit 8 not decoded. -/
theorem port_isData (port : Word) :
    port &&& 0xFEFF = 0xBEFD ↔ port.toNat % 256 = 0xFD ∧ (port.toNat / 256 = 0xBF ∨ port.toNat / 256 = 0xBE) := by
  have hl (b : Byte) : b &&& lo8 0xFEFF = lo8 0xBEFD ↔ b.toNat = 0xFD := by revert b; decide
  have hh (b : Byte) : b &&& hi8 0xFEFF = hi8 0xBEFD ↔ b.toNat = 0xBF ∨ b.toNat = 0xBE := by revert b; decide
  rw [word_eq_iff, lo8_and, hi8_and, hl, hh, toNat_lo8, toNat_hi8]

/-- The CPC's latch command: bits 7 and 6 both set. -/
theorem cpc_latches (v : Byte) : v &&& 0xC0 = 0xC0 ↔ 192 ≤ v.toNat := by revert v; decide

/-- The CPC's write command: bit 7 alone of the two. -/
theorem cpc_writes (v : Byte) : v &&& 0xC0 = 0x80 ↔ 128 ≤ v.toNat ∧ v.toNat < 192 := by revert v; decide

/-! ### The AY's registers (R471, R480 to R487) -/

theorem Ay.envReload_eq (p : AyConsts) (c : Ay) :
    c.envReload p = max (256 * (c.reg 12).toNat + (c.reg 11).toNat) 1 * (2 * p.tick) := by
  rw [Ay.envReload, Nat.mul_assoc, Nat.mul_comm 256]

/-- A register write stores the bits the register has, and register 13 restarts the envelope. -/
theorem Ay.store_eq (p : AyConsts) {r : Nat} (hr : r ≤ 15) (v : Byte) (c : Ay) :
    c.store p r v =
      (let d := { c with regs := c.regs.set r (BitVec.ofNat 8 (v.toNat % 2 ^ ayBits r)) }
       if r = 13 then
         { d with
           envStep := 0
           envHold := false
           envDelay := max (256 * (d.reg 12).toNat + (d.reg 11).toNat) 1 * (2 * p.tick) }
       else d) := by
  simp only [Ay.store, Ay.envReload_eq, kept_eq r hr]

section
variable (t : Int) {r : Nat} (v : Byte) (s : State)

theorem ayWrite_beyond (hr : 15 < r) : ayWrite t r v s = s := if_pos hr

/-- A write not before the chip's time: the chip runs to it, and the register is stored. -/
theorem ayWrite_onTime (hr : r ≤ 15) (h : s.ay.lastTime ≤ t) : ayWrite t r v s = ayStore t r v (ayAdvance t s) := by
  rw [ayWrite, if_neg (Nat.not_lt.mpr hr), if_neg (Int.not_lt.mpr h)]

theorem ayAdvance_now : ayAdvance s.ay.lastTime s = s := by
  rw [ayAdvance, ay_runUntil_now]

/-- A write before the chip's time is, if it is done, the write at that time (U9). -/
theorem ayWrite_late (hr : r ≤ 15) (h : t < s.ay.lastTime) :
    ayWrite t r v s = lateCall (ayWrite s.ay.lastTime r v) s := by
  have hnow : ayWrite s.ay.lastTime r v s = ayStore s.ay.lastTime r v s := by
    rw [ayWrite_onTime _ _ _ hr (Int.le_refl _), ayAdvance_now]
  rw [ayWrite, if_neg (Nat.not_lt.mpr hr), if_pos h, lateCall, lateCall, hnow]

end

/-! ### The Z80's port writes (R490 to R492) -/

/-- A port that the Spectrum half of the decoder answers, in a mode that lets it (R490). -/
def spectrumPort (port : Word) (s : State) : Prop :=
  s.ay.mode ≠ .cpc ∧
    (port.toNat % 256 = 0xFE ∨ (port.toNat % 256 = 0xFD ∧ port.toNat / 256 ∈ [0xFF, 0xFE, 0xBF, 0xBE]))

theorem ayLatch_eq (v : Byte) (s : State) :
    ayLatch v s = { s with ay := { s.ay with addrLatch := BitVec.ofNat 4 v.toNat } } := by
  rw [ayLatch, extract_eq, Nat.pow_zero, Nat.div_one]

section
variable (t : Int) {port : Word} (v : Byte) {s : State}

theorem ayPortWrite_beeper (hm : s.ay.mode ≠ .cpc) (hlo : port.toNat % 256 = 0xFE) :
    ayPortWrite t port v s = ayBeeper t v (aySetMode .spectrum s) :=
  if_pos ⟨hm, (port_isBeeper port).mpr hlo⟩

theorem ayPortWrite_latch (hm : s.ay.mode ≠ .cpc) (hlo : port.toNat % 256 = 0xFD)
    (hhi : port.toNat / 256 = 0xFF ∨ port.toNat / 256 = 0xFE) :
    ayPortWrite t port v s = ayLatch v (aySetMode .spectrum s) := by
  rw [ayPortWrite, if_neg (by rw [port_isBeeper]; omega), if_pos ⟨hm, (port_isLatch port).mpr ⟨hlo, hhi⟩⟩]

theorem ayPortWrite_data (hm : s.ay.mode ≠ .cpc) (hlo : port.toNat % 256 = 0xFD)
    (hhi : port.toNat / 256 = 0xBF ∨ port.toNat / 256 = 0xBE) :
    ayPortWrite t port v s = ayWrite t s.ay.addrLatch.toNat v (aySetMode .spectrum s) := by
  rw [ayPortWrite, if_neg (by rw [port_isBeeper]; omega), if_neg (by rw [port_isLatch]; omega),
    if_pos ⟨hm, (port_isData port).mpr ⟨hlo, hhi⟩⟩]

/-- Any other port is left to the CPC half, if the mode lets it. -/
theorem ayPortWrite_other (h : ¬ spectrumPort port s) :
    ayPortWrite t port v s = if s.ay.mode ≠ .spectrum then ayPortCpc t port v s else s := by
  simp only [spectrumPort, List.mem_cons, List.not_mem_nil, or_false] at h
  rw [ayPortWrite, if_neg (by rw [port_isBeeper]; tauto), if_neg (by rw [port_isLatch]; tauto),
    if_neg (by rw [port_isData]; tauto)]

/-- The CPC's command port: latch, write, or nothing but the mode. -/
theorem ayPortCpc_command (hhi : port.toNat / 256 = 0xF6) :
    ayPortCpc t port v s =
      if 192 ≤ v.toNat then ayLatch s.ay.cpcLatch (aySetMode .cpc s)
      else if 128 ≤ v.toNat ∧ v.toNat < 192 then ayWrite t s.ay.addrLatch.toNat s.ay.cpcLatch (aySetMode .cpc s)
      else aySetMode .cpc s := by
  simp only [ayPortCpc, if_pos ((hi8_eq_iff port 0xF6).mpr hhi), cpc_latches, cpc_writes]
  rfl

/-- The CPC's data port: the bus latch. -/
theorem ayPortCpc_data (hhi : port.toNat / 256 = 0xF4) :
    ayPortCpc t port v s = { s with ay := { s.ay with mode := .cpc, cpcLatch := v } } := by
  have hne : ¬ hi8 port = 0xF6 := by rw [hi8_eq_iff, hhi]; decide
  rw [ayPortCpc, if_neg hne, if_pos ((hi8_eq_iff port 0xF4).mpr hhi)]
  rfl

theorem ayPortCpc_none (h6 : port.toNat / 256 ≠ 0xF6) (h4 : port.toNat / 256 ≠ 0xF4) : ayPortCpc t port v s = s := by
  rw [ayPortCpc, if_neg (by rw [hi8_eq_iff]; exact h6), if_neg (by rw [hi8_eq_iff]; exact h4)]

end

/-- Settles O52: the register writes, then the decoder in the order of its matches. -/
theorem ayRegisterAndPortWrites : Obligations.AyRegisterAndPortWrites := by
  refine ⟨fun s t r v => ⟨ayWrite_beyond t v s, fun hr h => ?onTime,
    fun hr h => ⟨fun hc => ?atChipTime, fun hc => ?ignored⟩⟩, fun s port v hp => ?port, rfl⟩
  case onTime =>
    rw [ayWrite_onTime t v s hr h, ayStore, Ay.store_eq _ hr]
    rfl
  case atChipTime => rw [ayWrite_late t v s hr h, lateCall, hc]; rfl
  case ignored => rw [ayWrite_late t v s hr h, lateCall, hc]; rfl
  case port =>
    intro lo hi set latch
    have hport : portOut port v s = ayPortWrite s.time port v s := by rw [portOut, hp]
    rw [hport]
    refine ⟨fun hm hlo => ?beeper, fun hm hlo hhi => ?latch, fun hm hlo hhi => ?data, fun hn =>
      ⟨fun hm hhi => ⟨fun hv => ?cpcLatch, fun hv hv' => ?cpcWrite, fun hv => ?cpcMode⟩, fun hm hhi => ?cpcData,
        fun h => ?other⟩⟩
    case beeper =>
      rw [ayPortWrite_beeper s.time v hm hlo, ayBeeper, bit_eq]
      rfl
    case latch => rw [ayPortWrite_latch s.time v hm hlo hhi, ayLatch_eq]; rfl
    case data => exact ayPortWrite_data s.time v hm hlo hhi
    all_goals rw [ayPortWrite_other s.time v hn]
    case cpcLatch => rw [if_pos hm, ayPortCpc_command s.time v hhi, if_pos hv, ayLatch_eq]; rfl
    case cpcWrite => rw [if_pos hm, ayPortCpc_command s.time v hhi, if_neg (Nat.not_le.mpr hv'), if_pos ⟨hv, hv'⟩]; rfl
    case cpcMode => rw [if_pos hm, ayPortCpc_command s.time v hhi, if_neg (by omega), if_neg (by omega)]; rfl
    case cpcData => rw [if_pos hm, ayPortCpc_data s.time v hhi]
    case other =>
      rcases h with hm | ⟨h6, h4⟩
      · exact if_neg (fun h => h hm)
      · rw [ayPortCpc_none s.time v h6 h4, ite_self]

/-! ### The POKEY's registers (R502, R505 to R510) -/

section
variable (p : PokeyConsts) (c : Pokey)

theorem Pokey.baseDiv_eq : c.baseDiv p = if bitOf c.audctl 0 = true then p.div15k else p.div64k := by
  rw [Pokey.baseDiv, bit_eq]

theorem Pokey.highPeriod_eq (audf lo : Byte) (join fast : Bool) :
    c.highPeriod p audf lo join fast =
      if join = false then (audf.toNat + 1) * c.baseDiv p
      else if fast = true then 256 * audf.toNat + lo.toNat + 7
      else (256 * audf.toNat + lo.toNat + 1) * c.baseDiv p := by
  simp only [Pokey.highPeriod, Bool.not_eq_true', Nat.mul_comm 256]

/-- What each register write stores, field by field: the table of R505. -/
theorem Pokey.store_eq {r : Nat} (hr : r < 16) (v : Byte) :
    c.store p r v = { c with
      ch1 := { c.ch1 with
        audf := if r = 0 then v else c.ch1.audf
        audc := if r = 1 then v else c.ch1.audc
        delay := if r = 9 then c.period1 p else c.ch1.delay }
      ch2 := { c.ch2 with
        audf := if r = 2 then v else c.ch2.audf
        audc := if r = 3 then v else c.ch2.audc
        delay := if r = 9 then c.period2 p else c.ch2.delay }
      ch3 := { c.ch3 with
        audf := if r = 4 then v else c.ch3.audf
        audc := if r = 5 then v else c.ch3.audc
        delay := if r = 9 then c.period3 p else c.ch3.delay }
      ch4 := { c.ch4 with
        audf := if r = 6 then v else c.ch4.audf
        audc := if r = 7 then v else c.ch4.audc
        delay := if r = 9 then c.period4 p else c.ch4.delay }
      audctl := if r = 8 then v else c.audctl } := by
  interval_cases r <;> rfl

end

section
variable (t : Int) {a : Word} (v : Byte) (s : State)

/-- A write in the chip's range not before the chip's time: the chip runs to it, and the register is stored. -/
theorem pokeyWrite_onTime (hlo : 0xD200 ≤ a.toNat) (hhi : a.toNat ≤ 0xD20F) (h : s.pokey.lastTime ≤ t) :
    pokeyWrite t a v s = pokeyStore t (a.toNat - 0xD200) v (pokeyAdvance t s) := by
  rw [pokeyWrite, if_neg (by omega), if_neg (Int.not_lt.mpr h)]

theorem pokeyAdvance_now : pokeyAdvance s.pokey.lastTime s = s := by
  rw [pokeyAdvance, pokey_runUntil_now]

/-- A write before the chip's time is, if it is done, the write at that time (U9). -/
theorem pokeyWrite_late (hlo : 0xD200 ≤ a.toNat) (hhi : a.toNat ≤ 0xD20F) (h : t < s.pokey.lastTime) :
    pokeyWrite t a v s = lateCall (pokeyWrite s.pokey.lastTime a v) s := by
  have hnow : pokeyWrite s.pokey.lastTime a v s = pokeyStore s.pokey.lastTime (a.toNat - 0xD200) v s := by
    rw [pokeyWrite_onTime _ _ _ hlo hhi (Int.le_refl _), pokeyAdvance_now]
  rw [pokeyWrite, if_neg (by omega), if_pos h, lateCall, lateCall, hnow]

end

/-- Settles O53: the register writes, then the data writes of a machine with the chip's range. -/
theorem pokeyRegisterWrites : Obligations.PokeyRegisterWrites := by
  refine ⟨fun s t a v => ⟨fun h => if_pos h, fun hlo hhi h => ⟨fun hc => ?atChipTime, fun hc => ?ignored⟩,
    fun hlo hhi h => ?onTime⟩, fun s a v hr => ?memory, rfl⟩
  case atChipTime => rw [pokeyWrite_late t v s hlo hhi h, lateCall, hc]; rfl
  case ignored => rw [pokeyWrite_late t v s hlo hhi h, lateCall, hc]; rfl
  case onTime =>
    rw [pokeyWrite_onTime t v s hlo hhi h, pokeyStore, Pokey.store_eq _ _ (by omega)]
    simp only [Pokey.period1, Pokey.period2, Pokey.period3, Pokey.period4, Pokey.highPeriod_eq, Pokey.lowPeriod,
      Pokey.baseDiv_eq, bit_eq]
    rfl
  case memory =>
    have hw := writeHandler_of_range hr a
    by_cases h : 0xD200 ≤ a.toNat ∧ a.toNat ≤ 0xD20F
    · rw [if_pos h, memWrite, hw, if_pos h]
    · rw [if_neg h, memWrite_plain a v s (hw.trans (if_neg h))]

end Sys2Proof.Machine
end

section
/-! PROOFS. Guest routines: `jsr_then_stop` (O55), the pass of a frame (O56), and the end of a slice of a frame
(O57). -/

namespace Sys2Proof.Machine

/-! ### `jsr_then_stop` (R533) -/

theorem byte_sub_two (v : Byte) : BitVec.ofNat 8 (v.toNat + 254) = v - 1 - 1 := by
  rw [byte_pred, byte_pred]
  apply BitVec.eq_of_toNat_eq
  simp only [BitVec.toNat_ofNat]
  omega

theorem word_sub_two (w : Word) : BitVec.ofNat 16 (w.toNat + 65534) = w - 1 - 1 := by
  rw [word_pred, word_pred]
  apply BitVec.eq_of_toNat_eq
  simp only [BitVec.toNat_ofNat]
  omega

theorem hi8_pred (w : Word) : hi8 (w - 1) = BitVec.ofNat 8 ((w.toNat + 65535) / 256) := by
  rw [hi8_eq, word_pred]
  apply BitVec.eq_of_toNat_eq
  simp only [BitVec.toNat_ofNat]
  omega

theorem lo8_pred (w : Word) : lo8 (w - 1) = BitVec.ofNat 8 (w.toNat + 65535) := by
  rw [lo8_eq, word_pred]
  apply BitVec.eq_of_toNat_eq
  simp only [BitVec.toNat_ofNat]
  omega

section
variable (addr : Word) (s : State)

/-- The pushes of `jsr_then_stop` in exact arithmetic (R30, R34, R533). -/
theorem jsrThenStop_eq_jsrPushed : jsrThenStop addr s = jsrPushed addr s := by
  unfold jsrThenStop jsrPushed
  cases s.cfg.family with
  | m6502 => simp only [push, memWrite_m, stackAddr_eq, hi8_pred, lo8_pred, ← byte_pred, byte_sub_two]
  | z80 => simp only [push16, memWrite_z, hi8_eq, lo8_eq, ← word_pred, word_sub_two]

/-- What `jsr_then_stop` leaves alone: what no instruction changes (R533). -/
theorem jsrThenStop_frame : InstrFrame s (jsrThenStop addr s) := by
  unfold jsrThenStop
  split
  · exact CpuActs.frame (((CpuActs.push (.refl (a := s)) _).push _).mRegs rfl)
  · exact CpuActs.frame ((CpuActs.push16 (.refl (a := s)) _).zRegs rfl)

theorem jsrThenStop_pc : (jsrThenStop addr s).pc = addr := by
  unfold jsrThenStop
  split <;> rfl

theorem jsrThenStop_time : (jsrThenStop addr s).time = s.time := by
  unfold jsrThenStop
  split
  · exact (push_time _ _).trans (push_time _ _)
  · exact push16_time _ _

theorem jsrThenStop_m : (jsrThenStop addr s).m =
    if s.cfg.family = .m6502 then { s.m with sp := BitVec.ofNat 8 (s.m.sp.toNat + 254) } else s.m := by
  unfold jsrThenStop
  cases s.cfg.family with
  | m6502 => simp only [push_m, byte_sub_two, if_true]
  | z80 => simp only [push16_m, reduceCtorEq, if_false]

theorem jsrThenStop_z : (jsrThenStop addr s).z =
    if s.cfg.family = .z80 then { s.z with sp := BitVec.ofNat 16 (s.z.sp.toNat + 65534) } else s.z := by
  unfold jsrThenStop
  cases s.cfg.family with
  | m6502 => simp only [push_z, reduceCtorEq, if_false]
  | z80 => simp only [push16_z, word_sub_two, BitVec.sub_sub, if_true]; rfl

theorem jsrThenStop_nextPlayTime : (jsrThenStop addr s).nextPlayTime = s.nextPlayTime := by
  rw [jsrThenStop_frame addr s]

end

/-- Settles O55: the pushes in exact arithmetic, and what they leave. -/
theorem jsrThenStopPushesTheIdleAddress : Obligations.JsrThenStopPushesTheIdleAddress := by
  refine ⟨fun s addr => jsrThenStop_eq_jsrPushed addr s, fun s addr => ⟨jsrThenStop_pc addr s,
    jsrThenStop_time addr s, ?phase, fun hf => ?m6502, fun hf => ?z80⟩, fun s cs addr hc hcalls => ?host⟩
  case phase => rw [jsrThenStop_frame addr s]
  case m6502 => rw [jsrThenStop_m, jsrThenStop_z, hf]; exact ⟨rfl, rfl⟩
  case z80 => rw [jsrThenStop_m, jsrThenStop_z, hf]; exact ⟨rfl, rfl⟩
  case host =>
    have hcontrol : (jsrThenStop addr { s with calls := cs }).control = .host := by
      rw [jsrThenStop_frame addr { s with calls := cs }]
      exact hc
    rw [step_host hc hcalls, ← jsrThenStop_eq_jsrPushed]
    exact congrArg _ (finish_host hcontrol .done)

/-! ### The pass of a frame (R540, R544, R584) -/

theorem step_frame {s : State} {target : Int} {errors : Nat} (hc : s.control = .frame target errors) :
    step s = .next (framePass target errors s) := by
  rw [step, hc]

/-- The play routine entered by `jsr_then_stop`, and counted (R540). -/
def enterPlay (s : State) : State :=
  let t := jsrThenStop s.playAddr (setEntryRegs s.cfg.entryPlay s.track s)
  { t with playCalls := t.playCalls + 1 }

theorem enterPlay_nextPlayTime (s : State) : (enterPlay s).nextPlayTime = s.nextPlayTime := by
  rw [enterPlay]
  dsimp only
  rw [jsrThenStop_nextPlayTime, setEntryRegs_frame]

section
variable {s : State}

/-- A play call that is due while the CPU is idle is made. -/
theorem playDue_idle (hpc : s.pc = s.cfg.idleAddr) :
    playDue s = enterPlay { s with nextPlayTime := s.nextPlayTime + s.playPeriod } := by
  unfold playDue
  dsimp only
  rw [if_neg (fun h => h.1 hpc), if_neg (fun h => h hpc)]
  rfl

/-- A play call that is due while a routine runs is made on top of it (R584). -/
theorem playDue_running (hpc : s.pc ≠ s.cfg.idleAddr) (hs : s.suspended = none) :
    playDue s = enterPlay { s with
      nextPlayTime := s.nextPlayTime + s.playPeriod
      suspended := some (snapshot s)
      warning := some "play called during init" } := by
  unfold playDue
  dsimp only
  rw [if_neg (fun h => by simp [hs] at h), if_pos hpc]
  rfl

/-- A play call that is due while a routine runs on top of another is skipped. -/
theorem playDue_held (hpc : s.pc ≠ s.cfg.idleAddr) (hs : s.suspended ≠ none) :
    playDue s = { s with
      nextPlayTime := s.nextPlayTime + s.playPeriod
      warning := some "play call skipped: previous play still running" } :=
  if_pos ⟨hpc, Option.isSome_iff_ne_none.mpr hs⟩

variable {target : Int} {errors : Nat}

/-- With no play call due, the pass begins a slice to the earlier of the target and the next play call. -/
theorem framePass_notDue (ht : s.time < target) (hp : s.time < s.nextPlayTime) :
    framePass target errors s =
      beginSlice (.frame target errors (min target s.nextPlayTime)) (min target s.nextPlayTime) s := by
  rw [framePass, if_pos ht]
  dsimp only
  rw [if_neg (Int.not_le.mpr hp)]

/-- With a play call due, the pass deals with it first. -/
theorem framePass_due (ht : s.time < target) (hp : s.nextPlayTime ≤ s.time) :
    framePass target errors s =
      beginSlice (.frame target errors (min target (playDue s).nextPlayTime)) (min target (playDue s).nextPlayTime)
        (playDue s) := by
  rw [framePass, if_pos ht]
  dsimp only
  rw [if_pos hp]

/-- The pass that makes a play call, its play routine entered by exact pushes. -/
theorem framePass_entered {u : State} (ht : s.time < target) (hp : s.nextPlayTime ≤ s.time)
    (hu : playDue s = enterPlay u) :
    framePass target errors s =
      beginSlice (.frame target errors (min target u.nextPlayTime)) (min target u.nextPlayTime)
        (let v := jsrPushed u.playAddr (setEntryRegs u.cfg.entryPlay u.track u)
         { v with playCalls := v.playCalls + 1 }) := by
  rw [framePass_due ht hp, hu, enterPlay_nextPlayTime, enterPlay, jsrThenStop_eq_jsrPushed]

end

/-- Settles O56: no play call due, or one made, made on top of a suspended routine, or skipped. -/
theorem playCallEntersTheGuest : Obligations.PlayCallEntersTheGuest := by
  intro s target errors hc ht npt slice enter
  rw [step_frame hc]
  refine ⟨fun hp => ?notDue, fun hp => ⟨fun hpc => ?idle, fun hpc hs => ?running, fun hpc hs => ?held⟩⟩
  case notDue => rw [framePass_notDue ht hp]; rfl
  case idle => rw [framePass_entered ht hp (playDue_idle hpc)]; rfl
  case running => rw [framePass_entered ht hp (playDue_running hpc hs)]; rfl
  case held => rw [framePass_due ht hp, playDue_held hpc hs]; rfl

/-! ### The end of a slice of a frame (R541 to R543) -/

/-- Settles O57: by why the slice ended. -/
theorem routineEndsAndTheSuspendedOneGoesOn : Obligations.RoutineEndsAndTheSuspendedOneGoesOn := by
  intro s target bound errors hc
  rw [step_slice hc]
  refine ⟨fun p hp hs => ?restored, fun hp hs => ?idle, fun hp => ?halted, fun hp ht => ?timeUp⟩
  case restored =>
    rw [sliceStep_haltedAtIdle hp, sliceEnd, if_pos rfl, hs]
    rfl
  case idle =>
    rw [sliceStep_haltedAtIdle hp, sliceEnd, if_pos rfl, hs]
  case halted =>
    rw [sliceStep_haltedElsewhere hp]
    rfl
  case timeUp =>
    have hi : s.phase ≠ .haltedAtIdle := by rcases hp with h | h <;> simp [h]
    have he : s.phase ≠ .haltedElsewhere := by rcases hp with h | h <;> simp [h]
    rw [sliceStep_timeUp hi he ht]
    rfl

end Sys2Proof.Machine
end

section
/-! PROOFS. The end of a frame (O58): the sink's history only grows (R96), what each chip's `end_frame` does, and what
rebasing does to the times. -/

namespace Sys2Proof.Machine

/-! ### The sink's history only grows (R96) -/

theorem emit_suffix (t a : Int) (v : VoiceOut) (k : List SinkCall) : k <:+ (VoiceOut.emit t a v k).2 := by
  unfold VoiceOut.emit
  split
  · exact List.suffix_refl _
  · split
    · exact List.suffix_refl _
    · exact List.suffix_cons _ _

/-- What no tick takes back, a timer does not take back. -/
theorem runTimer_suffix {α : Type} {tick : Int → α × List SinkCall → α × List SinkCall}
    (period : α × List SinkCall → Nat) (h : ∀ t x, x.2 <:+ (tick t x).2) (stop : Int) (fuel : Nat) (due : Int)
    (x : α × List SinkCall) : x.2 <:+ (runTimer tick period stop fuel due x).2.2 := by
  induction fuel generalizing due x with
  | zero => exact List.suffix_refl _
  | succ n ih =>
    unfold runTimer
    split
    · exact (h due x).trans (ih _ _)
    · exact List.suffix_refl _

theorem VoiceTimer.advance_suffix {α : Type} (v : VoiceTimer α) (h : ∀ t x, x.2 <:+ (v.tick t x).2) (fr stop : Int)
    (x : α × List SinkCall) : x.2 <:+ (v.advance fr stop x).2 :=
  runTimer_suffix (fun y => v.period y.1) h stop _ _ x

/-! ### The NESAPU -/

theorem Nes.advance_suffix (rd : Word → Byte) (fr stop : Int) (x : Nes × List SinkCall) :
    x.2 <:+ (Nes.advance rd fr stop x).2 := by
  unfold Nes.advance
  extract_lets p1 p2 tr no dm
  have h1 : x.2 <:+ p1.2 := (Pulse.timer true).advance_suffix (fun _ _ => emit_suffix ..) fr stop (x.1.pulse1, x.2)
  have h2 : p1.2 <:+ p2.2 := (Pulse.timer false).advance_suffix (fun _ _ => emit_suffix ..) fr stop (x.1.pulse2, p1.2)
  have h3 : p2.2 <:+ tr.2 := Triangle.timer.advance_suffix (fun _ _ => emit_suffix ..) fr stop (x.1.triangle, p2.2)
  have h4 : tr.2 <:+ no.2 := Noise.timer.advance_suffix (fun _ _ => emit_suffix ..) fr stop (x.1.noise, tr.2)
  have h5 : no.2 <:+ dm.2 := (Dmc.timer rd).advance_suffix (fun _ _ => emit_suffix ..) fr stop (x.1.dmc, no.2)
  exact (((h1.trans h2).trans h3).trans h4).trans h5

theorem Nes.emitAll_suffix (t : Int) (n : Nes) (k : List SinkCall) : k <:+ (Nes.emitAll t (n, k)).2 := by
  have h1 (y : Nes × List SinkCall) : y.2 <:+ (Nes.emitPulse1 t y).2 := emit_suffix ..
  have h2 (y : Nes × List SinkCall) : y.2 <:+ (Nes.emitPulse2 t y).2 := emit_suffix ..
  have h3 (y : Nes × List SinkCall) : y.2 <:+ (Nes.emitTriangle t y).2 := emit_suffix ..
  have h4 (y : Nes × List SinkCall) : y.2 <:+ (Nes.emitNoise t y).2 := emit_suffix ..
  have h5 (y : Nes × List SinkCall) : y.2 <:+ (Nes.emitDmc t y).2 := emit_suffix ..
  exact ((((h1 (n, k)).trans (h2 _)).trans (h3 _)).trans (h4 _)).trans (h5 _)

theorem Nes.frameTick_suffix (p : NesConsts) (tf : Int) (x : Nes × List SinkCall) :
    x.2 <:+ (Nes.frameTick p tf x).2 := by
  unfold Nes.frameTick
  exact Nes.emitAll_suffix tf _ x.2

theorem Nes.runLoop_suffix (p : NesConsts) (rd : Word → Byte) (t : Int) (fuel : Nat) (x : Nes × List SinkCall) :
    x.2 <:+ (Nes.runLoop p rd t fuel x).2 := by
  induction fuel generalizing x with
  | zero => exact List.suffix_refl _
  | succ fuel ih =>
    unfold Nes.runLoop
    extract_lets tf stop y n z
    have hz : x.2 <:+ z.2 := Nes.advance_suffix rd x.1.lastTime stop x
    split
    · exact hz
    · exact (hz.trans (Nes.frameTick_suffix p stop z)).trans (ih _)

/-! ### The AY and the POKEY -/

theorem Ay.emitAll_suffix (p : AyConsts) (t : Int) (x : Ay × List SinkCall) : x.2 <:+ (Ay.emitAll p t x).2 := by
  unfold Ay.emitAll
  extract_lets c a b d
  have ha : x.2 <:+ a.2 := emit_suffix ..
  have hb : a.2 <:+ b.2 := emit_suffix ..
  have hd : b.2 <:+ d.2 := emit_suffix ..
  exact (ha.trans hb).trans hd

theorem Ay.runLoop_suffix (p : AyConsts) (t : Int) (fuel : Nat) (x : Ay × List SinkCall) :
    x.2 <:+ (Ay.runLoop p t fuel x).2 := by
  induction fuel generalizing x with
  | zero => exact List.suffix_refl _
  | succ fuel ih =>
    unfold Ay.runLoop
    extract_lets d c
    split
    · exact List.suffix_refl _
    · exact List.IsSuffix.trans (Ay.emitAll_suffix p c.lastTime (c, x.2)) (ih _)

theorem Pokey.emitAll_suffix (t : Int) (x : Pokey × List SinkCall) : x.2 <:+ (Pokey.emitAll t x).2 := by
  unfold Pokey.emitAll
  extract_lets c o1 o2 o3 o4
  have h1 : x.2 <:+ o1.2 := emit_suffix ..
  have h2 : o1.2 <:+ o2.2 := emit_suffix ..
  have h3 : o2.2 <:+ o3.2 := emit_suffix ..
  have h4 : o3.2 <:+ o4.2 := emit_suffix ..
  exact ((h1.trans h2).trans h3).trans h4

theorem Pokey.runLoop_suffix (p : PokeyConsts) (t : Int) (fuel : Nat) (x : Pokey × List SinkCall) :
    x.2 <:+ (Pokey.runLoop p t fuel x).2 := by
  induction fuel generalizing x with
  | zero => exact List.suffix_refl _
  | succ fuel ih =>
    unfold Pokey.runLoop
    extract_lets d c
    split
    · exact List.suffix_refl _
    · exact List.IsSuffix.trans (Pokey.emitAll_suffix c.lastTime (c, x.2)) (ih _)

/-! ### The time a chip has run to -/

/-- The AY never runs beyond the time it is asked for, whatever its constants (R474). -/
theorem Ay.runLoop_lastTime_le (p : AyConsts) {t : Int} (fuel : Nat) {x : Ay × List SinkCall} (h : x.1.lastTime ≤ t) :
    (Ay.runLoop p t fuel x).1.lastTime ≤ t := by
  induction fuel generalizing x with
  | zero => exact h
  | succ fuel ih =>
    by_cases hlt : x.1.lastTime + x.1.nextDelay < t
    · rw [Ay.runLoop_succ_of_lt p fuel hlt]
      refine ih ?_
      rw [Ay.emitAll_lastTime, Ay.due_lastTime]
      exact hlt.le
    · have hstop : Ay.runLoop p t (fuel + 1) x = x := if_pos (Int.not_lt.mp hlt)
      rw [hstop]
      exact h

theorem Ay.runUntil_lastTime (p : AyConsts) {t : Int} {x : Ay × List SinkCall} (h : x.1.lastTime ≤ t) :
    (Ay.runUntil p t x).1.lastTime = t := by
  have hle := Ay.runLoop_lastTime_le p ((t - x.1.lastTime).toNat + 2) h
  simp only [Ay.runUntil, Ay.elapse]
  omega

/-- The POKEY never runs beyond the time it is asked for, whatever its constants (R503). -/
theorem Pokey.runLoop_lastTime_le (p : PokeyConsts) {t : Int} (fuel : Nat) {x : Pokey × List SinkCall}
    (h : x.1.lastTime ≤ t) : (Pokey.runLoop p t fuel x).1.lastTime ≤ t := by
  induction fuel generalizing x with
  | zero => exact h
  | succ fuel ih =>
    by_cases hlt : x.1.lastTime + x.1.nextDelay < t
    · rw [Pokey.runLoop_succ_of_lt p fuel hlt]
      refine ih ?_
      rw [Pokey.emitAll_lastTime, Pokey.due_lastTime]
      exact hlt.le
    · have hstop : Pokey.runLoop p t (fuel + 1) x = x := if_pos (Int.not_lt.mp hlt)
      rw [hstop]
      exact h

theorem Pokey.runUntil_lastTime (p : PokeyConsts) {t : Int} {x : Pokey × List SinkCall} (h : x.1.lastTime ≤ t) :
    (Pokey.runUntil p t x).1.lastTime = t := by
  have hle := Pokey.runLoop_lastTime_le p ((t - x.1.lastTime).toNat + 2) h
  simp only [Pokey.runUntil, Pokey.elapse]
  omega

theorem Nes.runUntil_lastTime {p : NesConsts} (rd : Word → Byte) (hp : 0 < p.frameStepPeriod) {t : Int}
    {x : Nes × List SinkCall} (h : x.1.lastTime ≤ t) : (Nes.runUntil p rd t x).1.lastTime = t := by
  rw [Nes.runUntil_state p rd hp x h]
  exact (Nes.clock p rd hp).time_runUntil h

/-! ### `end_frame` of each chip (R454, R488, R512) -/

/-- The NESAPU and the sink, run to a time if the chip has not reached it. -/
def nesRunTo (t : Int) (s : State) : Nes × List SinkCall :=
  if s.nes.lastTime < t then Nes.runUntil s.cfg.nesConsts (ptRead s) t (s.nes, s.sink) else (s.nes, s.sink)

/-- The AY and the sink, run to a time if the chip has not reached it. -/
def ayRunTo (t : Int) (s : State) : Ay × List SinkCall :=
  if s.ay.lastTime < t then Ay.runUntil s.cfg.ayConsts t (s.ay, s.sink) else (s.ay, s.sink)

/-- The POKEY and the sink, run to a time if the chip has not reached it. -/
def pokeyRunTo (t : Int) (s : State) : Pokey × List SinkCall :=
  if s.pokey.lastTime < t then Pokey.runUntil s.cfg.pokeyConsts t (s.pokey, s.sink) else (s.pokey, s.sink)

section
variable (t : Int) (s : State)

theorem nesEndFrame_eq :
    nesEndFrame t s = { s with
      nes := { (nesRunTo t s).1 with lastTime := (nesRunTo t s).1.lastTime - t }
      sink := (nesRunTo t s).2 } := by
  unfold nesEndFrame nesRunTo
  split <;> rfl

theorem ayEndFrame_eq :
    ayEndFrame t s = { s with
      ay := { (ayRunTo t s).1 with lastTime := (ayRunTo t s).1.lastTime - t }
      sink := (ayRunTo t s).2 } := by
  unfold ayEndFrame ayRunTo
  split <;> rfl

theorem pokeyEndFrame_eq :
    pokeyEndFrame t s = { s with
      pokey := { (pokeyRunTo t s).1 with lastTime := (pokeyRunTo t s).1.lastTime - t }
      sink := (pokeyRunTo t s).2 } := by
  unfold pokeyEndFrame pokeyRunTo
  split <;> rfl

theorem nesRunTo_lastTime (hp : 0 < s.cfg.nesConsts.frameStepPeriod) :
    (nesRunTo t s).1.lastTime = max s.nes.lastTime t := by
  unfold nesRunTo
  split
  · rename_i h; rw [Nes.runUntil_lastTime _ hp h.le, max_eq_right h.le]
  · rename_i h; exact (max_eq_left (Int.not_lt.mp h)).symm

theorem ayRunTo_lastTime : (ayRunTo t s).1.lastTime = max s.ay.lastTime t := by
  unfold ayRunTo
  split
  · rename_i h; rw [Ay.runUntil_lastTime _ h.le, max_eq_right h.le]
  · rename_i h; exact (max_eq_left (Int.not_lt.mp h)).symm

theorem pokeyRunTo_lastTime : (pokeyRunTo t s).1.lastTime = max s.pokey.lastTime t := by
  unfold pokeyRunTo
  split
  · rename_i h; rw [Pokey.runUntil_lastTime _ h.le, max_eq_right h.le]
  · rename_i h; exact (max_eq_left (Int.not_lt.mp h)).symm

/-- The end of a frame takes nothing back from the sink. -/
theorem chipEndFrame_suffix (c : Chip) : s.sink <:+ (chipEndFrame t c s).sink := by
  cases c with
  | nesApu =>
    rw [chipEndFrame, nesEndFrame_eq]
    unfold nesRunTo
    split
    · exact Nes.runLoop_suffix _ _ t _ (s.nes, s.sink)
    · exact List.suffix_refl _
  | ay =>
    rw [chipEndFrame, ayEndFrame_eq]
    unfold ayRunTo
    split
    · exact Ay.runLoop_suffix _ t _ (s.ay, s.sink)
    · exact List.suffix_refl _
  | pokey =>
    rw [chipEndFrame, pokeyEndFrame_eq]
    unfold pokeyRunTo
    split
    · exact Pokey.runLoop_suffix _ t _ (s.pokey, s.sink)
    · exact List.suffix_refl _

/-- The end of a frame of a chip does not look at the machine's own times. -/
theorem chipEndFrame_times (c : Chip) (n e p : Int) :
    chipEndFrame t c { s with time := n, endTime := e, nextPlayTime := p } =
      { chipEndFrame t c s with time := n, endTime := e, nextPlayTime := p } := by
  cases c with
  | nesApu => rw [chipEndFrame, chipEndFrame, nesEndFrame_eq, nesEndFrame_eq]; rfl
  | ay => rw [chipEndFrame, chipEndFrame, ayEndFrame_eq, ayEndFrame_eq]; rfl
  | pokey => rw [chipEndFrame, chipEndFrame, pokeyEndFrame_eq, pokeyEndFrame_eq]; rfl

/-! ### All chips and the sink (R546) -/

/-- The end of a frame changes the chips and the sink (R546). -/
theorem closeFrame_frame :
    closeFrame t s = { s with
      nes := (closeFrame t s).nes
      ay := (closeFrame t s).ay
      pokey := (closeFrame t s).pokey
      sink := (closeFrame t s).sink } := by
  have fold (l : List Chip) (u : State) : l.foldl (fun s c => chipEndFrame t c s) u = { u with
      nes := (l.foldl (fun s c => chipEndFrame t c s) u).nes
      ay := (l.foldl (fun s c => chipEndFrame t c s) u).ay
      pokey := (l.foldl (fun s c => chipEndFrame t c s) u).pokey
      sink := (l.foldl (fun s c => chipEndFrame t c s) u).sink } := by
    induction l generalizing u with
    | nil => rfl
    | cons c l ih => rw [List.foldl_cons, ih, chipEndFrame_frame]
  rw [closeFrame, fold]

/-- The end of a frame adds to the sink's history, and the frame end last. -/
theorem closeFrame_sink : ∃ k, s.sink <:+ k ∧ (closeFrame t s).sink = .endFrame t :: k :=
  ⟨_, List.foldlRecOn s.cfg.chips (fun s c => chipEndFrame t c s) (motive := fun u : State => s.sink <:+ u.sink)
    (List.suffix_refl _) fun u hu c _ => hu.trans (chipEndFrame_suffix t u c), rfl⟩

/-- With one chip, its end of frame and then the sink's. -/
theorem closeFrame_single {c : Chip} (h : s.cfg.chips = [c]) :
    closeFrame t s = { chipEndFrame t c s with sink := .endFrame t :: (chipEndFrame t c s).sink } := by
  rw [closeFrame, h]
  rfl

theorem closeFrame_times (n e p : Int) :
    closeFrame t { s with time := n, endTime := e, nextPlayTime := p } =
      { closeFrame t s with time := n, endTime := e, nextPlayTime := p } := by
  have h := List.foldl_hom (fun u : State => { u with time := n, endTime := e, nextPlayTime := p })
    (g₁ := fun s c => chipEndFrame t c s) (g₂ := fun s c => chipEndFrame t c s) (l := s.cfg.chips) (init := s)
    fun u c => chipEndFrame_times t u c n e p
  rw [closeFrame, h]
  rfl

end

/-! ### The end of the frame (R545 to R547) -/

/-- All that the end of a frame does, in a state whose time has reached the target. -/
theorem finishFrame_eq {target : Int} (errors : Nat) {s : State} (h : target ≤ s.time) :
    finishFrame target errors s = { closeFrame target s with
      time := s.time - target
      endTime := s.cfg.endTimeRebase.apply target s.endTime
      nextPlayTime := s.nextPlayTime - target
      control := .host
      results := .duration target :: s.results
      warning := if errors < s.errorCount then some "unsupported CPU instruction" else s.warning } := by
  unfold finishFrame
  rw [rebaseTime_eq target s h]
  dsimp only
  rw [closeFrame_times, closeFrame_frame target s]
  dsimp only
  split <;> rfl

/-- Settles O58. -/
theorem frameEndRebasesTime : Obligations.FrameEndRebasesTime := by
  intro s target errors hc ht
  have hstep : step s = .next (finishFrame target errors s) := by
    rw [step, hc]
    exact congrArg _ (if_neg (Int.not_lt.mpr ht))
  obtain ⟨k, hk, hsink⟩ := closeFrame_sink target s
  rw [hstep, finishFrame_eq errors ht]
  refine ⟨_, rfl, rfl, Int.sub_nonneg_of_le ht, rfl, fun hr => ?rebased, fun hr => ?kept, rfl, rfl, ?head, ?suffix, rfl,
    fun hchips => ?nes, fun hchips => ?ay, fun hchips => ?pokey, ?frame⟩
  case rebased => dsimp only; rw [hr]; rfl
  case kept => dsimp only; rw [hr]; rfl
  case head => dsimp only; rw [hsink]; rfl
  case suffix => dsimp only; rw [hsink]; exact hk.trans (List.suffix_cons _ _)
  case nes =>
    rw [closeFrame_single target s hchips, chipEndFrame, nesEndFrame_eq]
    exact ⟨rfl, rfl, rfl, rfl, fun hp => congrArg (· - target) (nesRunTo_lastTime target s hp)⟩
  case ay =>
    rw [closeFrame_single target s hchips, chipEndFrame, ayEndFrame_eq]
    exact ⟨rfl, rfl, rfl, rfl, congrArg (· - target) (ayRunTo_lastTime target s)⟩
  case pokey =>
    rw [closeFrame_single target s hchips, chipEndFrame, pokeyEndFrame_eq]
    exact ⟨rfl, rfl, rfl, rfl, congrArg (· - target) (pokeyRunTo_lastTime target s)⟩
  case frame => rw [closeFrame_frame]

end Sys2Proof.Machine
end

section
/-! PROOFS. The memory of a new track (O59): the regions of the image, the page tables under the mapping plan, and the
halt opcode at the idle address (R530, R531, R68). -/

namespace Sys2Proof.Machine

/-! ### The sizes of the regions (R531) -/

theorem copyBlock_size (bs : List Byte) (o : Nat) (r : Region) : (copyBlock o bs r).size = r.size := by
  induction bs generalizing o r with
  | nil => rfl
  | cons b bs ih => rw [copyBlock, ih, regionWrite_size]

theorem buildRegion_size (r : RegionImage) : (buildRegion r).size = r.size := by
  refine List.foldlRecOn r.blocks _ (motive := fun g : Region => g.size = r.size) rfl fun g hg b _ => ?_
  rw [copyBlock_size, hg]

/-! ### Reads inside their regions (R42) -/

/-- The read half of the memory invariant, which a fresh page table meets whatever the bytes of memory. -/
structure ReadInside (s : State) : Prop where
  length : s.readPage.length = s.cfg.pageCount
  inside : ∀ e ∈ s.readPage, pageInside s e

/-- The read location of an address is a byte of its region. -/
theorem ReadInside.resolveRead_inside {s : State} (h : ReadInside s) (a : Word) :
    (resolveRead s a).offset < regionSize s (resolveRead s a).region := by
  have hi : pageIndex s a < s.readPage.length := h.length ▸ pageIndex_lt s a
  have he := h.inside _ (List.getElem_mem hi)
  have hoff : pageOffset s a < s.cfg.pageSize := Nat.mod_lt _ (pageSize_pos s.cfg)
  rw [pageInside] at he
  rw [resolveRead, List.getD_eq_getElem _ _ hi]
  exact Nat.lt_of_lt_of_le (Nat.add_lt_add_left hoff _) he

theorem ReadInside.applyMap {s : State} (h : ReadInside s) (c : MapCall) : ReadInside (applyMap c s) := by
  rcases applyMap_cases c s with ⟨hok, e⟩ | ⟨-, e⟩
  · have hc : (mapInstall s c).cfg = s.cfg := by rw [mapInstall_frame]
    have hg : (mapInstall s c).regions = s.regions := by rw [mapInstall_frame]
    rw [e]
    refine ⟨by rw [(mapInstall_lengths s c).1, hc]; exact h.length, fun e he => ?_⟩
    rw [pageInside, regionSize_congr hc hg, hc]
    exact ((mapInstall_inside hok e).1 he).elim (h.inside e) id
  · rw [e]; exact ⟨h.length, h.inside⟩

/-! ### A page of its own for the idle address (log entry 11) -/

theorem ensureBacked_of_backed {a : Word} {s : State}
    (h : ¬ ((resolveRead s a).region = .unmappedRead ∨ (resolveRead s a).region = .zeroFill)) : ensureBacked a s = s :=
  if_neg h

theorem ensureBacked_of_unbacked {a : Word} {s : State}
    (h : (resolveRead s a).region = .unmappedRead ∨ (resolveRead s a).region = .zeroFill) :
    ensureBacked a s = { s with
      regions := s.regions ++ [⟨s.cfg.pageSize, []⟩]
      readPage := setPages (pageIndex s a) 1 (fun _ => ⟨.region s.regions.length, 0⟩) 0 s.readPage } :=
  if_pos h

/-- A region added at the end holds zeros, as a region that does not exist reads: no location reads otherwise. -/
theorem locRead_ensureBacked (a : Word) (s : State) (l : PageEntry) : locRead (ensureBacked a s) l = locRead s l := by
  by_cases h : (resolveRead s a).region = .unmappedRead ∨ (resolveRead s a).region = .zeroFill
  · rw [ensureBacked_of_unbacked h]
    obtain ⟨r, o⟩ := l
    cases r with
    | region i =>
      simp only [locRead]
      rcases Nat.lt_trichotomy i s.regions.length with hi | rfl | hi
      · rw [List.getElem?_append_left hi]
      · simp [cellsRead]
      · rw [List.getElem?_eq_none (by simp; omega), List.getElem?_eq_none (by omega)]
    | _ => rfl
  · rw [ensureBacked_of_backed h]

theorem regionSize_ensureBacked {a : Word} {s : State} {i : Nat} (hi : i < s.regions.length) :
    regionSize (ensureBacked a s) (.region i) = regionSize s (.region i) := by
  by_cases h : (resolveRead s a).region = .unmappedRead ∨ (resolveRead s a).region = .zeroFill
  · rw [ensureBacked_of_unbacked h]
    simp only [regionSize]
    rw [List.getElem?_append_left hi]
  · rw [ensureBacked_of_backed h]

section
variable {s : State} (h : ReadInside s) (a : Word)

/-- An address of another page is not touched. -/
theorem resolveRead_ensureBacked_of_ne {b : Word} (hb : pageIndex s b ≠ pageIndex s a) :
    resolveRead (ensureBacked a s) b = resolveRead s b := by
  by_cases hu : (resolveRead s a).region = .unmappedRead ∨ (resolveRead s a).region = .zeroFill
  · rw [ensureBacked_of_unbacked hu]
    refine resolveRead_of_getD (s := s) rfl ?_
    rw [List.getD_eq_getElem?_getD, setPages_getElem?, List.getD_eq_getElem?_getD]
    cases s.readPage[pageIndex s b]? with
    | none => rfl
    | some e =>
      rw [Option.map_some, if_neg (by omega)]
  · rw [ensureBacked_of_backed hu]

include h

/-- The page of the address shows a new region if it was backed by none. -/
theorem resolveRead_ensureBacked_of_unbacked
    (hu : (resolveRead s a).region = .unmappedRead ∨ (resolveRead s a).region = .zeroFill) :
    resolveRead (ensureBacked a s) a = ⟨.region s.regions.length, pageOffset s a⟩ := by
  have hi : pageIndex s a < s.readPage.length := h.length ▸ pageIndex_lt s a
  have hentry : (setPages (pageIndex s a) 1 (fun _ => ⟨.region s.regions.length, 0⟩) 0 s.readPage).getD (pageIndex s a)
      ⟨.unmappedRead, 0⟩ = ⟨.region s.regions.length, 0⟩ := by
    rw [List.getD_eq_getElem?_getD, setPages_getElem?, List.getElem?_eq_getElem hi, Option.map_some, if_pos (by omega),
      Option.getD_some]
  rw [ensureBacked_of_unbacked hu]
  refine Eq.trans (resolveRead_of_getD (s := s) ?_ hentry) ?_
  · rfl
  · rw [Nat.zero_add]

/-- Where the address reads now, a byte can be stored. -/
theorem ensureBacked_stores :
    let l := resolveRead (ensureBacked a s) a
    (l.region ≠ .unmappedRead ∧ l.region ≠ .zeroFill) ∧ l.offset < regionSize (ensureBacked a s) l.region := by
  intro l
  by_cases hu : (resolveRead s a).region = .unmappedRead ∨ (resolveRead s a).region = .zeroFill
  · have hl : l = ⟨.region s.regions.length, pageOffset s a⟩ := resolveRead_ensureBacked_of_unbacked h a hu
    have hoff : pageOffset s a < s.cfg.pageSize := Nat.mod_lt _ (pageSize_pos s.cfg)
    rw [hl, ensureBacked_of_unbacked hu]
    exact ⟨⟨nofun, nofun⟩, by simpa [regionSize] using hoff⟩
  · have hl : l = resolveRead s a := by unfold l; rw [ensureBacked_of_backed hu]
    rw [hl, ensureBacked_of_backed hu]
    exact ⟨not_or.mp hu, h.resolveRead_inside a⟩

/-- An address of another page that read another byte than the given one still does. -/
theorem resolveRead_ensureBacked_ne {b : Word} (hb : pageIndex s b ≠ pageIndex s a)
    (hne : resolveRead s b ≠ resolveRead s a) :
    resolveRead (ensureBacked a s) b ≠ resolveRead (ensureBacked a s) a := by
  rw [resolveRead_ensureBacked_of_ne a hb]
  by_cases hu : (resolveRead s a).region = .unmappedRead ∨ (resolveRead s a).region = .zeroFill
  · rw [resolveRead_ensureBacked_of_unbacked h a hu]
    intro e
    have hlt := h.resolveRead_inside b
    simp [e, regionSize] at hlt
  · rw [ensureBacked_of_backed hu]
    exact hne

end

/-! ### The halt opcode at the idle address (R530, R531) -/

section
variable {s : State}

theorem ensureHalt_of_halt (h : ptRead s s.cfg.idleAddr = s.cfg.family.haltOpcode) : ensureHalt s = s := if_pos h

theorem ensureHalt_frame (s : State) : ensureHalt s = { s with
    regions := (ensureHalt s).regions
    readPage := (ensureHalt s).readPage
    unmappedWrite := (ensureHalt s).unmappedWrite } := by
  unfold ensureHalt
  split
  · rfl
  · rw [poke, locWrite_frame, ensureBacked_frame]

/-- A location other than the one the idle address then reads holds what it held. -/
theorem locRead_ensureHalt {l : PageEntry} (hl : resolveRead (ensureHalt s) s.cfg.idleAddr ≠ l) :
    locRead (ensureHalt s) l = locRead s l := by
  unfold ensureHalt at hl ⊢
  split at hl
  · rename_i hh; rw [if_pos hh]
  · rename_i hh
    rw [if_neg hh, poke, locRead_locWrite, if_neg, locRead_ensureBacked]
    rw [poke, locWrite_resolveRead] at hl
    exact fun e => hl e.1.symm

theorem regionSize_ensureHalt {i : Nat} (hi : i < s.regions.length) :
    regionSize (ensureHalt s) (.region i) = regionSize s (.region i) := by
  unfold ensureHalt
  split
  · rfl
  · rw [poke, locWrite_regionSize, regionSize_ensureBacked hi]

variable (h : ReadInside s)
include h

theorem ptRead_ensureHalt_idle : ptRead (ensureHalt s) s.cfg.idleAddr = s.cfg.family.haltOpcode := by
  unfold ensureHalt
  split
  · assumption
  · rw [ptRead, poke, locWrite_resolveRead, locRead_locWrite, if_pos ⟨rfl, ensureBacked_stores h _⟩]

/-- No other address but those of the idle address's page or byte reads otherwise for it. -/
theorem ptRead_ensureHalt_of_ne {b : Word} (hb : pageIndex s b ≠ pageIndex s s.cfg.idleAddr)
    (hne : resolveRead s b ≠ resolveRead s s.cfg.idleAddr) : ptRead (ensureHalt s) b = ptRead s b := by
  unfold ensureHalt
  split
  · rfl
  · rw [ptRead, poke, locWrite_resolveRead, locRead_locWrite,
      if_neg (fun e => resolveRead_ensureBacked_ne h _ hb hne e.1), locRead_ensureBacked,
      resolveRead_ensureBacked_of_ne _ hb, ptRead]

end

/-! ### The memory of a track (R531) -/

/-- The memory of a new track before the halt opcode is ensured: the core reset, the regions built, the plan applied. -/
def mappedTrack (image : Image) (s : State) : State :=
  image.plan.foldl (fun u k => applyMap k u)
    { cpuReset s.cfg.unmappedFill s with regions := image.regions.map buildRegion }

theorem loadTrack_eq (image : Image) (s : State) : loadTrack image s = ensureHalt (mappedTrack image s) := rfl

/-- Everything the mapping plan can change. -/
theorem mappedTrack_frame (image : Image) (s : State) :
    mappedTrack image s = { cpuReset s.cfg.unmappedFill s with
      regions := image.regions.map buildRegion
      readPage := (mappedTrack image s).readPage
      writePage := (mappedTrack image s).writePage
      warning := (mappedTrack image s).warning
      refusals := (mappedTrack image s).refusals } := by
  unfold mappedTrack
  refine List.foldlRecOn image.plan _ (motive := fun u : State => u = { cpuReset s.cfg.unmappedFill s with
      regions := image.regions.map buildRegion
      readPage := u.readPage
      writePage := u.writePage
      warning := u.warning
      refusals := u.refusals }) rfl fun u hu c _ => ?_
  rw [applyMap_frame, hu]

theorem mappedTrack_readInside (image : Image) (s : State) : ReadInside (mappedTrack image s) := by
  refine List.foldlRecOn image.plan _ (motive := ReadInside) ⟨List.length_replicate, fun e he => ?_⟩
    fun u hu c _ => hu.applyMap c
  rw [List.eq_of_mem_replicate he]
  exact pageInside_window _ rfl

/-- What a region of the image holds before the halt opcode is ensured. -/
theorem mappedTrack_region {image : Image} {i : Nat} {r : RegionImage} (hr : image.regions[i]? = some r) (s : State) :
    i < (mappedTrack image s).regions.length ∧ regionSize (mappedTrack image s) (.region i) = r.size ∧
    ∀ o < r.size, locRead (mappedTrack image s) ⟨.region i, o⟩ = imageByte r o := by
  have hg : (mappedTrack image s).regions = image.regions.map buildRegion := by rw [mappedTrack_frame]
  obtain ⟨hi, -⟩ := List.getElem?_eq_some_iff.mp hr
  refine ⟨by rw [hg, List.length_map]; exact hi, ?_, fun o ho => ?_⟩
  · simp only [regionSize, hg, List.getElem?_map, hr, Option.map_some, Option.getD_some, buildRegion_size]
  · simp only [locRead, hg, List.getElem?_map, hr, Option.map_some, Option.getD_some]
    exact (buildRegion_read r o ho).2

/-- Everything loading a track can change. -/
theorem loadTrack_frame (image : Image) (s : State) :
    loadTrack image s = { cpuReset s.cfg.unmappedFill s with
      regions := (loadTrack image s).regions
      readPage := (loadTrack image s).readPage
      writePage := (loadTrack image s).writePage
      unmappedWrite := (loadTrack image s).unmappedWrite
      warning := (loadTrack image s).warning
      refusals := (loadTrack image s).refusals } := by
  rw [loadTrack_eq, ensureHalt_frame, mappedTrack_frame]

theorem ptRead_loadTrack_idle (image : Image) (s : State) :
    ptRead (loadTrack image s) s.cfg.idleAddr = s.cfg.family.haltOpcode := by
  have h := ptRead_ensureHalt_idle (mappedTrack_readInside image s)
  have hc : (mappedTrack image s).cfg = s.cfg := by rw [mappedTrack_frame]; rfl
  rwa [hc] at h

end Sys2Proof.Machine
end

section
/-! PROOFS. `start_track` (O59): the machine a track is armed on, what the two pushes of its entry leave alone, and the
end of the init phase. -/

namespace Sys2Proof.Machine

/-! ### Stores that meet no handler (R81) -/

/-- Stores at some of the addresses given, with register changes between: what they leave alone, and what the addresses
that read no byte they store at still read. -/
structure StoredAt (as : List Word) (s t : State) : Prop where
  frame : t = { s with pc := t.pc, m := t.m, z := t.z, regions := t.regions, unmappedWrite := t.unmappedWrite }
  regions : t.regions.length = s.regions.length
  read : ∀ b, (∀ a ∈ as, resolveWrite s a ≠ resolveRead s b) → ptRead t b = ptRead s b

section
variable {as : List Word} {s t u : State}

theorem StoredAt.refl (as : List Word) (s : State) : StoredAt as s s := ⟨rfl, rfl, fun _ _ => rfl⟩

theorem StoredAt.regs (h : StoredAt as s t) (e : u = { t with pc := u.pc, m := u.m, z := u.z }) : StoredAt as s u := by
  obtain ⟨hframe, hregions, hread⟩ := h
  refine ⟨?_, ?_, fun b hb => (?_ : ptRead u b = ptRead t b).trans (hread b hb)⟩
  · rw [e, hframe]
  · rw [e]; exact hregions
  · rw [e]; rfl

theorem StoredAt.write (h : StoredAt as s t) {a : Word} (ha : a ∈ as) (hp : writeHandler s.cfg a = none) (v : Byte) :
    StoredAt as s (memWrite a v t) := by
  obtain ⟨hframe, hregions, hread⟩ := h
  have hc : t.cfg = s.cfg := by rw [hframe]
  have hr : t.readPage = s.readPage := by rw [hframe]
  have hw : t.writePage = s.writePage := by rw [hframe]
  rw [memWrite_plain a v t (hc ▸ hp)]
  refine ⟨?_, ?_, fun b hb => ?_⟩
  · rw [ptWrite_frame, hframe]
  · rw [ptWrite, locWrite_regions_length, hregions]
  · rw [ptRead_ptWrite, resolveRead_congr hc hr, resolveWrite_congr hc hw,
      if_neg (fun e => hb a ha e.1.symm), hread b hb]

end

/-- The pushes of `jsr_then_stop`, where they meet no handler. -/
theorem jsrPushed_storedAt (addr : Word) {s : State} (h : ∀ a ∈ pushedAt s, writeHandler s.cfg a = none) :
    StoredAt (pushedAt s) s (jsrPushed addr s) := by
  unfold jsrPushed
  cases hf : s.cfg.family with
  | m6502 =>
    have h1 : stackPage s.m.sp ∈ pushedAt s := by simp [pushedAt, hf]
    have h2 : stackPage (BitVec.ofNat 8 (s.m.sp.toNat + 255)) ∈ pushedAt s := by simp [pushedAt, hf]
    exact ((((StoredAt.refl _ s).write h1 (h _ h1) _).regs rfl).write h2 (h _ h2) _).regs rfl
  | z80 =>
    have h1 : BitVec.ofNat 16 (s.z.sp.toNat + 65535) ∈ pushedAt s := by simp [pushedAt, hf]
    have h2 : BitVec.ofNat 16 (s.z.sp.toNat + 65534) ∈ pushedAt s := by simp [pushedAt, hf]
    exact (((((StoredAt.refl _ s).regs rfl).write h1 (h _ h1) _).regs rfl).write h2 (h _ h2) _).regs rfl

/-! ### The chips of a new track (R66, R531) -/

theorem chipsReset_eq (s : State) :
    chipsReset s = { s with
      nes := if .nesApu ∈ s.cfg.chips then Nes.reset s.cfg.nesConsts else s.nes
      ay := if .ay ∈ s.cfg.chips then Ay.reset s.cfg.ayConsts else s.ay
      pokey := if .pokey ∈ s.cfg.chips then Pokey.reset else s.pokey } := by
  have fold (l : List Chip) (u : State) : l.foldl (fun s c => chipReset c s) u = { u with
      nes := if .nesApu ∈ l then Nes.reset u.cfg.nesConsts else u.nes
      ay := if .ay ∈ l then Ay.reset u.cfg.ayConsts else u.ay
      pokey := if .pokey ∈ l then Pokey.reset else u.pokey } := by
    induction l generalizing u with
    | nil => rfl
    | cons c l ih =>
      rw [List.foldl_cons, ih]
      cases c <;> simp [chipReset]
  exact fold s.cfg.chips s

/-! ### The registers at the entry (R532) -/

theorem setEntryReg_congr {s t : State} (hm : t.m = s.m) (hz : t.z = s.z) (k : Nat) (e : EntrySet) :
    (setEntryReg k t e).m = (setEntryReg k s e).m ∧ (setEntryReg k t e).z = (setEntryReg k s e).z := by
  obtain ⟨r, v⟩ := e
  cases r <;> simp only [setEntryReg, hm, hz, and_self]

/-- The entry registers depend on the registers alone. -/
theorem setEntryRegs_congr {s t : State} (hm : t.m = s.m) (hz : t.z = s.z) (es : List EntrySet) (k : Nat) :
    (setEntryRegs es k t).m = (setEntryRegs es k s).m ∧ (setEntryRegs es k t).z = (setEntryRegs es k s).z := by
  induction es generalizing s t with
  | nil => exact ⟨hm, hz⟩
  | cons e es ih =>
    obtain ⟨hm', hz'⟩ := setEntryReg_congr hm hz k e
    exact ih hm' hz'

theorem setStack_congr {s t : State} (hc : t.cfg = s.cfg) (hm : t.m = s.m) (hz : t.z = s.z) :
    (setStack t).m = (setStack s).m ∧ (setStack t).z = (setStack s).z := by
  unfold setStack
  rw [hc]
  cases s.cfg.family <;> simp only [hm, hz, and_self]

/-- The registers a track's init routine is entered with, before the return address is pushed. -/
def entered (index : Nat) (l : State) : State := setEntryRegs l.cfg.entryInit index (setStack l)

/-- The driver's own fields at the start of a track, and the registers given (R67, R531, R532). -/
def armedWith (index : Nat) (image : Image) (period : Nat) (m : M6502Regs) (z : Z80Regs) (s : State) : State :=
  { s with
    suspended := none, playCalls := 0, track := index, started := true, initAddr := image.initAddr
    playAddr := image.playAddr, image := image, playPeriod := period, m := m, z := z }

theorem entered_armDriver {index : Nat} {image : Image} {s l : State} (hc : s.cfg = l.cfg) (hm : s.m = l.m)
    (hz : s.z = l.z) :
    entered index (armDriver index image s) =
      armedWith index image (periodAt (image.period s.cfg) s.tempo) (entered index l).m (entered index l).z s := by
  obtain ⟨hsm, hsz⟩ := setStack_congr (s := l) (t := armDriver index image s) hc hm hz
  obtain ⟨hem, hez⟩ := setEntryRegs_congr hsm hsz l.cfg.entryInit index
  have hcfg : (armDriver index image s).cfg = l.cfg := hc
  rw [entered, hcfg, setEntryRegs_frame, hem, hez, setStack_frame]
  rfl

theorem chipsMuted_armedWith (mask index period : Nat) (image : Image) (m : M6502Regs) (z : Z80Regs) (chips : List Chip)
    (s : State) :
    chips.foldl (chipMuted mask) (armedWith index image period m z s) =
      armedWith index image period m z (chips.foldl (chipMuted mask) s) :=
  List.foldl_hom (armedWith index image period m z) fun _ c => by cases c <;> rfl

section
variable (index : Nat) (image : Image) (s : State)

theorem loadTrack_cfg : (loadTrack image s).cfg = s.cfg := by rw [loadTrack_frame]; rfl
theorem loadTrack_tempo : (loadTrack image s).tempo = s.tempo := by rw [loadTrack_frame]; rfl
theorem loadTrack_voiceMute : (loadTrack image s).voiceMute = s.voiceMute := by rw [loadTrack_frame]; rfl
theorem loadTrack_nes : (loadTrack image s).nes = s.nes := by rw [loadTrack_frame]; rfl
theorem loadTrack_ay : (loadTrack image s).ay = s.ay := by rw [loadTrack_frame]; rfl
theorem loadTrack_pokey : (loadTrack image s).pokey = s.pokey := by rw [loadTrack_frame]; rfl

/-- The machine of a new track with its chips reset. -/
def freshTrack : State :=
  { loadTrack image s with
    nes := if .nesApu ∈ s.cfg.chips then Nes.reset s.cfg.nesConsts else s.nes
    ay := if .ay ∈ s.cfg.chips then Ay.reset s.cfg.ayConsts else s.ay
    pokey := if .pokey ∈ s.cfg.chips then Pokey.reset else s.pokey }

theorem chipsReset_loadTrack : chipsReset (loadTrack image s) = freshTrack image s := by
  rw [chipsReset_eq, freshTrack, loadTrack_cfg, loadTrack_nes, loadTrack_ay, loadTrack_pokey]

/-- The machine on which `jsr_then_stop` enters the init routine of a new track. -/
def armedTrack : State :=
  let l := loadTrack image s
  s.cfg.chips.foldl (chipMuted s.voiceMute)
    (armedWith index image (periodAt (image.period s.cfg) s.tempo) (entered index l).m (entered index l).z
      (freshTrack image s))

/-- What `start_track` does before it enters the init routine. -/
theorem entered_muted :
    entered index (armDriver index image (muteAll s.voiceMute (freshTrack image s))) = armedTrack index image s := by
  have hw := chipsMuted_frame s.voiceMute s.cfg.chips (freshTrack image s)
  have hmute : muteAll s.voiceMute (freshTrack image s) =
      s.cfg.chips.foldl (chipMuted s.voiceMute) (freshTrack image s) := by
    rw [muteAll_eq, freshTrack, loadTrack_cfg]
  rw [armedTrack, chipsMuted_armedWith, hmute]
  generalize s.cfg.chips.foldl (chipMuted s.voiceMute) (freshTrack image s) = w at hw
  have hc : w.cfg = (loadTrack image s).cfg := by rw [hw]; rfl
  have hm : w.m = (loadTrack image s).m := by rw [hw]; rfl
  have hz : w.z = (loadTrack image s).z := by rw [hw]; rfl
  have ht : w.tempo = s.tempo := by rw [hw]; exact loadTrack_tempo image s
  rw [entered_armDriver hc hm hz, ht, hc, loadTrack_cfg]

/-- A `start_track` that succeeds. -/
theorem startTrack_eq (h : index < image.trackCount) :
    startTrack index image s =
      beginSlice .initPhase (image.budget s.cfg) (jsrPushed image.initAddr (armedTrack index image s)) := by
  have hcfg : (armedTrack index image s).cfg = s.cfg := by
    rw [armedTrack, chipsMuted_frame]
    exact loadTrack_cfg image s
  have hmask : (freshTrack image s).voiceMute = s.voiceMute := loadTrack_voiceMute image s
  have h4 : startTrack index image s =
      (let w := entered index (armDriver index image
        (muteAll (chipsReset (loadTrack image s)).voiceMute (chipsReset (loadTrack image s))))
       beginSlice .initPhase (image.budget w.cfg) (jsrThenStop image.initAddr w)) :=
    if_neg (Nat.not_le.mpr h)
  rw [h4, chipsReset_loadTrack, hmask, entered_muted, ← jsrThenStop_eq_jsrPushed]
  dsimp only
  rw [hcfg]

/-- What the armed machine has from the loaded one: all but the chips, the sink, the registers and the driver's
fields. -/
theorem armedTrack_frame :
    armedTrack index image s =
      { armedWith index image (periodAt (image.period s.cfg) s.tempo) (entered index (loadTrack image s)).m
          (entered index (loadTrack image s)).z (loadTrack image s) with
        nes := (armedTrack index image s).nes
        ay := (armedTrack index image s).ay
        pokey := (armedTrack index image s).pokey
        sink := (armedTrack index image s).sink } := by
  rw [armedTrack, chipsMuted_frame]
  rfl

theorem armedTrack_cfg : (armedTrack index image s).cfg = s.cfg := by
  rw [armedTrack_frame]
  exact loadTrack_cfg image s

theorem armedTrack_m : (armedTrack index image s).m = (entered index (loadTrack image s)).m := by
  rw [armedTrack_frame]
  rfl

theorem armedTrack_z : (armedTrack index image s).z = (entered index (loadTrack image s)).z := by
  rw [armedTrack_frame]
  rfl

theorem jsrPushed_armedTrack_time : (jsrPushed image.initAddr (armedTrack index image s)).time = 0 := by
  rw [← jsrThenStop_eq_jsrPushed, jsrThenStop_time, armedTrack_frame, loadTrack_frame]
  rfl

/-- The machine once the init routine is entered: the host's fields as they were, the core's and the driver's armed. -/
theorem jsrPushed_armedTrack_fields :
    let t := jsrPushed image.initAddr (armedTrack index image s)
    t.cfg = s.cfg ∧ t.calls = s.calls ∧ t.results = s.results ∧ t.errorCount = 0 ∧ t.suspended = none ∧
    t.playCalls = 0 ∧ t.track = index ∧ t.started = true ∧ t.initAddr = image.initAddr ∧
    t.playAddr = image.playAddr ∧ t.image = image ∧ t.tempo = s.tempo ∧ t.voiceMute = s.voiceMute ∧
    t.nextPlayTime = s.nextPlayTime ∧ t.playPeriod = periodAt (image.period s.cfg) s.tempo := by
  dsimp only
  rw [← jsrThenStop_eq_jsrPushed, jsrThenStop_frame image.initAddr (armedTrack index image s), armedTrack_frame,
    loadTrack_frame]
  exact ⟨rfl, rfl, rfl, rfl, rfl, rfl, rfl, rfl, rfl, rfl, rfl, rfl, rfl, rfl, rfl⟩

end

/-! ### The entry registers of the spec's machines (R532) -/

theorem lo8_ofNat (n : Nat) : lo8 (BitVec.ofNat 16 n) = BitVec.ofNat 8 n := by
  rw [lo8_eq]
  apply BitVec.eq_of_toNat_eq
  simp only [BitVec.toNat_ofNat]
  omega

/-- The stack pointer of the M6502 after two pushes, from the low byte of `INIT_SP`. -/
theorem lo8_sub_two (w : Word) : BitVec.ofNat 8 ((lo8 w).toNat + 254) = BitVec.ofNat 8 (w.toNat + 254) := by
  rw [lo8_eq]
  apply BitVec.eq_of_toNat_eq
  simp only [BitVec.toNat_ofNat]
  omega

section
variable {l : State} (index : Nat)

theorem entered_m6502 (hf : l.cfg.family = .m6502) (he : l.cfg.entryInit = [⟨.mA, .track⟩]) :
    entered index l = { l with m := { l.m with sp := lo8 l.cfg.initSp, a := BitVec.ofNat 8 index } } := by
  rw [entered, he, setStack, hf, ← lo8_ofNat]
  rfl

theorem entered_z80 (hf : l.cfg.family = .z80) (he : l.cfg.entryInit = [⟨.zR8 .a, .track⟩]) :
    entered index l = { l with z := { l.z with sp := l.cfg.initSp, a := BitVec.ofNat 8 index } } := by
  rw [entered, he, setStack, hf, ← lo8_ofNat]
  rfl

end

section
variable (index : Nat) (image : Image) (s : State)

theorem jsrPushed_armedTrack_m6502 (hf : s.cfg.family = .m6502) (he : s.cfg.entryInit = [⟨.mA, .track⟩]) :
    let t := jsrPushed image.initAddr (armedTrack index image s)
    t.z = Z80Regs.reset ∧
    t.m = ⟨BitVec.ofNat 8 index, 0, 0, BitVec.ofNat 8 (s.cfg.initSp.toNat + 254),
      ⟨false, false, false, false, false, false⟩⟩ := by
  have hc := loadTrack_cfg image s
  have hl := entered_m6502 (l := loadTrack image s) index (hc ▸ hf) (hc ▸ he)
  dsimp only
  rw [← jsrThenStop_eq_jsrPushed, jsrThenStop_m, jsrThenStop_z, armedTrack_cfg, hf, armedTrack_m, armedTrack_z, hl, hc,
    loadTrack_frame]
  exact ⟨rfl, congrArg (fun sp => (⟨_, 0, 0, sp, _⟩ : M6502Regs)) (lo8_sub_two _)⟩

theorem jsrPushed_armedTrack_z80 (hf : s.cfg.family = .z80) (he : s.cfg.entryInit = [⟨.zR8 .a, .track⟩]) :
    let t := jsrPushed image.initAddr (armedTrack index image s)
    t.m = M6502Regs.reset ∧
    t.z = { Z80Regs.reset with
      a := BitVec.ofNat 8 index, sp := BitVec.ofNat 16 (s.cfg.initSp.toNat + 65534) } := by
  have hc := loadTrack_cfg image s
  have hl := entered_z80 (l := loadTrack image s) index (hc ▸ hf) (hc ▸ he)
  dsimp only
  rw [← jsrThenStop_eq_jsrPushed, jsrThenStop_m, jsrThenStop_z, armedTrack_cfg, hf, armedTrack_m, armedTrack_z, hl, hc,
    loadTrack_frame]
  exact ⟨rfl, rfl⟩

/-- Where the pushes of the entry meet no handler, the chips and the sink are as attached, and every byte the pushes do
not touch is as loaded. -/
theorem jsrPushed_armedTrack_plain (hp : ∀ a ∈ pushedAt (armedTrack index image s), writeHandler s.cfg a = none) :
    let l := loadTrack image s
    let u := armedTrack index image s
    let t := jsrPushed image.initAddr u
    t.nes = u.nes ∧ t.ay = u.ay ∧ t.pokey = u.pokey ∧ t.sink = u.sink ∧ t.readPage = l.readPage ∧
    t.writePage = l.writePage ∧ t.regions.length = l.regions.length ∧
    (∀ b : Word, (∀ a ∈ pushedAt u, resolveWrite u a ≠ resolveRead u b) →
      ptRead t b = ptRead l b ∧ (b = s.cfg.idleAddr → ptRead t b = s.cfg.family.haltOpcode)) := by
  intro l u t
  have hu : u = _ := armedTrack_frame index image s
  obtain ⟨hframe, hregions, hread⟩ : StoredAt (pushedAt u) u t :=
    jsrPushed_storedAt image.initAddr (by rw [armedTrack_cfg]; exact hp)
  have hbytes (b : Word) : ptRead u b = ptRead l b := by rw [hu]; rfl
  refine ⟨by rw [hframe], by rw [hframe], by rw [hframe], by rw [hframe], ?_, ?_, ?_, fun b hb => ?_⟩
  · rw [hframe, hu]; rfl
  · rw [hframe, hu]; rfl
  · rw [hregions, hu]; rfl
  · have hl := (hread b hb).trans (hbytes b)
    refine ⟨hl, ?_⟩
    rintro rfl
    exact hl.trans (ptRead_loadTrack_idle image s)

end

/-! ### The end of the init phase (R531, R22) -/

/-- However the init slice ends, the driver closes the init phase. -/
theorem step_initPhase {s : State} (hc : s.control = .slice .initPhase)
    (h : s.phase = .haltedAtIdle ∨ s.phase = .haltedElsewhere ∨ s.endTime ≤ s.time) :
    step s = .next (finish .success
      { rebaseEndTime s.time (closeFrame s.time s) with time := 0, nextPlayTime := 0 }) := by
  rw [step_slice hc]
  unfold sliceStep
  split
  · rfl
  · rfl
  · rename_i hi he
    rw [if_pos ((h.resolve_left hi).resolve_left he)]
    rfl

/-! ### The statement -/

/-- Settles O59: the index, the machine armed, its memory, and the end of the init phase. -/
theorem startTrackArmsTheMachine : Obligations.StartTrackArmsTheMachine := by
  refine ⟨fun s cs index image hc hcalls hi => ?badIndex, fun s cs index image hc hcalls hi => ?armed,
    fun s image => ?memory, fun s hc h => ?initEnd⟩
  case badIndex =>
    have hbad : startTrack index image { s with calls := cs } =
        finish (.failure "bad track index") { s with calls := cs } :=
      if_pos hi
    rw [step_host hc hcalls, hostCall, hbad, finish_host (by exact hc)]
  case armed =>
    intro l regs period u
    have hu : armedTrack index image { s with calls := cs } = u := by
      rw [armedTrack, entered, loadTrack_cfg]
      rfl
    clear_value u
    subst hu
    have hstep : step s = .next (beginSlice .initPhase (image.budget s.cfg)
        (jsrPushed image.initAddr (armedTrack index image { s with calls := cs }))) := by
      rw [step_host hc hcalls, hostCall, startTrack_eq index image _ hi]
    obtain ⟨hcfg, hcalls', hresults, herrors, hsuspended, hplays, htrack, hstarted, hinit, hplay, himage, htempo, hmute,
      hnext, hperiod⟩ := jsrPushed_armedTrack_fields index image { s with calls := cs }
    exact ⟨_, hstep, rfl, hcfg, hcalls', hresults, jsrPushed_armedTrack_time index image _, herrors,
      by rw [← jsrThenStop_eq_jsrPushed]; exact jsrThenStop_pc _ _, hsuspended, hplays, htrack, hstarted, hinit, hplay,
      himage, htempo, hmute, hnext, hperiod, jsrPushed_armedTrack_m6502 index image { s with calls := cs },
      jsrPushed_armedTrack_z80 index image { s with calls := cs },
      jsrPushed_armedTrack_plain index image { s with calls := cs }⟩
  case memory =>
    intro built t idle
    have hb : built = mappedTrack image s := rfl
    have ht : t = ensureHalt (mappedTrack image s) := rfl
    have hc : (mappedTrack image s).cfg = s.cfg := by rw [mappedTrack_frame]; rfl
    clear_value built t
    subst hb ht
    have hin := mappedTrack_readInside image s
    refine ⟨?halt, fun h => ?kept, ensureHalt_frame _, fun b hpage hne => ?elsewhere, fun i o r hr => ?region⟩
    case halt => exact ptRead_loadTrack_idle image s
    case kept => exact ensureHalt_of_halt (by rw [hc]; exact h)
    case elsewhere =>
      refine ptRead_ensureHalt_of_ne hin ?_ ?_
      · rw [pageIndex, pageIndex, hc]; exact hpage
      · rw [hc]; exact hne
    case region =>
      obtain ⟨hi, hsize, hbytes⟩ := mappedTrack_region hr s
      exact ⟨(regionSize_ensureHalt hi).trans hsize,
        fun ho hl => (locRead_ensureHalt (by rw [hc]; exact hl)).trans (hbytes o ho)⟩
  case initEnd =>
    obtain ⟨k, hk, hsink⟩ := closeFrame_sink s.time s
    have hclosed := closeFrame_frame s.time s
    have hend (n : Int) : (closeFrame s.time s).cfg.endTimeRebase.apply n (closeFrame s.time s).endTime =
        s.cfg.endTimeRebase.apply n s.endTime := by rw [hclosed]
    have hsuffix : s.sink <:+ (closeFrame s.time s).sink := hsink ▸ hk.trans (List.suffix_cons _ _)
    have hresults : (closeFrame s.time s).results = s.results := by rw [hclosed]
    have hpc : (closeFrame s.time s).pc = s.pc := by rw [hclosed]
    have hm : (closeFrame s.time s).m = s.m := by rw [hclosed]
    have hz : (closeFrame s.time s).z = s.z := by rw [hclosed]
    have hregions : (closeFrame s.time s).regions = s.regions := by rw [hclosed]
    have hwarning : (closeFrame s.time s).warning = s.warning := by rw [hclosed]
    exact ⟨_, step_initPhase hc h, rfl, rfl, rfl, fun hr => (hend s.time).trans (by rw [hr]; rfl),
      fun hr => (hend s.time).trans (by rw [hr]; rfl), congrArg (HostResult.success :: ·) hresults,
      congrArg List.head? hsink, hsuffix, hpc, hm, hz, hregions, hwarning⟩

end Sys2Proof.Machine
end
